-- ==== Sys2Proof/Word.lean ====
section
/-! DEFINITION. The byte and word types of the serial line and the module memories, and the plainest exact arithmetic
the manual names: "Ceil", "Clamped to a..b" (00_scope.md, section 4, Arithmetic). Every quantity of the 860 is an
integer that never wraps, so quantities are `Nat` and `Int`; only bytes and the CRC register are bit vectors. -/

namespace Sys2Proof

/-- One byte of a frame or of a module record. -/
abbrev Byte := BitVec 8

/-- The CRC register of R172. -/
abbrev Crc := BitVec 16

/-- "Ceil" of a quotient: rounds toward plus infinity. -/
def ceilDiv (a b : Nat) : Nat := (a + b - 1) / b

/-- "Clamped to lo..hi" for unsigned quantities. -/
def clampNat (lo hi n : Nat) : Nat := if n < lo then lo else if hi < n then hi else n

/-- "Clamped to lo..hi" for signed quantities. -/
def clampInt (lo hi n : Int) : Int := if n < lo then lo else if hi < n then hi else n

end Sys2Proof
end

