-- ==== Sys2Proof/Config.lean ====
section
/-! DEFINITION. The constants the manual fixes for every 860: sizes, limits, deadlines and volumes, each with the rule or
table that states it. What one printer's factory store holds (K, profile 0, acceptance entries 0 to 5) is no constant
here: it arrives with POWER_ON (R181). -/

namespace Sys2Proof.Config

/-! ## Feed drive (Chapter 1) -/

/-- The scale of the residue R, 10^12 (Table 1-2, R6). -/
def residueScale : Nat := 1000000000000
/-- One million: ppm, and µm per metre (R6, R8). -/
def million : Nat := 1000000
/-- The longest move, µm (R3). -/
def maxMove : Nat := 3000000
/-- S lies within ±20,000 ppm (R4). -/
def totalTrimLimit : Int := 20000
/-- S_host lies within ±10,000 ppm (R5). -/
def hostTrimLimit : Int := 10000
/-- S_track lies within ±5,000 ppm (R16). -/
def trackTrimLimit : Int := 5000
/-- First-count deadline, ms (R9). -/
def stallTime : Nat := 30
/-- Fixed part of the completion deadline, ms (R10). -/
def completionBase : Nat := 60
/-- Least slip limit, µm (R15). -/
def slipFloor : Nat := 300
/-- Shortest move that updates the trim, µm (R16). -/
def trimMinMove : Nat := 10000
/-- The range of K that the factory store check admits, counts per metre (R181). -/
def kMin : Nat := 250000
def kMax : Nat := 400000

/-! ## Media path (Chapter 2) -/

/-- The two path distances of the factory store, µm: "fixed at the factory" (00_scope.md 1.2, R181, Table 2-2). -/
def rollToCutter : Nat := 650000
def printToCutter : Nat := 120000
/-- Lead-edge sensor line to cutter line, µm (Table 2-2, R31). -/
def leadEdgeLine : Nat := 90000
/-- The edge search move, µm (R29). -/
def edgeSearch : Nat := 400000
/-- The extra length of a rewind, µm (R32, R34). -/
def rewindExtra : Nat := 50000
/-- The first move of a remainder ejection, µm (R38). -/
def ejectFirst : Nat := 700000
/-- Widths that agree, µm (R30, R36). -/
def widthTolerance : Nat := 3000
/-- Declared width limits, µm (Table 2-3). -/
def widthMin : Nat := 279000
def widthMax : Nat := 1118000
/-- Largest remaining length, µm (Table 2-3). -/
def maxRemaining : Nat := 300000000
/-- Cutter deadline, ms (R40). -/
def cutterTime : Nat := 2500
/-- Exit watch, ms (R41). -/
def exitTime : Nat := 4000
/-- Largest stack count (R41). -/
def maxStack : Nat := 200

/-! ## Sheets (Chapter 3) -/

def minSheet : Nat := 50000
def maxSheet : Nat := 20000000
/-- Largest advance of one swath, µm (R53). -/
def maxAdvance : Nat := 120000
/-- Entries of the swath queue (R54). -/
def swathSlots : Nat := 8
/-- Records of the trailing list (R59). -/
def trailingMax : Nat := 64
/-- Length the trailing list covers, µm (R59). -/
def trailingCover : Nat := 300000
/-- Largest ink density and largest dry time (R62). -/
def maxDensity : Nat := 10000
def maxDry : Nat := 600000

/-! ## Bays and the module bus (Chapter 4) -/

/-- Cartridge capacity limits, nL (Table 4-3). -/
def cartMin : Nat := 50000000
def cartMax : Nat := 1000000000
/-- Waste tank capacity limits, nL (R91). -/
def tankMin : Nat := 50000000
def tankMax : Nat := 500000000
/-- Bus times, ms (Table 4-6). -/
def readTime : Nat := 20
def writeTime : Nat := 12

/-! ## Sub-tanks and pump (Table 5-2) -/

def tankCapacity : Nat := 20000000
def fullMark : Nat := 19000000
def lowMark : Nat := 4000000
def refillThreshold : Nat := 12000000
def printReserve : Nat := 2500000
def holdRelease : Nat := 4000000
def strokeVolume : Nat := 40000
def strokeTime : Nat := 200
def pulseWindow : Nat := 150
def ageingStep : Nat := 2000
/-- Strokes of margin in the stroke limit (R107). -/
def strokeMargin : Nat := 25
/-- Missing strokes that make a no-flow (R110). -/
def missingLimit : Nat := 3
/-- Strokes of a stir (R114). -/
def stirStrokes : Nat := 20
/-- Largest value of a stir timer, ms (Table 5-1). -/
def stirTimerMax : Nat := 3600000
/-- The scale of the drop residue: 10,000 tenths of a picolitre make a nanolitre (R94). -/
def dropScale : Nat := 10000

/-! ## Carriage, waste and cleaning (Chapters 6 and 7) -/

def sledTime : Nat := 800
def returnTime : Nat := 2000
def wipeTime : Nat := 1500
def scanTime : Nat := 3000
/-- Travel between two readings of a width scan, µm (R128). -/
def widthPitch : Nat := 100
/-- The darkness that separates media from bare path (R128). -/
def edgeDarkness : Nat := 128
/-- Fixed part of the suction deadline, ms (R130). -/
def suctionBase : Nat := 3000
/-- A credit that leaves W this far above last written is written back, nL (R134). -/
def wasteStep : Nat := 1000000
/-- Largest value of a wet clock, ms (R137). -/
def wetMax : Nat := 600000
/-- Drops of a service spit per channel (R149). -/
def serviceSpit : Nat := 204800
/-- Firing time of a service spit, ms (R149). -/
def spitTime : Nat := 400
/-- The pre-purge wait, ms (R146). -/
def prePurgeWait : Nat := 90000

/-! ## Nozzle check (Chapter 8) -/

def nozzles : Nat := 1024
/-- Samples of a check pass (R158). -/
def passSamples : Nat := 1037
def leadInSamples : Nat := 8
def gapSamples : Nat := 4
/-- Drops of a ladder per channel (R158). -/
def ladderDrops : Nat := 40960
def checkLead : Nat := 10000
def checkPattern : Nat := 30000
/-- Remaining length a round needs, µm (R164). -/
def roundLength : Nat := 160000
def calibrationTime : Nat := 100
/-- Calibration limits (R156). -/
def calibWhite : Nat := 40
def calibDark : Nat := 200
def maxCheckCount : Nat := 65535
/-- Pairs in one HEALTH_READ reply (R163). -/
def healthPairs : Nat := 60

/-! ## Serial link (Chapter 9) -/

def startByte : Nat := 0xC3
def lenMin : Nat := 2
def lenMax : Nat := 250
/-- The longest gap inside a frame, ms (R172). -/
def frameGap : Nat := 2
def maxLinkErrors : Nat := 65535
/-- Frames of the receive buffer (R173). -/
def bufferSlots : Nat := 4
/-- Frames of the transmit queue, and the slots kept for replies and completions (R178). -/
def queueSlots : Nat := 48
def keptSlots : Nat := 17
/-- Entries of the outstanding table (R175). -/
def tableSlots : Nat := 16

end Sys2Proof.Config
end

