-- ==== Sys2Proof/Syntax.lean ====
section
/-! DEFINITION. The commands of the block: one constructor of `Instr` for each row of spec/opcode_table.json, with the
operands the row's rule gives it. The names of channels, heads, rows, slots and bays (Table 1-1), the records a command
carries, and the request a good frame stands for. Host requests carry their fields as the line carries them (numbers that
may lie outside the field's range, which the owning block then clamps or refuses: R189); reports of the mechanism carry
what the sensor shows at that moment. -/

namespace Sys2Proof

/-! ## Names of the plant (Table 1-1) -/

/-- The six ink channels: 0 LK, 1 MK, 2 C, 3 M, 4 Y, 5 GY. -/
inductive Chan where
  | c0 | c1 | c2 | c3 | c4 | c5
  deriving DecidableEq, Repr

/-- The three printheads. -/
inductive Head where
  | h0 | h1 | h2
  deriving DecidableEq, Repr

/-- The two nozzle rows of a head. -/
inductive Row where
  | r0 | r1
  deriving DecidableEq, Repr

/-- The two roll slots, numbered 1 and 2. -/
inductive Slot where
  | s1 | s2
  deriving DecidableEq, Repr

/-- The two bays of a channel. -/
inductive Letter where
  | a | b
  deriving DecidableEq, Repr

/-- One of the twelve cartridge bays, for example 3B (Table 4-1). -/
structure Bay where
  chan : Chan
  letter : Letter
  deriving DecidableEq, Repr

/-- The two floats of a sub-tank (Table 5-1). -/
inductive FloatSwitch where
  | full | low
  deriving DecidableEq, Repr

/-- The two lead-edge sensors, at 20 mm and at 260 mm from the left datum (Table 1-1). -/
inductive EdgeSensor where
  | left | right
  deriving DecidableEq, Repr

/-! ## A fixed number of like things -/

/-- One value for each channel. -/
structure Chans (α : Type) where
  c0 : α
  c1 : α
  c2 : α
  c3 : α
  c4 : α
  c5 : α
  deriving DecidableEq, Repr

/-- One value for each head. -/
structure Heads (α : Type) where
  h0 : α
  h1 : α
  h2 : α
  deriving DecidableEq, Repr

/-- One value for each row of a head. -/
structure Rows (α : Type) where
  r0 : α
  r1 : α
  deriving DecidableEq, Repr

/-- One value for each roll slot. -/
structure Slots (α : Type) where
  s1 : α
  s2 : α
  deriving DecidableEq, Repr

/-- One value for each bay of a channel. -/
structure Bays (α : Type) where
  a : α
  b : α
  deriving DecidableEq, Repr

/-! ## Records that commands carry -/

/-- A media profile entry (Table 2-5). -/
structure Profile where
  name : List Byte
  sProfile : Int
  skewLimit : Nat
  tracking : Bool
  baseDry : Nat
  dryCoeff : Nat
  freshTrim : Nat
  rethreadTrim : Nat
  margin : Nat
  deriving DecidableEq, Repr

/-- The kind of an acceptance entry (Table 4-4). -/
inductive AcceptKind where
  | accept | reject
  deriving DecidableEq, Repr

/-- The four channel parameters (Table 4-4, R82). -/
structure Params where
  drop : Nat
  purge : Nat
  keepWet : Nat
  settle : Nat
  deriving DecidableEq, Repr

/-- An ink acceptance entry (Table 4-4). `chans` says for each channel whether it is in the entry's channel set. -/
structure Accept where
  enabled : Bool
  kind : AcceptKind
  code : Nat
  mask : Nat
  chans : Chans Bool
  params : Params
  deriving DecidableEq, Repr

/-- PROFILE_SET's fields as the line carries them: the tracking choice is still a byte (R188, R189). -/
structure ProfileFields where
  name : List Byte
  sProfile : Int
  skewLimit : Nat
  tracking : Nat
  baseDry : Nat
  dryCoeff : Nat
  freshTrim : Nat
  rethreadTrim : Nat
  margin : Nat
  deriving DecidableEq, Repr

/-- ACCEPT_SET's fields as the line carries them; in the channel set byte bit ch stands for channel ch (R188). -/
structure AcceptFields where
  enabled : Nat
  kind : Nat
  code : Nat
  mask : Nat
  chans : Nat
  drop : Nat
  purge : Nat
  keepWet : Nat
  settle : Nat
  deriving DecidableEq, Repr

/-- MASK_SET's fields as the line carries them. -/
structure MaskFields where
  enabled : Nat
  kind : Nat
  head : Nat
  row : Nat
  base : Nat
  ignore : Nat
  deriving DecidableEq, Repr

/-- What the factory store holds (R181). `checkOk` says that the store's own check value agrees with its contents. -/
structure Store where
  checkOk : Bool
  k : Nat
  accepts : Chans Accept
  profile0 : Profile
  deriving DecidableEq, Repr

/-- What every switch and sensor shows at power-on (R45, R92, R116, R117). -/
structure Sensors where
  bays : Chans (Bays Bool)
  tank : Bool
  rollPresent : Slots Bool
  rollEnd : Slots Bool
  pathEntry : Slots Bool
  edgeLeft : Bool
  edgeRight : Bool
  full : Chans Bool
  low : Chans Bool
  capUp : Bool
  home : Bool
  deriving DecidableEq, Repr

/-! ## Requests (Table 11-3, R189) -/

/-- What a good frame asks for: the payload of its kind, or why it has none. -/
inductive Body where
  | unknownKind
  /-- LEN does not fit the kind's payload (R174 step 3). -/
  | badLength
  | sheetOpen (length chans cls : Nat)
  | swath (advance : Nat) (printed spit : Chans Nat)
  | sheetClose (printed spit : Chans Nat)
  | sheetAbort (printed spit : Chans Nat)
  | mediaLoad (slot width : Nat) (remaining : Option Nat) (profile : Nat)
  | mediaUnload
  | rollSelect (slot : Nat)
  | profileSet (index : Nat) (fields : ProfileFields)
  | profileRead (index : Nat)
  | pathClear
  | feedTrimSet (value : Int)
  | acceptSet (index : Nat) (fields : AcceptFields)
  | acceptRead (index : Nat)
  | baySelect (chan letter : Nat)
  | topUp (chan : Nat)
  | supplyRead (chan : Nat)
  | uncap
  | cap
  | release
  | park
  | service (heads level : Nat)
  | nozzleCheck (heads : Nat)
  | maskSet (index : Nat) (fields : MaskFields)
  | healthRead (head row start : Nat)
  | statusRead
  | configSet (ident : Nat) (value : Int)
  | configRead
  | reset
  deriving DecidableEq, Repr

/-- A good frame in the receive buffer: its KIND and TAG bytes and what it asks for. -/
structure Request where
  kind : Nat
  tag : Nat
  body : Body
  deriving DecidableEq, Repr

/-! ## The commands -/

/-- One constructor per row of spec/opcode_table.json, in the table's order. A host request is taken as a good frame
that reaches the receive buffer (R173). `home` is what the home sensor shows as the command arrives (R123 reads it);
`late` counts the encoder counts that still arrive while a stop request is on its way (R12, R29, R38). -/
inductive Instr where
  | powerOn (store : Store) (sensors : Sensors)
  | receiveByte (byte : Byte) (stopOk home : Bool)
  | frameGapTimeout
  | frameSent (home : Bool)
  | unknownRequestKind (kind tag : Nat)
  | sheetOpen (tag length chans cls : Nat)
  | swath (tag advance : Nat) (printed spit : Chans Nat)
  | sheetClose (tag : Nat) (printed spit : Chans Nat)
  | sheetAbort (tag : Nat) (printed spit : Chans Nat)
  | mediaLoad (tag slot width : Nat) (remaining : Option Nat) (profile : Nat)
  | mediaUnload (tag : Nat)
  | rollSelect (tag slot : Nat)
  | profileSet (tag index : Nat) (fields : ProfileFields)
  | profileRead (tag index : Nat)
  | pathClear (tag : Nat)
  | feedTrimSet (tag : Nat) (value : Int)
  | acceptSet (tag index : Nat) (fields : AcceptFields)
  | acceptRead (tag index : Nat)
  | baySelect (tag chan letter : Nat)
  | topUp (tag chan : Nat)
  | supplyRead (tag chan : Nat)
  | uncap (tag : Nat)
  | cap (tag : Nat)
  | release (tag : Nat)
  | park (tag : Nat) (home : Bool)
  | service (tag heads level : Nat)
  | nozzleCheck (tag heads : Nat)
  | maskSet (tag index : Nat) (fields : MaskFields)
  | healthRead (tag head row start : Nat)
  | statusRead (tag : Nat)
  | configSet (tag ident : Nat) (value : Int)
  | configRead (tag : Nat)
  | reset (tag : Nat) (home : Bool)
  /-- `measured` is what the tracking sensor shows, µm; it is read when this count completes a tracked move (R14). -/
  | encoderCount (measured : Nat)
  | stallDeadline
  | completionDeadline
  /-- `core` says whether the slot's roll-end sensor reports the core at that moment (R21). -/
  | rollPresentClose (slot : Slot) (core : Bool)
  | rollPresentOpen (slot : Slot)
  | rollEndReport (slot : Slot)
  | leadEdgeChange (sensor : EdgeSensor) (present : Bool) (late : Nat)
  | pathEntryChange (slot : Slot) (present : Bool) (late : Nat)
  | cutComplete
  | cutterTimeout
  | exitPass
  | exitWatchTimeout
  | basketEmptied
  | dryEnd
  | bayInserted (bay : Bay)
  | bayRemoved (bay : Bay)
  | tankInserted
  | tankRemoved
  /-- `answer` is what the module memory answers: no answer, or the bytes read (R73, R91). -/
  | moduleReadComplete (answer : Option (List Byte))
  /-- `acked` says whether the module memory acknowledged the write (R90). -/
  | moduleWriteComplete (acked : Bool)
  | flowPulse
  | pulseWindowEnd
  | strokeEnd
  | floatChange (chan : Chan) (float : FloatSwitch) (active : Bool)
  | requestAgeing (chan : Chan)
  | stirTimerDue (chan : Chan)
  | capDownComplete
  | capUpComplete
  | sledTimeout
  | autoCap
  | actionDeadline
  | wipeComplete
  | widthScanPassEnd
  | carriageSensorReading (darkness : Nat)
  | patternLegEnd
  | calibrationTimeout
  | homeReport
  | returnTimeout
  | suctionComplete
  | suctionTimeout
  | spitDueLimit (chan : Chan)
  | cleanDueLimit (chan : Chan)
  | prePurgeWaitEnd
  | spitFiringEnd
  deriving DecidableEq, Repr

end Sys2Proof
end

