-- ==== Sys2Proof/WellFormed.lean ====
section
/-! DEFINITION. Which commands can be sent: every number fits the field that carries it on the line (Table 11-3, R189) or
the range the sensor delivers (Table 0-1, R14, R188). A well-formed command may still carry a value its block refuses or
clamps: that is the block's rule, not a matter of form. -/

namespace Sys2Proof

/-- A number that fits a field of `n` bytes. -/
def fits (n v : Nat) : Bool := v < 256 ^ n

/-- A signed number that fits a field of four bytes. -/
def fitsSigned (v : Int) : Bool := -2147483648 ≤ v && v < 2147483648

/-- Six counts of four bytes each. -/
def Chans.fits4 (x : Chans Nat) : Bool :=
  fits 4 x.c0 && fits 4 x.c1 && fits 4 x.c2 && fits 4 x.c3 && fits 4 x.c4 && fits 4 x.c5

/-- A known remaining length is not the pattern that stands for an unknown one (R188). -/
def remainingFits : Option Nat → Bool
  | none => true
  | some v => v < 0xFFFFFFFF

def ProfileFields.wellFormed (p : ProfileFields) : Bool :=
  fitsSigned p.sProfile && fits 2 p.skewLimit && fits 1 p.tracking && fits 4 p.baseDry && fits 2 p.dryCoeff
    && fits 4 p.freshTrim && fits 4 p.rethreadTrim && fits 4 p.margin

def AcceptFields.wellFormed (e : AcceptFields) : Bool :=
  fits 1 e.enabled && fits 1 e.kind && fits 2 e.code && fits 2 e.mask && fits 1 e.chans && fits 2 e.drop
    && fits 2 e.purge && fits 4 e.keepWet && fits 2 e.settle

def MaskFields.wellFormed (m : MaskFields) : Bool :=
  fits 1 m.enabled && fits 1 m.kind && fits 1 m.head && fits 1 m.row && fits 2 m.base && fits 2 m.ignore

/-- A request kind of Table 11-1. -/
def isRequestKind (kind : Nat) : Bool :=
  (1 ≤ kind && kind ≤ 4) || (8 ≤ kind && kind ≤ 0x0E) || (0x10 ≤ kind && kind ≤ 0x14) || (0x18 ≤ kind && kind ≤ 0x23)

def Instr.wellFormed : Instr → Bool
  | .powerOn _ _ => true
  | .receiveByte _ _ _ => true
  | .frameGapTimeout => true
  | .frameSent _ => true
  | .unknownRequestKind kind tag => fits 1 kind && fits 1 tag && !isRequestKind kind
  | .sheetOpen tag length chans cls => fits 1 tag && fits 4 length && fits 1 chans && fits 1 cls
  | .swath tag advance printed spit => fits 1 tag && fits 4 advance && printed.fits4 && spit.fits4
  | .sheetClose tag printed spit => fits 1 tag && printed.fits4 && spit.fits4
  | .sheetAbort tag printed spit => fits 1 tag && printed.fits4 && spit.fits4
  | .mediaLoad tag slot width remaining profile =>
    fits 1 tag && fits 1 slot && fits 4 width && remainingFits remaining && fits 1 profile
  | .mediaUnload tag => fits 1 tag
  | .rollSelect tag slot => fits 1 tag && fits 1 slot
  | .profileSet tag index fields => fits 1 tag && fits 1 index && fields.wellFormed
  | .profileRead tag index => fits 1 tag && fits 1 index
  | .pathClear tag => fits 1 tag
  | .feedTrimSet tag value => fits 1 tag && fitsSigned value
  | .acceptSet tag index fields => fits 1 tag && fits 1 index && fields.wellFormed
  | .acceptRead tag index => fits 1 tag && fits 1 index
  | .baySelect tag chan letter => fits 1 tag && fits 1 chan && fits 1 letter
  | .topUp tag chan => fits 1 tag && fits 1 chan
  | .supplyRead tag chan => fits 1 tag && fits 1 chan
  | .uncap tag => fits 1 tag
  | .cap tag => fits 1 tag
  | .release tag => fits 1 tag
  | .park tag _ => fits 1 tag
  | .service tag heads level => fits 1 tag && fits 1 heads && fits 1 level
  | .nozzleCheck tag heads => fits 1 tag && fits 1 heads
  | .maskSet tag index fields => fits 1 tag && fits 1 index && fields.wellFormed
  | .healthRead tag head row start => fits 1 tag && fits 1 head && fits 1 row && fits 2 start
  | .statusRead tag => fits 1 tag
  | .configSet tag ident value => fits 1 tag && fits 1 ident && fitsSigned value
  | .configRead tag => fits 1 tag
  | .reset tag _ => fits 1 tag
  | .encoderCount measured => measured ≤ 3100000
  | .stallDeadline => true
  | .completionDeadline => true
  | .rollPresentClose _ _ => true
  | .rollPresentOpen _ => true
  | .rollEndReport _ => true
  | .leadEdgeChange _ _ _ => true
  | .pathEntryChange _ _ _ => true
  | .cutComplete => true
  | .cutterTimeout => true
  | .exitPass => true
  | .exitWatchTimeout => true
  | .basketEmptied => true
  | .dryEnd => true
  | .bayInserted _ => true
  | .bayRemoved _ => true
  | .tankInserted => true
  | .tankRemoved => true
  | .moduleReadComplete _ => true
  | .moduleWriteComplete _ => true
  | .flowPulse => true
  | .pulseWindowEnd => true
  | .strokeEnd => true
  | .floatChange _ _ _ => true
  | .requestAgeing _ => true
  | .stirTimerDue _ => true
  | .capDownComplete => true
  | .capUpComplete => true
  | .sledTimeout => true
  | .autoCap => true
  | .actionDeadline => true
  | .wipeComplete => true
  | .widthScanPassEnd => true
  | .carriageSensorReading darkness => darkness ≤ 255
  | .patternLegEnd => true
  | .calibrationTimeout => true
  | .homeReport => true
  | .returnTimeout => true
  | .suctionComplete => true
  | .suctionTimeout => true
  | .spitDueLimit _ => true
  | .cleanDueLimit _ => true
  | .prePurgeWaitEnd => true
  | .spitFiringEnd => true

end Sys2Proof
end

