-- ==== Sys2Proof/Decode.lean ====
section
/-! DEFINITION. Reading what the line carries: little-endian numbers (R188), the payload of each request kind (R189, Tables
11-1 and 11-3), and the request that a good frame stands for. The opcode table gives no row any bits, so no word spells a
command and `decodeTableWord` answers none (the block's commands come from outside: see INVENTORY.md, Instructions). -/

namespace Sys2Proof

/-- The command a word of the opcode table spells: the table numbers no bits for any row. -/
def decodeTableWord (_nbits _w : Nat) : Option Instr := none

/-! ## Numbers (R188) -/

/-- An unsigned number, least significant byte first. -/
def leNat : List Byte → Nat
  | [] => 0
  | b :: bs => b.toNat + 256 * leNat bs

/-- A two's complement number of four bytes, least significant byte first. -/
def leInt (bs : List Byte) : Int := (BitVec.ofNat 32 (leNat bs)).toInt

/-- `n` bytes of a payload from position `at` on, read as a number. -/
def fieldAt (p : List Byte) (start n : Nat) : Nat := leNat ((p.drop start).take n)

/-- A signed field of four bytes. -/
def signedAt (p : List Byte) (start : Nat) : Int := leInt ((p.drop start).take 4)

/-- An optional field of four bytes: all ones is absent (R188). -/
def optAt (p : List Byte) (start : Nat) : Option Nat :=
  if fieldAt p start 4 = 0xFFFFFFFF then none else some (fieldAt p start 4)

/-- Six counts of four bytes, channels 0 to 5. -/
def dropsAt (p : List Byte) (start : Nat) : Chans Nat :=
  ⟨fieldAt p start 4, fieldAt p (start + 4) 4, fieldAt p (start + 8) 4, fieldAt p (start + 12) 4,
   fieldAt p (start + 16) 4, fieldAt p (start + 20) 4⟩

/-- A text field ends at its first 0x00 or at its end (R188). -/
def textOf (bs : List Byte) : List Byte := bs.takeWhile (fun b => b != 0)

/-! ## Payloads (R189) -/

/-- The payload size of a request kind; none for a KIND that is no request kind (R174 step 2, R189). -/
def payloadSize (kind : Nat) : Option Nat :=
  match kind with
  | 0x01 => some 6
  | 0x02 => some 52
  | 0x03 | 0x04 => some 48
  | 0x08 => some 10
  | 0x09 | 0x0D | 0x18 | 0x19 | 0x1A | 0x1B | 0x20 | 0x22 | 0x23 => some 0
  | 0x0A | 0x0C | 0x11 | 0x13 | 0x14 | 0x1D => some 1
  | 0x0B => some 42
  | 0x0E => some 4
  | 0x10 => some 18
  | 0x12 | 0x1C => some 2
  | 0x1E => some 9
  | 0x1F => some 4
  | 0x21 => some 5
  | _ => none

/-- PROFILE_SET's fields after its index (Table 11-3). -/
def profileFieldsOf (p : List Byte) : ProfileFields :=
  ⟨textOf ((p.drop 1).take 16), signedAt p 17, fieldAt p 21 2, fieldAt p 23 1, fieldAt p 24 4, fieldAt p 28 2,
   fieldAt p 30 4, fieldAt p 34 4, fieldAt p 38 4⟩

/-- ACCEPT_SET's fields after its index (Table 11-3). -/
def acceptFieldsOf (p : List Byte) : AcceptFields :=
  ⟨fieldAt p 1 1, fieldAt p 2 1, fieldAt p 3 2, fieldAt p 5 2, fieldAt p 7 1, fieldAt p 8 2, fieldAt p 10 2,
   fieldAt p 12 4, fieldAt p 16 2⟩

/-- MASK_SET's fields after its index (Table 11-3). -/
def maskFieldsOf (p : List Byte) : MaskFields :=
  ⟨fieldAt p 1 1, fieldAt p 2 1, fieldAt p 3 1, fieldAt p 4 1, fieldAt p 5 2, fieldAt p 7 2⟩

/-- The fields of a payload of the right size (Tables 11-1 and 11-3). -/
def bodyFields (kind : Nat) (p : List Byte) : Body :=
  match kind with
  | 0x01 => .sheetOpen (fieldAt p 0 4) (fieldAt p 4 1) (fieldAt p 5 1)
  | 0x02 => .swath (fieldAt p 0 4) (dropsAt p 4) (dropsAt p 28)
  | 0x03 => .sheetClose (dropsAt p 0) (dropsAt p 24)
  | 0x04 => .sheetAbort (dropsAt p 0) (dropsAt p 24)
  | 0x08 => .mediaLoad (fieldAt p 0 1) (fieldAt p 1 4) (optAt p 5) (fieldAt p 9 1)
  | 0x09 => .mediaUnload
  | 0x0A => .rollSelect (fieldAt p 0 1)
  | 0x0B => .profileSet (fieldAt p 0 1) (profileFieldsOf p)
  | 0x0C => .profileRead (fieldAt p 0 1)
  | 0x0D => .pathClear
  | 0x0E => .feedTrimSet (signedAt p 0)
  | 0x10 => .acceptSet (fieldAt p 0 1) (acceptFieldsOf p)
  | 0x11 => .acceptRead (fieldAt p 0 1)
  | 0x12 => .baySelect (fieldAt p 0 1) (fieldAt p 1 1)
  | 0x13 => .topUp (fieldAt p 0 1)
  | 0x14 => .supplyRead (fieldAt p 0 1)
  | 0x18 => .uncap
  | 0x19 => .cap
  | 0x1A => .release
  | 0x1B => .park
  | 0x1C => .service (fieldAt p 0 1) (fieldAt p 1 1)
  | 0x1D => .nozzleCheck (fieldAt p 0 1)
  | 0x1E => .maskSet (fieldAt p 0 1) (maskFieldsOf p)
  | 0x1F => .healthRead (fieldAt p 0 1) (fieldAt p 1 1) (fieldAt p 2 2)
  | 0x20 => .statusRead
  | 0x21 => .configSet (fieldAt p 0 1) (signedAt p 1)
  | 0x22 => .configRead
  | 0x23 => .reset
  | _ => .unknownKind

/-- What a payload asks for: an unknown kind, a LEN that does not fit the kind, or its fields. -/
def bodyOf (kind : Nat) (p : List Byte) : Body :=
  match payloadSize kind with
  | none => .unknownKind
  | some n => if p.length = n then bodyFields kind p else .badLength

/-- The request a good frame stands for. -/
def requestOf (kind tag : Byte) (payload : List Byte) : Request :=
  ⟨kind.toNat, tag.toNat, bodyOf kind.toNat payload⟩

end Sys2Proof
end

