-- ==== Sys2Proof/Machine/State.lean ====
section
/-! DEFINITION. The state of the 860, block by block as Table 2-1 divides it, the reasons a step can stop, and the state
after power-on. All of it is plain data. A quantity that the manual counts in milliseconds since some event (a wet clock,
the idle time, a stir timer, the wait of a list entry, every deadline) is stored as the time of that event; the value the
manual names is the difference to `now` (log entry 2). -/

namespace Sys2Proof.Machine

open Sys2Proof

/-! ## Names -/

/-- Result codes: every refusal reason and every outcome or fault name (Table 11-2). -/
inductive Code where
  | ok | badField | unknownKind | badState | tagBusy | busy | queueFull | overrun | sheetFaulted | noMedia | shortRoll
  | pathFault | noInk | serviceDue | headDegraded | wasteFull | noWasteTank | carriageNotParked | notAtHome | notReady
  | completed | discarded | rejected | aborted | feedStall | feedTimeout | slip | rollEnd | inkDry | cutterJam | exitJam
  | skew | noEdge | widthMismatch | unloadJam | noFlow | fillFault | noSupply | memory | suctionFault | wipeFault
  | capFault | sensorFault | background | framing | bayChanged
  deriving DecidableEq, Repr

/-- Reply outcomes (Table 0-2). -/
inductive Answer where
  | ok | started | queued | wait | refused
  deriving DecidableEq, Repr

/-- Categories of the event notices (R179). -/
inductive Category where
  | sheet | media | supply | service
  deriving DecidableEq, Repr

/-- Who asked for a move of the media or of the carriage, or holds a claim on the carriage (R1, R125, R127). -/
inductive Block where
  | media | sheet | check | service
  deriving DecidableEq, Repr

/-! ## Feed drive (Table 1-2) -/

/-- Media-path owner (Table 2-6). -/
inductive Owner where
  | idle | loading | unloading | sheet | check
  deriving DecidableEq, Repr

/-- Purpose of a move (R1). -/
inductive Purpose where
  | leadingMargin | swath | tail | edgeSearch | leadTrim | rewind | ejection | checkLead | checkPattern | strip
  deriving DecidableEq, Repr

/-- The parts of a move request (R1). -/
structure MoveAsk where
  owner : Owner
  requester : Block
  forward : Bool
  a : Nat
  purpose : Purpose
  deriving DecidableEq, Repr

/-- The move in flight (R1): what was asked, the commanded counts, S used, whether tracking applies (R14), the time of drive
start and the counts seen. -/
structure Move where
  ask : MoveAsk
  commanded : Nat
  sUsed : Int
  tracked : Bool
  start : Nat
  seen : Nat
  deriving DecidableEq, Repr

/-- How a move ended (R18). -/
inductive MoveOutcome where
  | completed | stopped | slip | feedStall | feedTimeout
  deriving DecidableEq, Repr

/-- A completion report (R18). -/
structure MoveReport where
  ask : MoveAsk
  outcome : MoveOutcome
  commanded : Nat
  seen : Nat
  travel : Nat
  measured : Option Nat
  sUsed : Int
  deriving DecidableEq, Repr

/-- Feed drive state (Table 1-2). The drive is MOVING while a move is present. `again` is a request refused as busy, which
its block asks again when the move in flight ends (R1). -/
structure Feed where
  k : Nat
  r : Nat
  sHost : Int
  sTrack : Int
  move : Option Move
  again : Option MoveAsk
  deriving DecidableEq, Repr

/-! ## Media path controller (Tables 2-3 to 2-8) -/

/-- Roll states (Table 2-4). -/
inductive RollState where
  | absent | standby | threaded | ended | fault
  deriving DecidableEq, Repr

/-- Roll record (Table 2-3). -/
structure Roll where
  state : RollState
  profile : Option Nat
  declared : Option Nat
  measured : Option Nat
  remaining : Option Nat
  fresh : Bool
  fault : Option Code
  deriving DecidableEq, Repr

/-- Path content (Table 2-7). -/
inductive Content where
  | empty | clean | dirty | fault
  deriving DecidableEq, Repr

/-- Why a switch pending record was made (R36). -/
inductive SwitchReason where
  | rollEnd | shortRoll
  deriving DecidableEq, Repr

/-- Switch pending record (R36): the roll to load, the reason, and the width and profile of the roll it replaces. -/
structure SwitchRec where
  slot : Slot
  reason : SwitchReason
  width : Nat
  profile : Nat
  deriving DecidableEq, Repr

/-- The sequences of the media path controller (R28, R33, R35, R36, R38). -/
inductive Job where
  | load | unload | select | auto | eject
  deriving DecidableEq, Repr

/-- Where a sequence stands (R29 to R38). -/
inductive MediaStep where
  | dirtyCut | unloadRewind | edgeSearch | widthScan | leadTrim | trimCut | failRewind
  | ejectFirst | ejectSecond
  /-- A roll end came during a load: the width scan or the cut in progress ends before the ejection's first move (R37). -/
  | ejectAfterScan | ejectAfterCut
  deriving DecidableEq, Repr

/-- A load, unload, roll switch or remainder ejection in flight. `slot` is the roll being loaded (or ejected), `oldSlot` the
roll being unloaded; `fed` is the travel of the load's forward moves (R32); `c1`, `c1Sensor`, `c2` and `endSeen` are the
counts of the edge search (R29, R31); `failure` is why the load failed, with the counts seen of a feed fault. -/
structure Sequence where
  job : Job
  step : MediaStep
  tag : Option Nat
  slot : Slot
  oldSlot : Option Slot
  fed : Nat
  c1 : Option Nat
  c1Sensor : EdgeSensor
  c2 : Option Nat
  endSeen : Nat
  measured : Option Nat
  failure : Option Code
  failSeen : Option Nat
  scanAgain : Bool
  deriving DecidableEq, Repr

/-- The piece a cut is asked for (R39). -/
inductive Piece where
  | sheet | scrap
  deriving DecidableEq, Repr

/-- A cut waiting for its hold (`start` absent) or running (R39, R40). -/
structure Cut where
  owner : Owner
  piece : Piece
  start : Option Nat
  deriving DecidableEq, Repr

/-- Media path controller. `ejecting` is the ejection pending flag with the slot it stands for; `exitWatch` is the time an
exit watch started; the last fields are what the slot and path sensors last reported. -/
structure Media where
  rolls : Slots Roll
  profiles : List (Option Profile)
  owner : Owner
  content : Content
  ejecting : Option Slot
  switch : Option SwitchRec
  seq : Option Sequence
  cut : Option Cut
  exitWatch : Option Nat
  stack : Nat
  present : Slots Bool
  entry : Slots Bool
  edgeLeft : Bool
  edgeRight : Bool
  deriving DecidableEq, Repr

/-! ## Sheet transaction unit (Tables 3-1 and 3-2) -/

inductive SheetPhase where
  | none | opening | swathing | tail | drying | cutWait | cutting | ejecting | faulted
  deriving DecidableEq, Repr

inductive SheetClass where
  | plain | checkStrip
  deriving DecidableEq, Repr

/-- Swath queue entry (3.1). -/
structure Swath where
  tag : Nat
  advance : Nat
  ink : Nat
  inFlight : Bool
  deriving DecidableEq, Repr

/-- Trailing record (3.1, R59). -/
structure Trail where
  advance : Nat
  ink : Nat
  deriving DecidableEq, Repr

/-- Close record: tag and last-pass ink. -/
structure CloseRec where
  tag : Nat
  ink : Nat
  deriving DecidableEq, Repr

/-- The fields of a SHEET_OPEN. `dried` says that a channel of its set has become DRY while the open waited for the abort of
the sheet before it (R50, R56). -/
structure OpenReq where
  tag : Nat
  length : Nat
  chans : Chans Bool
  cls : SheetClass
  dried : Bool
  deriving DecidableEq, Repr

/-- Abort record: a SHEET_ABORT's tag, or "within open" with the open that waits for it (R50). -/
inductive AbortRec where
  | tagged (tag : Nat)
  | within (req : OpenReq)
  deriving DecidableEq, Repr

/-- Sheet record (Table 3-1). `tailLeft` and `tailFed` are the tail still to be asked and already fed, `rollEnded` says that a
roll end stops further tail moves (R61), `roomWait` that the basket had no room (R63). -/
structure Sheet where
  phase : SheetPhase
  openTag : Option Nat
  length : Nat
  chans : Chans Bool
  cls : SheetClass
  margin : Nat
  committed : Nat
  queue : List Swath
  trailing : List Trail
  close : Option CloseRec
  abort : Option AbortRec
  fault : Option Code
  fed : Bool
  dryEnd : Option Nat
  tailLeft : Nat
  tailFed : Nat
  rollEnded : Bool
  roomWait : Bool
  deriving DecidableEq, Repr

/-! ## Supply bay unit (Tables 4-1 to 4-7) -/

inductive BayState where
  | vacant | reading | active | standby | spent | rejected | fault
  deriving DecidableEq, Repr

/-- Cartridge record (Table 4-3); its checksum is a function of the other fields (R191). -/
structure Cart where
  ink : Nat
  capacity : Nat
  remaining : Nat
  lot : List Byte
  deriving DecidableEq, Repr

/-- Bay record (Table 4-1). `image` is what the cartridge memory holds as the 860 last read and wrote it (R191). -/
structure BayRec where
  state : BayState
  cart : Option Cart
  entry : Option Nat
  fault : Option Code
  attempts : Nat
  charged : Bool
  image : List Byte
  deriving DecidableEq, Repr

/-- Target of a bus operation (Table 4-6). -/
inductive Target where
  | bay (b : Bay)
  | tank
  deriving DecidableEq, Repr

/-- A module bus operation (Table 4-6); a write carries its value. -/
inductive BusKind where
  | read
  | write (value : Nat)
  deriving DecidableEq, Repr

/-- An entry of the operation queue; `startUp` marks the start-up reads of R182. -/
structure BusOp where
  target : Target
  kind : BusKind
  startUp : Bool
  deriving DecidableEq, Repr

inductive TankState where
  | absent | reading | present | fault
  deriving DecidableEq, Repr

/-- The waste tank as the supply bay unit keeps it (Table 4-7, R91). -/
structure Tank where
  state : TankState
  attempts : Nat
  image : List Byte
  deriving DecidableEq, Repr

/-- Supply bay unit. `busStart` is the time the operation in flight (the head of `bus`) started. -/
structure Supply where
  bays : Chans (Bays BayRec)
  accepts : List Accept
  params : Chans Params
  supplied : Chans Bool
  bus : List BusOp
  busStart : Nat
  tank : Tank
  deriving DecidableEq, Repr

/-! ## Sub-tank and pump unit (Tables 5-1 to 5-4) -/

/-- Request kinds of the pump (Table 5-4). -/
inductive PumpKind where
  | prePurge | topUp | refill | stir
  deriving DecidableEq, Repr

/-- Follow-on: requests taken while a stir holds the pump for the channel (Table 5-1). -/
structure FollowOn where
  kind : PumpKind
  number : Nat
  tags : List Nat
  service : Bool
  deriving DecidableEq, Repr

/-- Channel record (Table 5-1). `stirSince` is the time the stir timer was set to 0; absent while the timer stands at its
largest value from power-on (R116). -/
structure Channel where
  e : Nat
  e0 : Nat
  drawn : Nat
  printed : Nat
  serviced : Nat
  reconcile : Int
  residue : Nat
  hold : Bool
  dry : Bool
  suspect : Bool
  full : Bool
  low : Bool
  stirSince : Option Nat
  follow : Option FollowOn
  deriving DecidableEq, Repr

/-- Request list entry (R104). The wait is `now` less `made`; `aged` counts the ageing steps taken (R105). -/
structure PumpReq where
  chan : Chan
  kind : PumpKind
  number : Nat
  made : Nat
  aged : Nat
  tags : List Nat
  service : Bool
  deriving DecidableEq, Repr

/-- The pulse window of a stroke (R108). -/
inductive Window where
  | open | pulsed | missed
  deriving DecidableEq, Repr

/-- The operation in flight (R107, R114). `bay` is the bay the stroke draws from; `limit` is the stroke limit of a fill and 20
for a stir; `changed` says that a change of the ACTIVE bay has been reported (R109) and `bayGone` that the removal of `bay`
has been reported. -/
structure PumpOp where
  chan : Chan
  kind : PumpKind
  tags : List Nat
  service : Bool
  bay : Bay
  count : Nat
  limit : Nat
  missing : Nat
  fullCame : Bool
  pulsed : Nat
  drawn : Nat
  strokeStart : Nat
  window : Window
  changed : Bool
  bayGone : Bool
  deriving DecidableEq, Repr

/-- Position of one manifold valve (Table 1-1). -/
inductive Valve where
  | closed | fill | circulate
  deriving DecidableEq, Repr

structure Pump where
  chans : Chans Channel
  list : List PumpReq
  op : Option PumpOp
  valves : Chans Valve
  deriving DecidableEq, Repr

/-! ## Service station controller (Tables 6-1 to 6-4, 7-1) -/

inductive CarState where
  | capped | open | released | serviceMove
  deriving DecidableEq, Repr

/-- Motion of the capping sled; a motion carries its start time (R118, R119). -/
inductive Sled where
  | still
  | lowering (start : Nat)
  | raising (start : Nat)
  deriving DecidableEq, Repr

/-- Claims on the carriage (R125). -/
structure Claims where
  media : Bool
  check : Bool
  service : Bool
  deriving DecidableEq, Repr

/-- The media path controller's hold for a cut (R126). -/
inductive Hold where
  | none | waiting | granted
  deriving DecidableEq, Repr

/-- Carriage move kinds (Table 6-3). -/
inductive MoveKind where
  | wipe
  | widthScan
  | checkScan (head : Head)
  deriving DecidableEq, Repr

/-- Phase of a carriage move (R127), with its start time. -/
inductive MovePhase where
  | waiting
  | lowering
  | action (start : Nat)
  | returning (start : Nat)
  deriving DecidableEq, Repr

/-- The readings of a width scan so far (R128): how many, the last one, and the positions of the first and last edge. -/
structure WidthTrack where
  count : Nat
  last : Option Nat
  firstEdge : Option Nat
  lastEdge : Option Nat
  deriving DecidableEq, Repr

/-- The passes of a check scan so far (R158). `samples` are those of the pass in progress, newest first. -/
structure ScanTrack where
  row : Row
  outward : Bool
  samples : List Nat
  done0 : Option (List Nat)
  done1 : Option (List Nat)
  deriving DecidableEq, Repr

/-- The carriage move waiting or in flight (R127). `acted` says that the action has begun. -/
structure CarMove where
  requester : Block
  kind : MoveKind
  phase : MovePhase
  fault : Option Code
  acted : Bool
  width : Nat
  widths : WidthTrack
  scan : ScanTrack
  deriving DecidableEq, Repr

/-- The suction run in progress (R130). -/
structure Suction where
  head : Head
  volume : Nat
  start : Nat
  deriving DecidableEq, Repr

/-- Carriage record (Table 6-2). `tags` and `serviceWaits` are the sled waiters; `idleSince` is when the idle time last was 0
(absent while it does not count, R124); `resetReturn` is the start of the return a mechanism reset makes (R135); `home` is
what the home sensor last showed. -/
structure Carriage where
  state : CarState
  sled : Sled
  tags : List Nat
  serviceWaits : Bool
  claims : Claims
  move : Option CarMove
  hold : Hold
  idleSince : Option Nat
  suction : Option Suction
  resetReturn : Option Nat
  home : Bool
  deriving DecidableEq, Repr

inductive WasteLevel where
  | none | normal | nearFull | full
  deriving DecidableEq, Repr

/-- Waste state (Table 6-4); W, C_w and last written are present together. -/
structure WasteRec where
  w : Nat
  capacity : Nat
  written : Nat
  deriving DecidableEq, Repr

structure Waste where
  tank : Option WasteRec
  overflow : Nat
  level : WasteLevel
  deriving DecidableEq, Repr

/-- Wet clock of a channel (R137 to R139): when it last was 0 (it stands at 0 while the carriage is CAPPED), and SPIT_DUE. -/
structure Wet where
  since : Nat
  spitDue : Bool
  deriving DecidableEq, Repr

/-- Steps of a service (Table 7-2). -/
inductive ServiceStep where
  | uncap | cap | precondition | suction | wipe | wipe2 | spit
  deriving DecidableEq, Repr

/-- Who asked for a service (Table 7-1). -/
inductive ServiceBy where
  | host (tag : Nat)
  | check
  deriving DecidableEq, Repr

/-- Service record (Table 7-1). `ownMotion` says that the sled motion the step waits for is its own (R145); `moveAgain` that a
step that found the carriage moving for another unit is to be run again when that move ends (R145, R148); `spitEnd` is when
the firing of a spit ends (R149). -/
structure Service where
  by' : ServiceBy
  level : Nat
  mask : Heads Bool
  purge : Chans Nat
  head : Head
  step : ServiceStep
  completed : List Head
  waitEnd : Option Nat
  serviced : Chans Nat
  ownMotion : Bool
  moveAgain : Bool
  spitEnd : Option Nat
  deriving DecidableEq, Repr

/-- Service station controller. -/
structure Station where
  car : Carriage
  waste : Waste
  wet : Chans Wet
  cleanDue : Heads Bool
  service : Option Service
  deriving DecidableEq, Repr

/-! ## Nozzle check unit (Tables 8-1 to 8-5) -/

inductive NozzleState where
  | unchecked | good | weak | out | masked
  deriving DecidableEq, Repr

inductive RowStatus where
  | unchecked | valid | stale
  deriving DecidableEq, Repr

/-- The counts of one row, one per nozzle state. -/
structure Counts where
  unchecked : Nat
  good : Nat
  weak : Nat
  out : Nat
  masked : Nat
  deriving DecidableEq, Repr

/-- Health row record (Table 8-4). -/
structure HealthRow where
  status : RowStatus
  nozzles : List NozzleState
  counts : Counts
  checks : Nat
  deriving DecidableEq, Repr

inductive Escalation where
  | ok | attention | round1 | round2 | round3 | degraded
  deriving DecidableEq, Repr

inductive MaskKind where
  | mask | force
  deriving DecidableEq, Repr

/-- Mask window (R161). -/
structure MaskWindow where
  enabled : Bool
  kind : MaskKind
  head : Head
  row : Row
  base : Nat
  ignore : Nat
  deriving DecidableEq, Repr

/-- Steps of a check (Table 8-2). A calibration step carries the time its reading was asked. -/
inductive CheckStep where
  | calibOn (asked : Nat)
  | calibOff (asked : Nat)
  | lead | pattern | scan | round | strip | cut
  deriving DecidableEq, Repr

/-- A row's places in a check's two lists (Table 8-1): its counts among the rows made VALID, its reason among the rows voided.
R162 only adds to them, so a row can stand in both. DESIGN CHOICE (log entry 50): of two entries of one list the later stands. -/
structure RowNote where
  valid : Option Counts
  voided : Option Code
  deriving DecidableEq, Repr

/-- Check record (Table 8-1). `rounds` counts the rounds run for each head; `failSeen` is the counts seen of a feed fault;
`scanAgain` marks a scan move refused as busy; `stripMade` and `cutResult` are reported at the end (R168). -/
structure Check where
  tag : Nat
  mask : Heads Bool
  tw : Nat
  ts : Nat
  outTol : Nat
  weakTol : Nat
  autoRecover : Bool
  head : Head
  round : Option Nat
  step : CheckStep
  fed : Nat
  rows : Heads (Rows RowNote)
  ink : Chans Nat
  fault : Option Code
  failSeen : Option Nat
  rollEnded : Bool
  rounds : Heads Nat
  readOn : Option Nat
  scanAgain : Bool
  stripMade : Bool
  cutResult : Option Code
  deriving DecidableEq, Repr

/-- Nozzle check unit. -/
structure Checker where
  check : Option Check
  health : Heads (Rows HealthRow)
  escalation : Heads Escalation
  windows : List MaskWindow
  calibOn : Option Nat
  calibOff : Option Nat
  deriving DecidableEq, Repr

/-! ## Link interface (Chapter 9) and configuration (Table 10-2) -/

/-- The three classes of frame in the transmit queue (R178). -/
inductive FrameClass where
  | reply | completion | event
  deriving DecidableEq, Repr

/-- A frame of the transmit queue: its class, KIND, TAG and payload (Table 9-1). -/
structure Frame where
  cls : FrameClass
  kind : Nat
  tag : Nat
  payload : List Byte
  deriving DecidableEq, Repr

/-- Outstanding-operation entry (R175). -/
structure Entry where
  tag : Nat
  kind : Nat
  subject : Nat
  deriving DecidableEq, Repr

/-- Frame reception (R172): hunting, waiting for LEN, or collecting the bytes still needed. -/
inductive RxPhase where
  | hunt
  | length
  | collect (need : Nat)
  deriving DecidableEq, Repr

/-- The receiver: its phase, the bytes of the frame since LEN (newest first) and the time of the last byte. -/
structure Receiver where
  phase : RxPhase
  bytes : List Byte
  last : Nat
  deriving DecidableEq, Repr

/-- Start-up phase (R181, R182). -/
inductive StartPhase where
  | starting | ready | storeFault
  deriving DecidableEq, Repr

/-- The category mask of the pending STATUS_CHANGED (R179). -/
structure Categories where
  sheet : Bool
  media : Bool
  supply : Bool
  service : Bool
  deriving DecidableEq, Repr

structure Link where
  rx : Receiver
  buffer : List Request
  errors : Nat
  table : List Entry
  queue : List Frame
  changed : Option Categories
  deriving DecidableEq, Repr

/-- Configuration parameters (Table 10-2). -/
structure Conf where
  autoRoll : Bool
  autoRecover : Bool
  degradedAllowed : Bool
  autoCap : Nat
  stackLimit : Nat
  tw : Nat
  ts : Nat
  outTol : Nat
  weakTol : Nat
  nPrePurge : Nat
  nTopUp : Nat
  nRefill : Nat
  nStir : Nat
  deriving DecidableEq, Repr

/-! ## The whole -/

/-- The state of the 860: the millisecond timebase, the start-up phase, the configuration, the eight blocks that own state
(Table 2-1), and the commands still waiting, first in first out. -/
structure State where
  now : Nat
  phase : StartPhase
  conf : Conf
  feed : Feed
  media : Media
  sheet : Sheet
  supply : Supply
  pump : Pump
  station : Station
  checker : Checker
  link : Link
  pending : List Instr
  deriving DecidableEq, Repr

/-- Why a step stops with a fault. -/
inductive Fault where
  /-- Raised by `finish` (Machine/Reports.lean) when the reports that one event gives inside the 860 exceed the model's
  bound of 1,000. No event of a reachable state gives more than some dozens. Safe: the model stops where the 860 goes on. -/
  | reportsExceeded
  deriving DecidableEq, Repr

/-- Why a step is refused. -/
inductive Refusal where
  /-- Raised by exec for a command that has no meaning yet. Safe. -/
  | notModelled (mnemonic : String)
  deriving DecidableEq, Repr

/-! ## After power-on -/

def Chans.all {α : Type} (x : α) : Chans α := ⟨x, x, x, x, x, x⟩
def Heads.all {α : Type} (x : α) : Heads α := ⟨x, x, x⟩
def Rows.all {α : Type} (x : α) : Rows α := ⟨x, x⟩
def Slots.all {α : Type} (x : α) : Slots α := ⟨x, x⟩
def Bays.all {α : Type} (x : α) : Bays α := ⟨x, x⟩

/-- A roll record of an empty slot (Table 2-4, R22). -/
def Roll.none : Roll := ⟨.absent, .none, .none, .none, .none, false, .none⟩

/-- The defaults of Table 10-2. -/
def Conf.default : Conf := ⟨true, true, false, 30000, 50, 60, 140, 4, 16, 1, 6, 4, 10⟩

/-- No sheet (R71). The fields that only an open sheet has stand at 0 or empty (log entry 4). -/
def Sheet.none : Sheet :=
  ⟨.none, .none, 0, Chans.all false, .plain, 0, 0, [], [], .none, .none, .none, false, .none, 0, 0, false, false⟩

/-- A vacant bay (R92). -/
def BayRec.vacant : BayRec := ⟨.vacant, .none, .none, .none, 0, false, []⟩

/-- A disabled acceptance entry (R75). -/
def Accept.disabled : Accept := ⟨false, .accept, 0, 0, Chans.all false, ⟨40, 100, 20000, 0⟩⟩

/-- A channel record at power-on with its floats (R116). -/
def Channel.powerOn (full low : Bool) : Channel :=
  let e := if full then Config.fullMark else Config.lowMark
  ⟨e, e, 0, 0, 0, 0, 0, false, false, false, full, low, .none, .none⟩

/-- A health row at power-on (R171). -/
def HealthRow.unchecked : HealthRow := ⟨.unchecked, List.replicate 1024 .unchecked, ⟨1024, 0, 0, 0, 0⟩, 0⟩

/-- A mask window at power-on (R161). -/
def MaskWindow.disabled : MaskWindow := ⟨false, .mask, .h0, .r0, 0, 0⟩

/-- The receiver hunting for a start byte (R180). -/
def Receiver.hunting : Receiver := ⟨.hunt, [], 0⟩

/-- The link interface at power-on (R180). -/
def Link.powerOn : Link := ⟨Receiver.hunting, [], 0, [], [], .none⟩

/-- Acceptance entry `i` as Table 4-5 gives it: `high` is the high byte of the code, `ch` the channel. -/
def Accept.normal (code : Nat) (chans : Chans Bool) (p : Params) : Accept := ⟨true, .accept, code, 0x00FF, chans, p⟩

/-- What the factory store normally holds: K = 318,310 (Chapter 1), profile 0 of Table 2-5, entries 0 to 5 of Table 4-5. -/
def Store.normal : Store where
  checkOk := true
  k := 318310
  accepts :=
    ⟨Accept.normal 0x1100 ⟨true, false, false, false, false, false⟩ ⟨45, 120, 8000, 1800⟩,
     Accept.normal 0x1200 ⟨false, true, false, false, false, false⟩ ⟨45, 120, 8000, 1800⟩,
     Accept.normal 0x2300 ⟨false, false, true, false, false, false⟩ ⟨40, 100, 20000, 0⟩,
     Accept.normal 0x2400 ⟨false, false, false, true, false, false⟩ ⟨40, 100, 20000, 0⟩,
     Accept.normal 0x2500 ⟨false, false, false, false, true, false⟩ ⟨40, 100, 20000, 0⟩,
     Accept.normal 0x2600 ⟨false, false, false, false, false, true⟩ ⟨40, 100, 20000, 0⟩⟩
  profile0 :=
    -- "STANDARD BOND"
    ⟨[0x53, 0x54, 0x41, 0x4E, 0x44, 0x41, 0x52, 0x44, 0x20, 0x42, 0x4F, 0x4E, 0x44],
     0, 1500, true, 5000, 20, 80000, 10000, 5000⟩

/-- A printer with nothing in it: no switch closed, no float active, the sled up and the carriage home. -/
def Sensors.none : Sensors where
  bays := Chans.all (Bays.all false)
  tank := false
  rollPresent := Slots.all false
  rollEnd := Slots.all false
  pathEntry := Slots.all false
  edgeLeft := false
  edgeRight := false
  full := Chans.all false
  low := Chans.all false
  capUp := true
  home := true

/-- The payload of the READY notice of a printer with nothing in it (R182, R190): twelve VACANT bays, six STARVED channels, no
tank (C_w and W absent), two ABSENT rolls, the carriage CAPPED, and K = 318,310. -/
def readyOfEmpty : List Byte :=
  List.replicate 12 0 ++ List.replicate 6 1 ++ [0] ++ List.replicate 8 0xFF ++ [0, 0] ++ [0] ++ [0x66, 0xDB, 0x04, 0x00]

/-- The 860 right after power-on with a factory store as it normally is and nothing in the printer: no start-up read is
placed, so the phase is READY and the READY notice is queued (R182; log entry 1). -/
def State.reset : State where
  now := 0
  phase := .ready
  conf := Conf.default
  feed := ⟨318310, 0, 0, 0, none, none⟩
  media :=
    ⟨Slots.all Roll.none, some Store.normal.profile0 :: List.replicate 7 none, .idle, .empty, none, none, none, none, none, 0,
     Slots.all false, Slots.all false, false, false⟩
  sheet := Sheet.none
  supply :=
    ⟨Chans.all (Bays.all BayRec.vacant),
     [Store.normal.accepts.c0, Store.normal.accepts.c1, Store.normal.accepts.c2, Store.normal.accepts.c3,
      Store.normal.accepts.c4, Store.normal.accepts.c5] ++ List.replicate 10 Accept.disabled,
     ⟨Store.normal.accepts.c0.params, Store.normal.accepts.c1.params, Store.normal.accepts.c2.params,
      Store.normal.accepts.c3.params, Store.normal.accepts.c4.params, Store.normal.accepts.c5.params⟩,
     Chans.all false, [], 0, ⟨.absent, 0, []⟩⟩
  pump := ⟨Chans.all (Channel.powerOn false false), [], none, Chans.all .closed⟩
  station :=
    ⟨⟨.capped, .still, [], false, ⟨false, false, false⟩, none, .none, none, none, none, true⟩,
     ⟨none, 0, .none⟩, Chans.all ⟨0, false⟩, Heads.all false, none⟩
  checker :=
    ⟨none, Heads.all (Rows.all HealthRow.unchecked), Heads.all .ok, List.replicate 16 MaskWindow.disabled, none, none⟩
  link := { Link.powerOn with queue := [⟨.event, 0x60, 0, readyOfEmpty⟩] }
  pending := []

end Sys2Proof.Machine
end

