-- ==== Sys2Proof/Machine/Work.lean ====
section
/-! DEFINITION. What one event works on: the state, and what the event still has to do before it is over. Blocks ask the
blocks below them directly and tell the blocks above them by a `Report`, which is delivered within the same event, first
given first delivered (Machine/Reports.lean). Notices are collected in `outbox` and queued after the reply (R176). None of
this outlives the event, so none of it is in State. -/

namespace Sys2Proof.Machine

open Sys2Proof

/-- What changed of a channel's ink (R98). -/
inductive InkChange where
  | hold | dry | supply
  deriving DecidableEq, Repr

/-- What a service reports when it ends: the outcome and the contents of OP_DONE (R143, R151). `serviced` is 0 outside the mask. -/
structure ServiceReport where
  outcome : Code
  level : Nat
  mask : Heads Bool
  completed : Heads Bool
  ended : Option Head
  car : CarState
  serviced : Chans Nat
  deriving DecidableEq, Repr

/-- A report from one block to the blocks that must hear of it. -/
inductive Report where
  /-- The feed drive's completion report (R18). -/
  | moveEnded (r : MoveReport)
  /-- The cut hold is granted: the cutter may start (R126). -/
  | holdGranted
  /-- The cutter has started on the owner's cut (R63). -/
  | cutStarted (owner : Owner)
  /-- The owner's cut has ended (R40). -/
  | cutEnded (owner : Owner) (piece : Piece) (jam : Bool)
  /-- The exit watch has ended (R41). -/
  | exitEnded (jam : Bool)
  /-- Basket room has appeared (R42). -/
  | roomAppeared
  /-- The path has been cleared by hand (R43). -/
  | pathCleared
  /-- The threaded roll has ended (R37). -/
  | rollEnded
  /-- The carriage has become CAPPED or OPEN (R117). -/
  | carriageParked
  /-- A carriage move has ended (R127); `m` is the move with its results. -/
  | carMoveEnded (m : CarMove) (outcome : Code) (home : Bool)
  /-- A carriage move has ended: who was refused as busy asks again (R30, R148, R158). -/
  | askAgain
  /-- The sled motion the service waited for has ended (R145). -/
  | sledEnded (ok : Bool)
  /-- A check pass has started (R158). -/
  | passStarted (head : Head) (row : Row)
  /-- A channel's hold, DRY flag or supply state has changed (R98). -/
  | inkChanged (ch : Chan) (what : InkChange)
  /-- A channel has become SUPPLIED, or has lost its STIR entry: the pump looks at its conditions (R100, R103). -/
  | requestLook (ch : Chan)
  /-- The pump looks at the conditions of R103, after every other report of the event. -/
  | stirLook (ch : Chan)
  /-- A fill that the service waited for has ended (R102). -/
  | fillAnswered (ch : Chan)
  /-- A pump operation of the channel has ended: the arbiter grants and the conditions are looked at (R113, R114). -/
  | pumpFreed (ch : Chan)
  /-- A channel has taken a new keep-wet time (R137). -/
  | keepWetTaken (ch : Chan)
  /-- The suction run has ended (R130). -/
  | suctionEnded (outcome : Code)
  /-- A service step has ended (R144). -/
  | stepEnded (outcome : Code)
  /-- A recovery service has ended, with the contents that OP_DONE would carry (R143). -/
  | serviceEnded (r : ServiceReport)
  /-- The sheet unit looks at its queue head and its close (R57, R60). -/
  | sheetLook
  deriving DecidableEq, Repr

/-- A notice given during the event (R177, R178). -/
inductive Notice where
  /-- A completion notice of the operation with the tag. -/
  | completion (kind tag : Nat) (payload : List Byte)
  /-- An event notice of a category: its kind byte and its items. -/
  | event (cat : Category) (payload : List Byte)
  /-- READY, which is never merged. -/
  | ready (payload : List Byte)
  deriving DecidableEq, Repr

/-- The reply to the request being decided. `subject` is that of the outstanding entry, made for STARTED and QUEUED. -/
structure Reply where
  answer : Answer
  reason : Code
  items : List Byte
  subject : Nat
  deriving DecidableEq, Repr

/-- The state under an event, with what the event still has to deliver. `atOnce` holds the channels whose fill ended at its
grant in this event (log entry 9). -/
structure Work extends State where
  agenda : List Report
  outbox : List Notice
  reply : Option Reply
  atOnce : List Chan
  deriving DecidableEq, Repr

/-- The start of an event. -/
def Work.of (s : State) : Work := { toState := s, agenda := [], outbox := [], reply := none, atOnce := [] }

end Sys2Proof.Machine
end

