-- ==== Sys2Proof/Machine/Ops.lean ====
section
/-! DEFINITION. The named operations every block uses: one value of a fixed number of like things, sets of channels and
heads, deadlines, and telling another block or the host. -/

namespace Sys2Proof

/-! ## One of a fixed number of like things -/

def Chan.num : Chan → Nat
  | .c0 => 0 | .c1 => 1 | .c2 => 2 | .c3 => 3 | .c4 => 4 | .c5 => 5

def Chan.ofNum : Nat → Option Chan
  | 0 => some .c0 | 1 => some .c1 | 2 => some .c2 | 3 => some .c3 | 4 => some .c4 | 5 => some .c5 | _ => none

def Head.num : Head → Nat
  | .h0 => 0 | .h1 => 1 | .h2 => 2

def Head.ofNum : Nat → Option Head
  | 0 => some .h0 | 1 => some .h1 | 2 => some .h2 | _ => none

def Row.num : Row → Nat
  | .r0 => 0 | .r1 => 1

def Row.ofNum : Nat → Option Row
  | 0 => some .r0 | 1 => some .r1 | _ => none

def Slot.num : Slot → Nat
  | .s1 => 1 | .s2 => 2

def Slot.ofNum : Nat → Option Slot
  | 1 => some .s1 | 2 => some .s2 | _ => none

def Slot.other : Slot → Slot
  | .s1 => .s2 | .s2 => .s1

def Letter.num : Letter → Nat
  | .a => 0 | .b => 1

def Letter.ofNum : Nat → Option Letter
  | 0 => some .a | 1 => some .b | _ => none

def Letter.other : Letter → Letter
  | .a => .b | .b => .a

/-- The channel that a row of a head prints with (Table 1-1, R158). -/
def Head.chan : Head → Row → Chan
  | .h0, .r0 => .c0 | .h0, .r1 => .c1
  | .h1, .r0 => .c2 | .h1, .r1 => .c3
  | .h2, .r0 => .c4 | .h2, .r1 => .c5

/-- The head that serves a channel (Table 1-1). -/
def Chan.head : Chan → Head
  | .c0 | .c1 => .h0
  | .c2 | .c3 => .h1
  | .c4 | .c5 => .h2

/-- The six channels in ascending order. -/
def allChans : List Chan := [.c0, .c1, .c2, .c3, .c4, .c5]
def allHeads : List Head := [.h0, .h1, .h2]

def Chans.get {α : Type} (x : Chans α) : Chan → α
  | .c0 => x.c0 | .c1 => x.c1 | .c2 => x.c2 | .c3 => x.c3 | .c4 => x.c4 | .c5 => x.c5

def Chans.set {α : Type} (x : Chans α) (i : Chan) (v : α) : Chans α :=
  match i with
  | .c0 => { x with c0 := v } | .c1 => { x with c1 := v } | .c2 => { x with c2 := v }
  | .c3 => { x with c3 := v } | .c4 => { x with c4 := v } | .c5 => { x with c5 := v }

def Chans.toList {α : Type} (x : Chans α) : List α := [x.c0, x.c1, x.c2, x.c3, x.c4, x.c5]

def Chans.map {α β : Type} (f : α → β) (x : Chans α) : Chans β := ⟨f x.c0, f x.c1, f x.c2, f x.c3, f x.c4, f x.c5⟩

def Heads.get {α : Type} (x : Heads α) : Head → α
  | .h0 => x.h0 | .h1 => x.h1 | .h2 => x.h2

def Heads.set {α : Type} (x : Heads α) (i : Head) (v : α) : Heads α :=
  match i with
  | .h0 => { x with h0 := v } | .h1 => { x with h1 := v } | .h2 => { x with h2 := v }

def Heads.toList {α : Type} (x : Heads α) : List α := [x.h0, x.h1, x.h2]

def Rows.get {α : Type} (x : Rows α) : Row → α
  | .r0 => x.r0 | .r1 => x.r1

def Rows.set {α : Type} (x : Rows α) (i : Row) (v : α) : Rows α :=
  match i with
  | .r0 => { x with r0 := v } | .r1 => { x with r1 := v }

def Slots.get {α : Type} (x : Slots α) : Slot → α
  | .s1 => x.s1 | .s2 => x.s2

def Slots.set {α : Type} (x : Slots α) (i : Slot) (v : α) : Slots α :=
  match i with
  | .s1 => { x with s1 := v } | .s2 => { x with s2 := v }

def Bays.get {α : Type} (x : Bays α) : Letter → α
  | .a => x.a | .b => x.b

def Bays.set {α : Type} (x : Bays α) (i : Letter) (v : α) : Bays α :=
  match i with
  | .a => { x with a := v } | .b => { x with b := v }

/-! ## Sets as the line carries them (R188) -/

/-- A channel set byte: bit ch stands for channel ch; none when a bit above channel 5 is set. -/
def chanSetOf (n : Nat) : Option (Chans Bool) :=
  if n < 64 then
    some ⟨n.testBit 0, n.testBit 1, n.testBit 2, n.testBit 3, n.testBit 4, n.testBit 5⟩
  else none

/-- A head mask byte: bit h stands for head h; none when a bit above head 2 is set. -/
def headSetOf (n : Nat) : Option (Heads Bool) :=
  if n < 8 then some ⟨n.testBit 0, n.testBit 1, n.testBit 2⟩ else none

def Chans.isEmpty (x : Chans Bool) : Bool := !(x.c0 || x.c1 || x.c2 || x.c3 || x.c4 || x.c5)
def Heads.isEmpty (x : Heads Bool) : Bool := !(x.h0 || x.h1 || x.h2)

/-- The heads that serve the channels of a set. -/
def headsOf (x : Chans Bool) : Heads Bool := ⟨x.c0 || x.c1, x.c2 || x.c3, x.c4 || x.c5⟩

/-- The members of a set in ascending order. -/
def Chans.members (x : Chans Bool) : List Chan := allChans.filter x.get
def Heads.members (x : Heads Bool) : List Head := allHeads.filter x.get

/-- An on/off byte (R188). -/
def boolOf : Nat → Option Bool
  | 0 => some false | 1 => some true | _ => none

end Sys2Proof

namespace Sys2Proof.Machine

open Sys2Proof

/-! ## Time -/

/-- A deadline set for the time `due` has been reached (log entry 3: an expiry has its effect only then). -/
def reached (due now : Nat) : Bool := due ≤ now

/-! ## Telling another block or the host -/

/-- Tells another block: the report is delivered within the event. -/
def post (r : Report) (w : Work) : Work := { w with agenda := w.agenda ++ [r] }

/-- Gives a notice: it is queued at the end of the event, after the reply (R176, R177). -/
def give (n : Notice) (w : Work) : Work := { w with outbox := w.outbox ++ [n] }

/-- Answers the request being decided with an outcome and items. -/
def answerWith (a : Answer) (reason : Code) (items : List Byte) (subject : Nat) (w : Work) : Work :=
  { w with reply := some ⟨a, reason, items, subject⟩ }

/-- REFUSED with a reason (Table 0-2). -/
def refuse (reason : Code) (w : Work) : Work := answerWith .refused reason [] 0 w

/-- OK with the items of the rule that answers. -/
def okWith (items : List Byte) (w : Work) : Work := answerWith .ok .ok items 0 w

/-- STARTED; the outstanding entry has the given subject (R175). -/
def started (subject : Nat) (w : Work) : Work := answerWith .started .ok [] subject w

/-- WAIT (Table 0-2). -/
def waitReply (w : Work) : Work := answerWith .wait .ok [] 0 w

/-- Applies `f` when a condition holds. -/
def when (c : Bool) (f : Work → Work) (w : Work) : Work := if c then f w else w

/-- Applies `f` for each member of a list in turn. -/
def forEach {α : Type} (xs : List α) (f : α → Work → Work) (w : Work) : Work := xs.foldl (fun w x => f x w) w

/-! ## What several blocks read -/

/-- A defined profile entry. -/
def profileAt (w : State) (i : Nat) : Option Profile := (w.media.profiles[i]?).join

/-- The slot whose roll is THREADED. -/
def threadedSlot (m : Media) : Option Slot :=
  if m.rolls.s1.state = .threaded then some .s1 else if m.rolls.s2.state = .threaded then some .s2 else none

/-- The sequence is in its unload part (R33, R34). -/
def MediaStep.isUnload : MediaStep → Bool
  | .dirtyCut | .unloadRewind => true
  | _ => false

/-- The sequence is in its load part (R29 to R32). -/
def MediaStep.isLoad : MediaStep → Bool
  | .edgeSearch | .widthScan | .leadTrim | .trimCut | .failRewind => true
  | _ => false

/-- The sequence is a remainder ejection (R38). -/
def MediaStep.isEject : MediaStep → Bool
  | .ejectFirst | .ejectSecond | .ejectAfterScan | .ejectAfterCut => true
  | _ => false

/-- The roll on the path as R4 defines it: the THREADED roll, the roll being loaded, or the ENDED roll being ejected. -/
def rollOnPath (m : Media) : Option Slot :=
  match threadedSlot m with
  | some s => some s
  | none =>
    match m.seq with
    | some q => if q.step.isLoad || q.step.isEject then some q.slot else none
    | none => none

/-- The carriage is at the station, CAPPED or OPEN. -/
def parked (w : State) : Bool := w.station.car.state = .capped || w.station.car.state = .open

/-- The letter of the channel's ACTIVE bay (Table 4-2). -/
def activeLetter (u : Supply) (ch : Chan) : Option Letter :=
  let b := u.bays.get ch
  if b.a.state = .active then some .a else if b.b.state = .active then some .b else none

/-- The record of one bay. -/
def bayRec (u : Supply) (b : Bay) : BayRec := (u.bays.get b.chan).get b.letter

end Sys2Proof.Machine
end

