-- ==== Sys2Proof/Machine/Operands.lean ====
section
/-! DEFINITION. How quantities stand in a frame payload or a module record (R188, R190, R191; Tables 11-1, 11-2, 11-6, 11-7):
numbers least significant byte first, absent values as all ones, enumerations numbered in the order of their tables. -/

namespace Sys2Proof.Machine

open Sys2Proof

/-! ## Numbers -/

/-- `n` bytes of a number, least significant first. -/
def leBytes : Nat → Nat → List Byte
  | 0, _ => []
  | n + 1, v => BitVec.ofNat 8 v :: leBytes n (v / 256)

def u8 (v : Nat) : List Byte := leBytes 1 v
def u16 (v : Nat) : List Byte := leBytes 2 v
def u32 (v : Nat) : List Byte := leBytes 4 v
def u64 (v : Nat) : List Byte := leBytes 8 v

/-- Two's complement (R188). -/
def s32 (v : Int) : List Byte := leBytes 4 (v % 4294967296).toNat
def s64 (v : Int) : List Byte := leBytes 8 (v % 18446744073709551616).toNat

/-- An absent item of `n` bytes (R188). -/
def absent (n : Nat) : List Byte := List.replicate n 0xFF

def o8 : Option Nat → List Byte
  | none => absent 1 | some v => u8 v
def o16 : Option Nat → List Byte
  | none => absent 2 | some v => u16 v
def o32 : Option Nat → List Byte
  | none => absent 4 | some v => u32 v

/-- A flag, an on/off choice. -/
def flag (b : Bool) : List Byte := u8 (if b then 1 else 0)

/-- A set of channels as one byte (R188). -/
def chanByte (x : Chans Bool) : Nat :=
  (if x.c0 then 1 else 0) + (if x.c1 then 2 else 0) + (if x.c2 then 4 else 0) + (if x.c3 then 8 else 0)
    + (if x.c4 then 16 else 0) + (if x.c5 then 32 else 0)

/-- A head mask as one byte (R188). -/
def headByte (x : Heads Bool) : Nat :=
  (if x.h0 then 1 else 0) + (if x.h1 then 2 else 0) + (if x.h2 then 4 else 0)

/-- A text as a field of `n` bytes: it ends at its first 0x00 and is padded with 0x00 (R188). -/
def text (n : Nat) (t : List Byte) : List Byte := (textOf t ++ List.replicate n 0).take n

/-! ## Enumerations (R188; log entry 12 for the ones no table lists) -/

/-- Table 11-2. -/
def Code.num : Code → Nat
  | .ok => 0 | .badField => 1 | .unknownKind => 2 | .badState => 3 | .tagBusy => 4 | .busy => 5 | .queueFull => 6
  | .overrun => 7 | .sheetFaulted => 8 | .noMedia => 9 | .shortRoll => 10 | .pathFault => 11 | .noInk => 12
  | .serviceDue => 13 | .headDegraded => 14 | .wasteFull => 15 | .noWasteTank => 16 | .carriageNotParked => 17
  | .notAtHome => 18 | .notReady => 19 | .completed => 32 | .discarded => 33 | .rejected => 34 | .aborted => 35
  | .feedStall => 37 | .feedTimeout => 38 | .slip => 39 | .rollEnd => 40 | .inkDry => 41 | .cutterJam => 42
  | .exitJam => 43 | .skew => 44 | .noEdge => 45 | .widthMismatch => 46 | .unloadJam => 47 | .noFlow => 48
  | .fillFault => 49 | .noSupply => 50 | .memory => 51 | .suctionFault => 52 | .wipeFault => 53 | .capFault => 54
  | .sensorFault => 55 | .background => 56 | .framing => 57 | .bayChanged => 58

def code (c : Code) : List Byte := u8 c.num
def optCode : Option Code → List Byte
  | none => absent 1 | some c => code c

/-- Table 0-2. -/
def Answer.num : Answer → Nat
  | .ok => 0 | .started => 1 | .queued => 2 | .wait => 3 | .refused => 4

/-- Notice kinds of the categories (Table 11-1). -/
def Category.kind : Category → Nat
  | .sheet => 0x63 | .media => 0x64 | .supply => 0x65 | .service => 0x66

def StartPhase.num : StartPhase → Nat
  | .starting => 0 | .ready => 1 | .storeFault => 2

/-- Table 2-6. -/
def Owner.num : Owner → Nat
  | .idle => 0 | .loading => 1 | .unloading => 2 | .sheet => 3 | .check => 4

/-- Table 2-4. -/
def RollState.num : RollState → Nat
  | .absent => 0 | .standby => 1 | .threaded => 2 | .ended => 3 | .fault => 4

/-- Table 2-7. -/
def Content.num : Content → Nat
  | .empty => 0 | .clean => 1 | .dirty => 2 | .fault => 3

/-- Table 3-2. -/
def SheetPhase.num : SheetPhase → Nat
  | .none => 0 | .opening => 1 | .swathing => 2 | .tail => 3 | .drying => 4 | .cutWait => 5 | .cutting => 6
  | .ejecting => 7 | .faulted => 8

/-- Table 4-2. -/
def BayState.num : BayState → Nat
  | .vacant => 0 | .reading => 1 | .active => 2 | .standby => 3 | .spent => 4 | .rejected => 5 | .fault => 6

/-- Table 4-7. -/
def TankState.num : TankState → Nat
  | .absent => 0 | .reading => 1 | .present => 2 | .fault => 3

/-- SUPPLIED 0, STARVED 1 (R83's order; log entry 12). -/
def supplyNum (supplied : Bool) : Nat := if supplied then 0 else 1

/-- Table 5-4. -/
def PumpKind.num : PumpKind → Nat
  | .prePurge => 0 | .topUp => 1 | .refill => 2 | .stir => 3

/-- Table 6-1. -/
def CarState.num : CarState → Nat
  | .capped => 0 | .open => 1 | .released => 2 | .serviceMove => 3

/-- Table 6-2. -/
def Hold.num : Hold → Nat
  | .none => 0 | .waiting => 1 | .granted => 2

/-- Table 6-4. -/
def WasteLevel.num : WasteLevel → Nat
  | .none => 0 | .normal => 1 | .nearFull => 2 | .full => 3

/-- The claims held: media bit 0, check bit 1, service bit 2 (Table 6-2's order; log entry 12). -/
def Claims.num (c : Claims) : Nat :=
  (if c.media then 1 else 0) + (if c.check then 2 else 0) + (if c.service then 4 else 0)

/-- Table 8-5. -/
def Escalation.num : Escalation → Nat
  | .ok => 0 | .attention => 1 | .round1 => 2 | .round2 => 3 | .round3 => 4 | .degraded => 5

/-- Table 8-4. -/
def RowStatus.num : RowStatus → Nat
  | .unchecked => 0 | .valid => 1 | .stale => 2

def NozzleState.num : NozzleState → Nat
  | .unchecked => 0 | .good => 1 | .weak => 2 | .out => 3 | .masked => 4

/-- STATUS_CHANGED's category mask (R188). -/
def Categories.num (c : Categories) : Nat :=
  (if c.sheet then 1 else 0) + (if c.media then 2 else 0) + (if c.supply then 4 else 0) + (if c.service then 8 else 0)

/-- The request kinds whose operations end with a completion notice (Table 11-1). -/
def kindSheetOpen : Nat := 0x01
def kindSwath : Nat := 0x02
def kindSheetClose : Nat := 0x03
def kindSheetAbort : Nat := 0x04
def kindMediaLoad : Nat := 0x08
def kindMediaUnload : Nat := 0x09
def kindRollSelect : Nat := 0x0A
def kindTopUp : Nat := 0x13
def kindUncap : Nat := 0x18
def kindCap : Nat := 0x19
def kindService : Nat := 0x1C
def kindCheck : Nat := 0x1D

/-! ## Named things in payloads -/

/-- A slot, or its absence. -/
def optSlot : Option Slot → List Byte
  | none => absent 1 | some s => u8 s.num

/-- A bay is named by its channel and its letter (R190). -/
def bayBytes (b : Bay) : List Byte := u8 b.chan.num ++ u8 b.letter.num

/-- A bay of a channel, or none. -/
def optBay (ch : Chan) : Option Letter → List Byte
  | none => absent 2 | some l => bayBytes ⟨ch, l⟩

/-- The tank, where a bay is named: a channel of 0xFF and no letter (R190). -/
def tankBytes : List Byte := absent 2

/-! ## Notices -/

/-- An event notice: its kind byte and items (R190, Table 11-7). -/
def event (cat : Category) (kind : Nat) (items : List Byte) (w : Work) : Work := give (.event cat (u8 kind ++ items)) w

/-- OP_DONE of an operation: outcome, kind of its request, detail block (Tables 11-4 and 11-5). -/
def opDone (kind tag : Nat) (outcome : Code) (detail : List Byte) (w : Work) : Work :=
  give (.completion 0x61 tag (code outcome ++ u8 kind ++ detail)) w

/-! ## Module records (R191) -/

/-- The low 8 bits of the sum of the bytes. -/
def checksum (bs : List Byte) : Byte := BitVec.ofNat 8 ((bs.map BitVec.toNat).foldl (· + ·) 0)

/-- A record of `n` bytes whose last byte is the checksum of the bytes before it. -/
def recordOk (n : Nat) (bs : List Byte) : Bool :=
  bs.length = n + 1 && bs.drop n = [checksum (bs.take n)]

/-- The bytes of a cartridge memory without its checksum. -/
def cartBody (c : Cart) : List Byte := u16 c.ink ++ u32 c.capacity ++ u32 c.remaining ++ text 8 c.lot

/-- The cartridge record in an answer of 19 bytes with a good checksum. The lot ends at its first 0x00 (R188).
DESIGN CHOICE (log entry 54): bytes of it that are no printable characters are kept as they came. -/
def cartOf (bs : List Byte) : Option Cart :=
  if recordOk 18 bs then some ⟨fieldAt bs 0 2, fieldAt bs 2 4, fieldAt bs 6 4, textOf ((bs.drop 10).take 8)⟩ else none

/-- Capacity and waste content in a tank's answer of 17 bytes with a good checksum. -/
def tankOf (bs : List Byte) : Option (Nat × Nat) :=
  if recordOk 16 bs then some (fieldAt bs 0 4, fieldAt bs 4 4) else none

/-- A memory whose four bytes from `start` on are rewritten, with its checksum recomputed; `n` is its length without it. -/
def rewrite (n start value : Nat) (image : List Byte) : List Byte :=
  let body := image.take start ++ u32 value ++ (image.drop (start + 4)).take (n - (start + 4))
  body ++ [checksum body]

end Sys2Proof.Machine
end

