-- ==== Sys2Proof/Machine/Flags.lean ====
section
/-! DEFINITION. Every flag and level the manual computes from a quantity: ink hold and DRY (R96, R97), the waste level (R133),
SPIT_DUE and CLEAN_DUE (R138, R139), and the clocks they are computed from. -/

namespace Sys2Proof.Machine

open Sys2Proof

/-- The ink hold after E has become `e` (R97). -/
def holdAfter (e : Nat) (held : Bool) : Bool :=
  if e < Config.printReserve then true else if Config.holdRelease ≤ e then false else held

/-- The DRY flag after E has become `e`, without a DRY clamp (R96). -/
def dryAfter (e : Nat) (dry : Bool) : Bool := if Config.printReserve < e then false else dry

/-- The waste level while W is present (R133). -/
def wasteLevelOf (w capacity : Nat) : WasteLevel :=
  if w = capacity then .full else if capacity * 9 ≤ w * 10 then .nearFull else .normal

/-- The value of a channel's wet clock (R137). -/
def wetClock (s : State) (ch : Chan) : Nat :=
  if s.station.car.state = .capped then 0 else min Config.wetMax (s.now - (s.station.wet.get ch).since)

/-- A wet clock beyond the keep-wet time (R138). -/
def spitDueAt (clock keepWet : Nat) : Bool := keepWet < clock

/-- A wet clock beyond four times the keep-wet time (R139). -/
def cleanDueAt (clock keepWet : Nat) : Bool := 4 * keepWet < clock

/-- The value of a channel's stir timer (R103, Table 5-1). -/
def stirTimer (s : State) (ch : Chan) : Nat :=
  match (s.pump.chans.get ch).stirSince with
  | none => Config.stirTimerMax
  | some t => min Config.stirTimerMax (s.now - t)

/-- The idle time of the carriage (R124). -/
def idleTime (s : State) : Nat :=
  match s.station.car.idleSince with
  | none => 0
  | some t => s.now - t

/-- The wait of a request list entry (R104). -/
def waitOf (s : State) (r : PumpReq) : Nat := s.now - r.made

end Sys2Proof.Machine
end

