-- ==== Sys2Proof/Machine/Link.lean ====
section
/-! DEFINITION. The link interface (Chapter 9): the CRC, frame reception, the receive buffer, the transmit queue with its three
classes of frame, and the pending STATUS_CHANGED. Deciding a request is in Machine/Requests.lean. -/

namespace Sys2Proof.Machine

open Sys2Proof

/-! ## The CRC (R172) -/

/-- One bit of the register with the generator x^16 + x^12 + x^5 + 1. -/
def crcShift (c : Crc) : Crc := if c.msb then (c <<< 1) ^^^ 0x1021 else c <<< 1

/-- One byte enters the register, most significant bit first. -/
def crcByte (c : Crc) (b : Byte) : Crc :=
  crcShift (crcShift (crcShift (crcShift (crcShift (crcShift (crcShift (crcShift (c ^^^ (b.setWidth 16 <<< 8)))))))))

/-- The CRC of a sequence of bytes: the register starts at 0xFFFF. -/
def crc (bs : List Byte) : Crc := bs.foldl crcByte 0xFFFF

/-- The bytes of a frame from LEN to the last payload byte (Table 9-1). -/
def Frame.body (f : Frame) : List Byte := u8 (f.payload.length + 2) ++ u8 f.kind ++ u8 f.tag ++ f.payload

/-- A frame as it crosses the line (Table 9-1): start byte, body, CRC low byte first. -/
def Frame.onLine (f : Frame) : List Byte := u8 Config.startByte ++ f.body ++ u16 (crc f.body).toNat

/-! ## Reception (R172, R173) -/

/-- Adds 1 to the link error count, which stays at 65,535. -/
def countError (l : Link) : Link := { l with errors := min Config.maxLinkErrors (l.errors + 1) }

/-- Discards the frame in progress, counts it, and resumes the hunt. -/
def discardFrame (l : Link) : Link := { countError l with rx := { l.rx with phase := .hunt, bytes := [] } }

/-- A good frame reaches the receive buffer, or is discarded as a receive overrun (R173). -/
def arrive (q : Request) (l : Link) : Link :=
  if l.buffer.length < Config.bufferSlots then { l with buffer := l.buffer ++ [q] } else countError l

/-- The last CRC byte has arrived: `bs` is the frame from LEN to the CRC. -/
def frameEnd (bs : List Byte) (l : Link) : Link :=
  let n := bs.length - 2
  let l' := { l with rx := { l.rx with phase := .hunt, bytes := [] } }
  if leNat (bs.drop n) = (crc (bs.take n)).toNat then
    match bs.take n with
    | _ :: kind :: tag :: payload => arrive (requestOf kind tag payload) l'
    | _ => l'
  else countError l'

/-- More than 2 ms have passed since the last byte of a partial frame (R172). -/
def gapPassed (now : Nat) (l : Link) : Bool :=
  l.rx.phase != .hunt && reached (l.rx.last + Config.frameGap + 1) now

/-- A byte is received outside a frame: only a start byte begins one (R172). -/
def huntByte (now : Nat) (b : Byte) (stopOk : Bool) (l : Link) : Link :=
  if stopOk && b.toNat = Config.startByte then { l with rx := ⟨.length, [], now⟩ } else l

/-- One byte arrives, with or without a valid stop bit (R172). -/
def receive (now : Nat) (b : Byte) (stopOk : Bool) (l : Link) : Link :=
  let l := if gapPassed now l then discardFrame l else l
  match l.rx.phase with
  | .hunt => huntByte now b stopOk l
  | .length =>
    if !stopOk || b.toNat < Config.lenMin || Config.lenMax < b.toNat then discardFrame l
    else { l with rx := ⟨.collect (b.toNat + 2), [b], now⟩ }
  | .collect need =>
    if !stopOk then discardFrame l
    else if need ≤ 1 then frameEnd (b :: l.rx.bytes).reverse l
    else { l with rx := ⟨.collect (need - 1), b :: l.rx.bytes, now⟩ }

/-! ## Transmission (R177 to R179) -/

def freeSlots (l : Link) : Nat := Config.queueSlots - l.queue.length

/-- The oldest frame of the receive buffer is decided when 17 slots are free (R173, R178). -/
def mayDecide (l : Link) : Bool := Config.keptSlots ≤ freeSlots l

/-- A frame joins the transmit queue. -/
def enqueue (f : Frame) (l : Link) : Link := { l with queue := l.queue ++ [f] }

def Categories.none : Categories := ⟨false, false, false, false⟩

/-- Adds a category to the mask of the pending STATUS_CHANGED. -/
def Categories.add (c : Categories) : Category → Categories
  | .sheet => { c with sheet := true }
  | .media => { c with media := true }
  | .supply => { c with supply := true }
  | .service => { c with service := true }

/-- A slot may be taken by an event notice: 17 stay free (R178). -/
def eventRoom (l : Link) : Bool := Config.keptSlots + 1 ≤ freeSlots l

/-- The outstanding table holds the tag (R175). -/
def outstanding (l : Link) (tag : Nat) : Bool := l.table.any (fun e => e.tag = tag)

/-- Places a notice: a completion takes its entry with it, an event may be merged (R177, R178, R179). A completion whose tag has no
entry is dropped (R187). -/
def placeNotice (n : Notice) (l : Link) : Link :=
  match n with
  | .completion kind tag payload =>
    if outstanding l tag then
      { enqueue ⟨.completion, kind, tag, payload⟩ l with table := l.table.filter (fun e => e.tag ≠ tag) }
    else l
  | .event cat payload =>
    match l.changed with
    | some c => { l with changed := some (c.add cat) }
    | none =>
      if eventRoom l then enqueue ⟨.event, cat.kind, 0, payload⟩ l
      else { l with changed := some (Categories.none.add cat) }
  | .ready payload => enqueue ⟨.event, 0x60, 0, payload⟩ l

/-- The pending STATUS_CHANGED is placed when it leaves 17 slots free (R179). -/
def placeChanged (l : Link) : Link :=
  match l.changed with
  | some c => if eventRoom l then { enqueue ⟨.event, 0x67, 0, u8 c.num⟩ l with changed := none } else l
  | none => l

/-- The frame being sent has left the line: its slot is free, and a pending STATUS_CHANGED is looked at (R178, R179). -/
def frameLeft (l : Link) : Link :=
  match l.queue with
  | [] => l
  | _ :: rest => placeChanged { l with queue := rest }

/-- The kind of the reply to a request kind (R174). -/
def replyKind (kind : Nat) : Nat := if 1 ≤ kind && kind ≤ 0x7F then kind + 0x80 else 0x80

/-- A reply frame (R176, 11.3). -/
def replyFrame (q : Request) (r : Reply) : Frame :=
  ⟨.reply, replyKind q.kind, q.tag, u8 r.answer.num ++ code r.reason ++ r.items⟩

/-- Places a reply; STARTED and QUEUED make the outstanding entry (R175). -/
def placeReply (q : Request) (r : Reply) (l : Link) : Link :=
  let l := enqueue (replyFrame q r) l
  if r.answer = .started || r.answer = .queued then { l with table := l.table ++ [⟨q.tag, q.kind, r.subject⟩] } else l

/-- Queues the notices the event has given, in the order they were given. -/
def flush (w : Work) : Work :=
  { w with link := w.outbox.foldl (fun l n => placeNotice n l) w.link, outbox := [] }

/-- Mechanism reset, steps 2 and 3 of R187: every notice but the frame being sent goes, with the pending STATUS_CHANGED and the
outstanding table. -/
def resetLink (l : Link) : Link :=
  { l with
    queue :=
      match l.queue with
      | [] => []
      | f :: rest => f :: rest.filter (fun g => g.cls = .reply)
    table := []
    changed := none }

end Sys2Proof.Machine
end

