-- ==== Sys2Proof/Machine/Feed.lean ====
section
/-! DEFINITION. The feed drive (Chapter 1): the scale correction, the advance computation with its residue, moves and their
deadlines, tracking verification and the completion report. -/

namespace Sys2Proof.Machine

open Sys2Proof

/-! ## What may be asked (R1 to R3) -/

/-- Table 1-3. -/
def allowed : Owner → Bool → Purpose → Bool
  | .loading, true, .edgeSearch | .loading, true, .leadTrim | .loading, false, .rewind => true
  | .unloading, true, .ejection | .unloading, false, .rewind => true
  | .sheet, true, .leadingMargin | .sheet, true, .swath | .sheet, true, .tail => true
  | .check, true, .checkLead | .check, true, .checkPattern | .check, true, .strip => true
  | _, _, _ => false

/-- The range of A for a purpose (R3). -/
def lengthOk (p : Purpose) (a : Nat) : Bool := (p = .swath || 1 ≤ a) && a ≤ Config.maxMove

/-- How the feed drive decides a move request (R1). -/
inductive MoveAnswer where
  | taken | busy | notOwner | outOfRange
  deriving DecidableEq, Repr

/-- R1's decision, in its order. -/
def moveAnswer (q : MoveAsk) (s : State) : MoveAnswer :=
  if s.feed.move.isSome then .busy
  else if q.owner ≠ s.media.owner ∨ s.media.owner = .idle then .notOwner
  else if !(allowed q.owner q.forward q.purpose && lengthOk q.purpose q.a) then .outOfRange
  else .taken

/-! ## The scale correction (R4, R5) -/

/-- The profile of the roll on the path. -/
def pathProfile (s : State) : Option Profile :=
  match rollOnPath s.media with
  | some slot =>
    match (s.media.rolls.get slot).profile with
    | some i => profileAt s i
    | none => none
  | none => none

/-- S_profile of the roll on the path; 0 when the path has none (no forward move starts then). -/
def sProfile (s : State) : Int :=
  match pathProfile s with
  | some p => p.sProfile
  | none => 0

/-- The total correction S (R4). -/
def totalS (s : State) : Int :=
  clampInt (-Config.totalTrimLimit) Config.totalTrimLimit (sProfile s + s.feed.sHost + s.feed.sTrack)

/-! ## The advance computation (R6, R8) -/

/-- raw of R6. -/
def rawOf (a k : Nat) (sUsed : Int) : Nat := ((a : Int) * (k : Int) * ((Config.million : Int) + sUsed)).toNat

/-- Commanded counts of a forward move (R6). -/
def forwardCounts (a k : Nat) (sUsed : Int) (r : Nat) : Nat := (rawOf a k sUsed + r) / Config.residueScale

/-- The new residue (R6). -/
def newResidue (a k : Nat) (sUsed : Int) (r : Nat) : Nat := (rawOf a k sUsed + r) % Config.residueScale

/-- Commanded counts of a reverse move (R8). -/
def reverseCounts (a k : Nat) : Nat := a * k / Config.million

/-- Counts converted to µm without scale correction (R13, R18). -/
def countTravel (k seen : Nat) : Nat := seen * Config.million / k

/-- Tracking applies to a move with these properties at its start (R14). -/
def trackingApplies (q : MoveAsk) (s : State) : Bool :=
  q.forward && 1 ≤ q.a &&
    match threadedSlot s.media with
    | some slot =>
      match (s.media.rolls.get slot).profile.bind (profileAt s) with
      | some p => p.tracking
      | none => false
    | none => false

/-! ## Completion reports (R18) -/

/-- The reported travel (R18). -/
def reportTravel (k a seen : Nat) : MoveOutcome → Nat
  | .completed | .slip => a
  | .stopped | .feedStall | .feedTimeout => countTravel k seen

/-- Ends the move in flight: the drive is IDLE when the report is sent (R18). -/
def endMove (m : Move) (outcome : MoveOutcome) (measured : Option Nat) (w : Work) : Work :=
  post (.moveEnded ⟨m.ask, outcome, m.commanded, m.seen, reportTravel w.feed.k m.ask.a m.seen outcome, measured, m.sUsed⟩)
    { w with feed := { w.feed with move := none } }

/-! ## Starting a move (R1, R3, R6, R8, R9) -/

/-- Starts a move that R1 has taken. A move of 0 commanded counts ends at once, COMPLETED and not measured (R3, R8). -/
def startMove (q : MoveAsk) (w : Work) : Work :=
  if !q.forward then
    let m : Move := ⟨q, reverseCounts q.a w.feed.k, 0, false, w.now, 0⟩
    if m.commanded = 0 then endMove m .completed none w else { w with feed := { w.feed with move := some m } }
  else if q.a = 0 then
    endMove ⟨q, 0, totalS w.toState, false, w.now, 0⟩ .completed none w
  else
    let sUsed := totalS w.toState
    let m : Move :=
      ⟨q, forwardCounts q.a w.feed.k sUsed w.feed.r, sUsed, trackingApplies q w.toState, w.now, 0⟩
    let w := { w with feed := { w.feed with r := newResidue q.a w.feed.k sUsed w.feed.r } }
    if m.commanded = 0 then endMove m .completed none w else { w with feed := { w.feed with move := some m } }

/-- A block asks for a move; one refused as busy is asked again when the move in flight ends (R1). -/
def askMove (q : MoveAsk) (w : Work) : Work :=
  match moveAnswer q w.toState with
  | .taken => startMove q w
  | .busy => { w with feed := { w.feed with again := some q } }
  | .notOwner | .outOfRange => w

/-- The move in flight has ended: a request refused as busy is asked again (R1). -/
def askAgainMove (w : Work) : Work :=
  match w.feed.again with
  | some q => askMove q { w with feed := { w.feed with again := none } }
  | none => w

/-! ## Tracking verification (R14 to R16) -/

/-- The slip limit of a move (R15). -/
def slipLimit (a : Nat) : Nat := max Config.slipFloor (a / 50)

/-- A measured move has slipped (R15). -/
def slipped (a m : Nat) : Bool := slipLimit a < ((a : Int) - (m : Int)).natAbs

/-- The error in ppm, truncated toward zero (R16). -/
def trackError (a m : Nat) : Int := (((a : Int) - (m : Int)) * (Config.million : Int)).tdiv (a : Int)

/-- S_track after a passing measured move (R16). -/
def trackAfter (sTrack : Int) (a m : Nat) : Int :=
  if a < Config.trimMinMove then sTrack
  else clampInt (-Config.trackTrimLimit) Config.trackTrimLimit (sTrack + (trackError a m).tdiv 8)

/-- The move has driven its commanded counts (R10, R14 to R16). `measured` is what the tracking sensor gives. -/
def completeMove (m : Move) (measured : Nat) (w : Work) : Work :=
  if !m.tracked then endMove m .completed none w
  else if slipped m.ask.a measured then endMove m .slip (some measured) w
  else endMove m .completed (some measured)
    { w with feed := { w.feed with sTrack := trackAfter w.feed.sTrack m.ask.a measured } }

/-! ## Motion (R9 to R13) -/

/-- An encoder count arrives (R9, R10). DESIGN CHOICE (log entry 51): a count that arrives while a move is in flight is that
move's, even one of the coasting after a faulted move (R11) or after the reset that abandoned a move (R19). -/
def countMove (measured : Nat) (w : Work) : Work :=
  match w.feed.move with
  | none => w
  | some m =>
    let m := { m with seen := m.seen + 1 }
    if m.commanded ≤ m.seen then completeMove m measured w else { w with feed := { w.feed with move := some m } }

/-- The stall deadline of a move (R9). -/
def stallDue (m : Move) : Nat := m.start + Config.stallTime

/-- The completion deadline of a move (R10). -/
def completionDue (m : Move) : Nat := m.start + Config.completionBase + ceilDiv m.commanded 100

/-- 30 ms have passed with no count (R9). -/
def stallMove (w : Work) : Work :=
  match w.feed.move with
  | some m => if m.seen = 0 && reached (stallDue m) w.now then endMove m .feedStall none w else w
  | none => w

/-- The completion deadline has expired (R10). -/
def timeoutMove (w : Work) : Work :=
  match w.feed.move with
  | some m => if reached (completionDue m) w.now then endMove m .feedTimeout none w else w
  | none => w

/-- The owner of the move stops it (R12). `late` counts arrive while the request is on its way: a move that completes in that time
is COMPLETED and the stop finds the drive IDLE (log entry 5). -/
def stopMove (owner : Owner) (late : Nat) (w : Work) : Work :=
  match w.feed.move with
  | some m =>
    if m.ask.owner ≠ owner then w
    else if m.commanded ≤ m.seen + late then completeMove { m with seen := m.commanded } 0 w
    else endMove { m with seen := m.seen + late } .stopped none w
  | none => w

/-- The position of the move in flight: counts seen and their travel, or not moving (R13). -/
def position (s : State) : Option (Nat × Nat) := s.feed.move.map (fun m => (m.seen, countTravel s.feed.k m.seen))

/-! ## Residue, trims, reset (R5, R7, R17, R19) -/

/-- R is set to 0 on a completed cut (R7). -/
def feedCut (w : Work) : Work := { w with feed := { w.feed with r := 0 } }

/-- R and S_track are set to 0 on a completed load (R7, R17). -/
def feedLoaded (w : Work) : Work := { w with feed := { w.feed with r := 0, sTrack := 0 } }

/-- Mechanism reset (R19). -/
def resetFeed (w : Work) : Work := { w with feed := { w.feed with r := 0, move := none, again := none } }

/-- FEED_TRIM_SET (R5, R186). -/
def feedTrimSet (value : Int) (w : Work) : Work :=
  let v := clampInt (-Config.hostTrimLimit) Config.hostTrimLimit value
  okWith (s32 v ++ flag (v ≠ value)) { w with feed := { w.feed with sHost := v } }

end Sys2Proof.Machine
end

