-- ==== Sys2Proof/Machine/Supply.lean ====
section
/-! DEFINITION. The supply bay unit (Chapter 4): the module bus, the ink acceptance table and its verdicts, bays and the choice
of the supplying bay, charges and write-backs, and the waste tank's record with what the service station controller takes
from it (R131, R133). -/

namespace Sys2Proof.Machine

open Sys2Proof

/-! ## The waste estimate takes a tank (R131, R133) -/

/-- SERVICE_EVENT of kind waste level: level, W and C_w (R133). -/
def wasteEvent (level : WasteLevel) (t : WasteRec) (w : Work) : Work :=
  event .service 1 (u8 level.num ++ u32 t.w ++ u32 t.capacity) w

/-- The change from one level to another is reported (R133). -/
def levelReported (old new : WasteLevel) : Bool :=
  old != new && (new = .nearFull || new = .full || (new = .normal && (old = .nearFull || old = .full)))

/-- Sets the waste level anew while W is present (R133). -/
def wasteRelevel (w : Work) : Work :=
  match w.station.waste.tank with
  | some t =>
    let old := w.station.waste.level
    let new := wasteLevelOf t.w t.capacity
    when (levelReported old new) (wasteEvent new t)
      { w with station := { w.station with waste := { w.station.waste with level := new } } }
  | none => w

/-- A tank read as PRESENT: C_w and the content clamped to it (R131). -/
def wasteTake (capacity content : Nat) (w : Work) : Work :=
  let v := min content capacity
  wasteRelevel
    { w with station := { w.station with waste := { w.station.waste with tank := some ⟨v, capacity, v⟩ } } }

/-- No tank with a usable record (R131). -/
def wasteGone (w : Work) : Work :=
  { w with station := { w.station with waste := { w.station.waste with tank := none, level := .none } } }

/-! ## Records -/

def setSupply (f : Supply → Supply) (w : Work) : Work := { w with supply := f w.supply }

/-- Replaces the record of one bay. -/
def setBay (b : Bay) (r : BayRec) (w : Work) : Work :=
  setSupply (fun u => { u with bays := u.bays.set b.chan ((u.bays.get b.chan).set b.letter r) }) w

/-- The items of a bay-state event: bay, state and, for FAULT, the reason (R72, R73; log entry 12). -/
def bayItems (b : Bay) (r : BayRec) : List Byte :=
  bayBytes b ++ u8 r.state.num ++ (if r.state = .fault then optCode r.fault else [])

/-- SUPPLY_EVENT of kind bay state for one bay. -/
def bayEvent (b : Bay) (w : Work) : Work := event .supply 0 (bayItems b (bayRec w.supply b)) w

/-- SUPPLY_EVENT of kind bay state naming the tank (R91). -/
def tankEvent (w : Work) : Work := event .supply 0 (tankBytes ++ u8 w.supply.tank.state.num) w

/-! ## The module bus (R88, R89) -/

/-- Two operations of the same kind for the same target. -/
def BusOp.sameKind (x y : BusOp) : Bool :=
  x.target = y.target &&
    match x.kind, y.kind with
    | .read, .read => true
    | .write _, .write _ => true
    | _, _ => false

/-- Places an operation on the queue of a bus (R88): a write merges into a waiting write, a read into a waiting or running read. -/
def busJoin (op : BusOp) (q : List BusOp) : List BusOp :=
  match q with
  | [] => [op]
  | head :: waiting =>
    match op.kind with
    | .read => if (head :: waiting).any op.sameKind then q else q ++ [op]
    | .write _ =>
      if waiting.any op.sameKind then head :: waiting.map (fun x => if op.sameKind x then op else x) else q ++ [op]

/-- Places an operation; on an empty queue it starts at once. -/
def placeOp (op : BusOp) (w : Work) : Work :=
  setSupply
    (fun u => { u with bus := busJoin op u.bus, busStart := if u.bus.isEmpty then w.now else u.busStart }) w

/-- The head has completed: the next operation starts (R88). -/
def busNext (w : Work) : Work := setSupply (fun u => { u with bus := u.bus.tail, busStart := w.now }) w

/-- Drops every operation for a target; when the one in flight goes, the next starts (R89). -/
def busDrop (t : Target) (w : Work) : Work :=
  setSupply
    (fun u =>
      { u with
        bus := u.bus.filter (fun x => x.target ≠ t)
        busStart :=
          match u.bus with
          | head :: _ => if head.target = t then w.now else u.busStart
          | [] => u.busStart }) w

/-- WRITE_REMAINING of a bay that holds a record (R87). -/
def writeBack (b : Bay) (w : Work) : Work :=
  match (bayRec w.supply b).cart with
  | some c => placeOp ⟨.bay b, .write c.remaining, false⟩ w
  | none => w

/-- WRITE_WASTE, placed while the tank is PRESENT (R91). -/
def writeWaste (value : Nat) (w : Work) : Work :=
  if w.supply.tank.state = .present then placeOp ⟨.tank, .write value, false⟩ w else w

/-! ## Verdicts (R76, R77) -/

/-- An entry matches an ink code in a channel (R76). -/
def entryMatches (e : Accept) (ink : Nat) (ch : Chan) : Bool :=
  e.enabled && e.chans.get ch && ((ink ^^^ e.code) ||| e.mask) == e.mask

/-- The verdict (R77): the matched entry, or reject. -/
def verdict (table : List Accept) (ink : Nat) (ch : Chan) : Option Nat :=
  if table.any (fun e => e.kind = .reject && entryMatches e ink ch) then none
  else table.findIdx? (fun e => e.kind = .accept && entryMatches e ink ch)

/-! ## What the pump hears of a channel's bays (R74, R109) -/

/-- The pump's operation hears that its bay has been removed. -/
def tellRemoved (b : Bay) (w : Work) : Work :=
  match w.pump.op with
  | some op =>
    if op.bay = b then { w with pump := { w.pump with op := some { op with bayGone := true, changed := true } } } else w
  | none => w

/-- The pump's operation hears that the ACTIVE bay of its channel has changed. -/
def tellChanged (ch : Chan) (w : Work) : Work :=
  match w.pump.op with
  | some op => if op.chan = ch then { w with pump := { w.pump with op := some { op with changed := true } } } else w
  | none => w

/-! ## Selection, parameters, supply state (R81 to R83) -/

/-- The bay that the channel selection makes ACTIVE (R81). `left` is the bay that has just left ACTIVE. -/
def selectionOf (b : Bays BayRec) (left : Option Letter) : Option Letter :=
  match left with
  | some l => if (b.get l.other).state = .standby then some l.other else none
  | none => if b.a.state = .standby then some .a else if b.b.state = .standby then some .b else none

/-- SUPPLY_EVENT of kind toggle: channel, the bay that left, the bay that became ACTIVE (R81). -/
def toggleEvent (ch : Chan) (left : Option Letter) (new : Letter) (w : Work) : Work :=
  event .supply 1 (u8 ch.num ++ optBay ch left ++ bayBytes ⟨ch, new⟩) w

/-- Gives a bay a state and leaves the rest of its record. -/
def setBayState (b : Bay) (st : BayState) (w : Work) : Work := setBay b { bayRec w.supply b with state := st } w

/-- The channel selection with its notice (R81). -/
def select (ch : Chan) (left : Option Letter) (w : Work) : Work :=
  match selectionOf (w.supply.bays.get ch) left with
  | some l => toggleEvent ch left l (setBayState ⟨ch, l⟩ .active w)
  | none => w

/-- The channel's STIR entry without waiters (R103). -/
def PumpReq.bareStir (ch : Chan) (r : PumpReq) : Bool := r.chan = ch && r.kind = .stir && r.tags.isEmpty && !r.service

/-- A settle interval of 0 removes the channel's STIR entry without waiters (R103). DEDUCED (log entry 44): the removal is an
event that may make the conditions of R100 all true, so the pump looks at them. -/
def dropStir (ch : Chan) (w : Work) : Work :=
  if w.pump.list.any (PumpReq.bareStir ch) then
    post (.requestLook ch)
      { w with pump := { w.pump with list := w.pump.list.filter (fun r => !r.bareStir ch) } }
  else w

/-- The channel parameters are handed to their users (R82). -/
def handParams (ch : Chan) (p : Params) (w : Work) : Work :=
  let old := w.supply.params.get ch
  let w := setSupply (fun u => { u with params := u.params.set ch p }) w
  let w := when (p.settle = 0 && old.settle ≠ 0) (dropStir ch) w
  when (p.keepWet ≠ old.keepWet) (post (.keepWetTaken ch)) w

/-- The parameters of the ACTIVE bay's matched entry (R82). -/
def activeParams (u : Supply) (ch : Chan) : Option Params :=
  match activeLetter u ch with
  | some l => ((bayRec u ⟨ch, l⟩).entry.bind (fun i => u.accepts[i]?)).map Accept.params
  | none => none

/-- Takes the channel parameters of a channel with an ACTIVE bay (R82). -/
def takeParams (ch : Chan) (w : Work) : Work :=
  match activeParams w.supply ch with
  | some p => if p = w.supply.params.get ch then w else handParams ch p w
  | none => w

/-- Sets the supply state and reports its change (R83, R98). -/
def setSupplied (ch : Chan) (w : Work) : Work :=
  let new := (activeLetter w.supply ch).isSome
  if new = w.supply.supplied.get ch then w
  else
    let w := setSupply (fun u => { u with supplied := u.supplied.set ch new }) w
    let w := event .supply 2 (u8 ch.num ++ u8 (supplyNum new)) w
    when new (post (.requestLook ch)) (post (.inkChanged ch .supply) w)

/-- The end of each handling of R80: parameters, then supply state. -/
def judged (ch : Chan) (w : Work) : Work := setSupplied ch (takeParams ch w)

/-! ## Bays (R72 to R74) -/

/-- A presence switch closes (R72). `startUp` marks the reads of R182 step 1. -/
def insertBay (startUp : Bool) (b : Bay) (w : Work) : Work :=
  if (bayRec w.supply b).state = .vacant then
    bayEvent b (placeOp ⟨.bay b, .read, startUp⟩ (setBayState b .reading w))
  else w

/-- A presence switch opens (R74). -/
def removeBay (b : Bay) (w : Work) : Work :=
  let r := bayRec w.supply b
  if r.state = .vacant then w
  else
    let w := bayEvent b (busDrop (.bay b) (setBay b BayRec.vacant w))
    if r.state = .active then judged b.chan (select b.chan (some b.letter) (tellRemoved b w)) else w

/-- A cartridge record is possible (R73 step 1). -/
def cartPossible (c : Cart) : Bool :=
  Config.cartMin ≤ c.capacity && c.capacity ≤ Config.cartMax && c.remaining ≤ c.capacity

/-- A bay's memory has failed: FAULT, and no record is kept (R73, R90). -/
def memoryFault (r : BayRec) : BayRec := { r with state := .fault, cart := none, entry := none, fault := some .memory }

/-- The record a read gives a bay (R73). `hasActive` says that the channel has an ACTIVE bay. -/
def bayAfterRead (u : Supply) (b : Bay) (r : BayRec) (answer : Option (List Byte)) : BayRec :=
  match answer.bind (fun bs => (cartOf bs).map (fun c => (bs, c))) with
  | none => memoryFault r
  | some (bs, c) =>
    if !cartPossible c then memoryFault r
    else
      let r := { r with cart := some c, image := bs }
      if c.remaining < Config.strokeVolume then { r with state := .spent }
      else
        match verdict u.accepts c.ink b.chan with
        | some i =>
          { r with entry := some i, state := if (activeLetter u b.chan).isSome then .standby else .active }
        | none => { r with state := .rejected, entry := none }

/-- The READ_RECORD of a bay has completed (R73). -/
def bayRead (b : Bay) (answer : Option (List Byte)) (w : Work) : Work :=
  let r := bayRec w.supply b
  if r.state ≠ .reading then w
  else judged b.chan (bayEvent b (setBay b (bayAfterRead w.supply b r answer) w))

/-! ## The acceptance table (R75, R78, R79) -/

/-- A bay that the re-evaluation judges, with its verdict (R79 steps 1 and 2). -/
def rejudge (table : List Accept) (ch : Chan) (r : BayRec) : BayRec :=
  if r.state = .active || r.state = .standby || r.state = .rejected then
    match r.cart.bind (fun c => verdict table c.ink ch) with
    | some i => { r with entry := some i, state := if r.state = .rejected then .standby else r.state }
    | none => { r with entry := none, state := .rejected }
  else r

/-- The re-evaluation of one channel (R79). -/
def reevaluate (ch : Chan) (w : Work) : Work :=
  let old := w.supply.bays.get ch
  let wasActive := activeLetter w.supply ch
  let b : Bays BayRec := ⟨rejudge w.supply.accepts ch old.a, rejudge w.supply.accepts ch old.b⟩
  let w := setSupply (fun u => { u with bays := u.bays.set ch b }) w
  let stillActive := activeLetter w.supply ch
  let left := if stillActive.isSome then none else wasActive
  let chosen := if stillActive.isSome then none else selectionOf b left
  let w := match chosen with
    | some l => setBayState ⟨ch, l⟩ .active w
    | none => w
  let new := w.supply.bays.get ch
  let w := when (new.a.state != old.a.state) (bayEvent ⟨ch, .a⟩) w
  let w := when (new.b.state != old.b.state) (bayEvent ⟨ch, .b⟩) w
  let w := match chosen with
    | some l => toggleEvent ch left l w
    | none => w
  let w := match left with
    | some l => writeBack ⟨ch, l⟩ w
    | none => w
  let w := when (activeLetter w.supply ch != wasActive) (tellChanged ch) w
  judged ch w

/-- ACCEPT_SET (R78, R79). DESIGN CHOICE (log entry 66): the channels are judged again in ascending order, which orders their
write-backs on the module bus. -/
def acceptSet (index : Nat) (f : AcceptFields) (w : Work) : Work :=
  match boolOf f.enabled, (match f.kind with | 0 => some AcceptKind.accept | 1 => some .reject | _ => none),
      chanSetOf f.chans with
  | some enabled, some kind, some chans =>
    if 15 < index then refuse .badField w
    else
      let p : Params :=
        ⟨clampNat 10 400 f.drop, clampNat 50 200 f.purge, clampNat 5000 120000 f.keepWet, clampNat 0 3600 f.settle⟩
      let w := okWith (flag (p.drop ≠ f.drop) ++ flag (p.purge ≠ f.purge) ++ flag (p.keepWet ≠ f.keepWet)
        ++ flag (p.settle ≠ f.settle)) w
      let w := setSupply
        (fun u => { u with accepts := u.accepts.set index ⟨enabled, kind, f.code, f.mask, chans, p⟩ }) w
      forEach allChans reevaluate w
  | _, _, _ => refuse .badField w

/-- The fields of an acceptance entry as ACCEPT_SET lays them out, index included (R190). -/
def acceptItems (index : Nat) (e : Accept) : List Byte :=
  u8 index ++ flag e.enabled ++ u8 (if e.kind = .accept then 0 else 1) ++ u16 e.code ++ u16 e.mask
    ++ u8 (chanByte e.chans) ++ u16 e.params.drop ++ u16 e.params.purge ++ u32 e.params.keepWet ++ u16 e.params.settle

/-- ACCEPT_READ (R75). -/
def acceptRead (index : Nat) (w : Work) : Work :=
  match w.supply.accepts[index]? with
  | some e => okWith (acceptItems index e) w
  | none => refuse .badField w

/-- BAY_SELECT (R84). -/
def baySelect (chan letter : Nat) (w : Work) : Work :=
  match Chan.ofNum chan, Letter.ofNum letter with
  | some ch, some l =>
    let r := bayRec w.supply ⟨ch, l⟩
    if r.state = .active then okWith [] w
    else if w.pump.op.any (fun op => op.chan = ch) then refuse .busy w
    else if r.state ≠ .standby then refuse .badState w
    else
      let old := activeLetter w.supply ch
      let w := okWith [] w
      let w := match old with
        | some o => setBayState ⟨ch, o⟩ .standby w
        | none => w
      let w := takeParams ch (toggleEvent ch old l (setBayState ⟨ch, l⟩ .active w))
      let w := match old with
        | some o => writeBack ⟨ch, o⟩ w
        | none => w
      setSupplied ch w
  | _, _ => refuse .badField w

/-! ## No-flow, charges, end of a fill (R85 to R87) -/

/-- The state a no-flow gives its bay (R85): SPENT when at most one twentieth is left, else FAULT(NO_FLOW). -/
def noFlowRec (r : BayRec) : BayRec :=
  match r.cart with
  | some c =>
    if c.remaining * 20 ≤ c.capacity then { r with state := .spent, entry := none }
    else { r with state := .fault, fault := some .noFlow, entry := none }
  | none => { r with state := .fault, fault := some .noFlow, entry := none }

/-- A no-flow report (R85); a bay that is no longer ACTIVE is not changed. -/
def noFlow (b : Bay) (w : Work) : Work :=
  let r := bayRec w.supply b
  if r.state ≠ .active then w
  else judged b.chan (select b.chan (some b.letter) (writeBack b (bayEvent b (setBay b (noFlowRec r) w))))

/-- A charge of one stroke (R86). DESIGN CHOICE (log entry 57): a charge that is dropped leaves the charged mark as it is. -/
def charge (b : Bay) (w : Work) : Work :=
  let r := bayRec w.supply b
  match r.cart with
  | some c => setBay b { r with cart := some { c with remaining := c.remaining - Config.strokeVolume }, charged := true } w
  | none => w

/-- Clears the charged mark of a bay. -/
def clearMark (b : Bay) (w : Work) : Work := setBay b { bayRec w.supply b with charged := false } w

/-- The end of a fill: write-backs of the charged bays, then their marks are cleared (R86, R87). DESIGN CHOICE (log entry 65): bay A's
write-back is placed before bay B's. -/
def fillWriteBacks (ch : Chan) (w : Work) : Work :=
  let w := when (bayRec w.supply ⟨ch, .a⟩).charged (writeBack ⟨ch, .a⟩) w
  let w := when (bayRec w.supply ⟨ch, .b⟩).charged (writeBack ⟨ch, .b⟩) w
  clearMark ⟨ch, .b⟩ (clearMark ⟨ch, .a⟩ w)

/-! ## The tank (R91) -/

def setTank (f : Tank → Tank) (w : Work) : Work := setSupply (fun u => { u with tank := f u.tank }) w

/-- The tank's presence switch closes (R91). -/
def insertTank (startUp : Bool) (w : Work) : Work :=
  if w.supply.tank.state = .absent then
    tankEvent (placeOp ⟨.tank, .read, startUp⟩ (setTank (fun t => { t with state := .reading }) w))
  else w

/-- The tank's presence switch opens (R91). -/
def removeTank (w : Work) : Work :=
  if w.supply.tank.state = .absent then w
  else wasteGone (tankEvent (busDrop .tank (setTank (fun _ => ⟨.absent, 0, []⟩) w)))

/-- The READ_RECORD of the tank has completed (R91). -/
def tankRead (answer : Option (List Byte)) (w : Work) : Work :=
  if w.supply.tank.state ≠ .reading then w
  else
    match answer.bind (fun bs => (tankOf bs).map (fun c => (bs, c))) with
    | some (bs, capacity, content) =>
      if Config.tankMin ≤ capacity && capacity ≤ Config.tankMax then
        wasteTake capacity content (tankEvent (setTank (fun t => { t with state := .present, image := bs }) w))
      else wasteGone (event .supply 7 [] (tankEvent (setTank (fun t => { t with state := .fault }) w)))
    | none => wasteGone (event .supply 7 [] (tankEvent (setTank (fun t => { t with state := .fault }) w)))

/-! ## The end of a bus operation (R73, R90, R91, R191) -/

/-- The time at which the operation in flight has had its bus time (Table 4-6). -/
def busDue (u : Supply) : Nat :=
  match u.bus with
  | op :: _ => u.busStart + (if op.kind = .read then Config.readTime else Config.writeTime)
  | [] => u.busStart

/-- A READ_RECORD ends its bus time (R73, R91). -/
def busRead (answer : Option (List Byte)) (w : Work) : Work :=
  match w.supply.bus with
  | ⟨target, .read, _⟩ :: _ =>
    if reached (busDue w.supply) w.now then
      match target with
      | .bay b => bayRead b answer (busNext w)
      | .tank => tankRead answer (busNext w)
    else w
  | _ => w

/-- A WRITE_REMAINING has been acknowledged or has failed (R90). DESIGN CHOICE (log entry 22): one still waiting when its bay loses
its record stays on the queue; acknowledged, it acts as any other, and failing, it has no effect. -/
def bayWritten (b : Bay) (value : Nat) (acked : Bool) (w : Work) : Work :=
  let r := bayRec w.supply b
  if acked then setBay b { r with attempts := 0, image := rewrite 18 6 value r.image } w
  else if r.cart.isNone then w
  else if r.attempts = 0 then writeBack b (setBay b { r with attempts := 1 } w)
  else
    let w := bayEvent b (setBay b (memoryFault r) w)
    if r.state = .active then judged b.chan (select b.chan (some b.letter) (tellRemoved b w)) else w

/-- A WRITE_WASTE has been acknowledged or has failed (R90). -/
def tankWritten (value : Nat) (acked : Bool) (w : Work) : Work :=
  if acked then setTank (fun t => { t with attempts := 0, image := rewrite 16 4 value t.image }) w
  else if w.supply.tank.attempts = 0 then
    let w := setTank (fun t => { t with attempts := 1 }) w
    match w.station.waste.tank with
    | some t => writeWaste t.w w
    | none => w
  else event .supply 7 [] (setTank (fun t => { t with attempts := 0 }) w)

/-- A write ends its bus time (R90). DESIGN CHOICE (log entry 43): the next operation becomes the head before a failed write is
placed again. -/
def busWritten (acked : Bool) (w : Work) : Work :=
  match w.supply.bus with
  | ⟨target, .write value, _⟩ :: _ =>
    if reached (busDue w.supply) w.now then
      match target with
      | .bay b => bayWritten b value acked (busNext w)
      | .tank => tankWritten value acked (busNext w)
    else w
  | _ => w

/-- Mechanism reset: everything is kept but the charged marks (R92). -/
def resetSupply (w : Work) : Work :=
  forEach allChans (fun ch w => clearMark ⟨ch, .b⟩ (clearMark ⟨ch, .a⟩ w)) w

end Sys2Proof.Machine
end

