-- ==== Sys2Proof/Machine/Pump.lean ====
section
/-! DEFINITION. The sub-tank and pump unit (Chapter 5): estimates and tallies, debits, floats, the request list and its arbiter,
fills and stirs. -/

namespace Sys2Proof.Machine

open Sys2Proof

/-! ## Records -/

def modPump (f : Pump → Pump) (w : Work) : Work := { w with pump := f w.pump }

/-- The record of one channel (Table 5-1). -/
def chanRec (s : State) (ch : Chan) : Channel := s.pump.chans.get ch

/-- Changes the record of one channel. -/
def modChan (ch : Chan) (f : Channel → Channel) (w : Work) : Work :=
  modPump (fun p => { p with chans := p.chans.set ch (f (p.chans.get ch)) }) w

def setOp (op : Option PumpOp) (w : Work) : Work := modPump (fun p => { p with op := op }) w

def setValve (ch : Chan) (v : Valve) (w : Work) : Work := modPump (fun p => { p with valves := p.valves.set ch v }) w

/-- The entry of a channel in the request list (R104). -/
def entryOf (p : Pump) (ch : Chan) : Option PumpReq := p.list.find? (fun r => r.chan = ch)

/-- An operation of the channel is in flight. -/
def opOn (p : Pump) (ch : Chan) : Bool := p.op.any (fun o => o.chan = ch)

/-- A fill of the channel is in flight. -/
def PumpKind.isFill : PumpKind → Bool
  | .stir => false
  | .prePurge | .topUp | .refill => true

/-- The initial priority number of a kind as configured (Table 5-4, R104). -/
def PumpKind.initial (c : Conf) : PumpKind → Nat
  | .prePurge => c.nPrePurge
  | .topUp => c.nTopUp
  | .refill => c.nRefill
  | .stir => c.nStir

/-- The more urgent of two kinds (Table 5-4). -/
def PumpKind.urgent (x y : PumpKind) : PumpKind := if x.num ≤ y.num then x else y

/-- The stroke limit of a fill that starts, or changes its bay, with the estimate `e` (R107). -/
def strokeLimit (e : Nat) : Nat := ceilDiv (Config.tankCapacity - e) Config.strokeVolume + Config.strokeMargin

/-! ## The end of an operation (R113, R114) -/

/-- The detail block of a TOP_UP's OP_DONE (Table 11-5, R101). -/
def fillDetail (op : PumpOp) (c : Channel) : List Byte := u8 op.chan.num ++ u16 op.pulsed ++ u32 op.drawn ++ u32 c.e

/-- The valve closes and the pump is idle. -/
def pumpStops (op : PumpOp) (w : Work) : Work := setValve op.chan .closed (setOp none w)

/-- The end of a fill (R113). Its last step, the arbiter's grant with the looks after it, is the report `pumpFreed`. -/
def endFill (op : PumpOp) (outcome : Code) (w : Work) : Work :=
  let w := fillWriteBacks op.chan (pumpStops op w)
  let w := modChan op.chan (fun c => { c with stirSince := some w.now }) w
  let w := forEach op.tags (fun t => opDone kindTopUp t outcome (fillDetail op (chanRec w.toState op.chan))) w
  let w := when op.service (post (.fillAnswered op.chan)) w
  let w := when (outcome != .ok) (event .supply 5 (u8 op.chan.num ++ u8 op.kind.num ++ code outcome)) w
  post (.pumpFreed op.chan) w

/-- The follow-on of a channel enters the request list (R104). -/
def enterFollowOn (ch : Chan) (w : Work) : Work :=
  match (chanRec w.toState ch).follow with
  | some f =>
    modPump (fun p => { p with list := p.list ++ [⟨ch, f.kind, f.number, w.now, 0, f.tags, f.service⟩] })
      (modChan ch (fun c => { c with follow := none }) w)
  | none => w

/-- The end of a stir (R114). -/
def endStir (op : PumpOp) (outcome : Code) (resetsTimer : Bool) (w : Work) : Work :=
  let w := pumpStops op w
  let w := when resetsTimer (modChan op.chan (fun c => { c with stirSince := some w.now })) w
  let w := when (outcome != .ok) (event .supply 6 (u8 op.chan.num ++ code outcome)) w
  post (.pumpFreed op.chan) (enterFollowOn op.chan w)

/-! ## The arbiter (R106) -/

/-- The entry granted first: the lowest number, and among equals the lowest channel. -/
def better (x y : PumpReq) : Bool := x.number < y.number || (x.number = y.number && x.chan.num < y.chan.num)

def bestOf : List PumpReq → Option PumpReq
  | [] => none
  | r :: rest =>
    match bestOf rest with
    | some b => if better b r then some b else some r
    | none => some r

/-- The next stroke starts (R107). -/
def nextStroke (op : PumpOp) (w : Work) : Work :=
  setOp (some { op with count := op.count + 1, strokeStart := w.now, window := .open }) w

/-- The operation a granted request asks for, before its first stroke (R107, R114). DESIGN CHOICE (log entry 60): the stroke limit of a
stir, which SUPPLY_READ reports, is its 20 strokes. -/
def opFor (r : PumpReq) (w : Work) : PumpOp where
  chan := r.chan
  kind := r.kind
  tags := r.tags
  service := r.service
  bay := ⟨r.chan, (activeLetter w.supply r.chan).getD .a⟩
  count := 0
  limit := if r.kind.isFill then strokeLimit (chanRec w.toState r.chan).e else Config.stirStrokes
  missing := 0
  fullCame := false
  pulsed := 0
  drawn := 0
  strokeStart := w.now
  window := .missed
  changed := false
  bayGone := false

/-- The checks of a granted entry, and its start (R106, R107, R114). A fill that ends at its grant bars its channel from a
further grant within the same event (log entry 9). DESIGN CHOICE (log entry 63): a fill of a STARVED channel whose FULL float is active
ends NO_SUPPLY. -/
def grantEntry (r : PumpReq) (w : Work) : Work :=
  let w := modPump (fun p => { p with list := p.list.filter (fun x => x.chan ≠ r.chan) }) w
  let op := opFor r w
  let atOnce (w : Work) : Work := { w with atOnce := r.chan :: w.atOnce }
  if r.kind.isFill then
    if !w.supply.supplied.get r.chan then endFill op .noSupply (atOnce w)
    else if (chanRec w.toState r.chan).full then endFill op .ok (atOnce w)
    else nextStroke op (setValve r.chan .fill w)
  else if !w.supply.supplied.get r.chan then endStir op .noSupply false (atOnce w)
  else nextStroke op (setValve r.chan .circulate w)

/-- The arbiter grants when the pump is idle (R106). -/
def grant (w : Work) : Work :=
  if w.pump.op.isSome then w
  else
    match bestOf (w.pump.list.filter (fun r => !w.atOnce.contains r.chan)) with
    | some r => grantEntry r w
    | none => w

/-! ## Raising a request (R104) -/

/-- A request merges into an entry: the wait is kept. -/
def mergeReq (c : Conf) (kind : PumpKind) (tags : List Nat) (svc : Bool) (r : PumpReq) : PumpReq :=
  { r with
    kind := kind.urgent r.kind, number := min r.number (kind.initial c), tags := r.tags ++ tags, service := r.service || svc }

/-- A request merges into a follow-on, or makes it. -/
def mergeFollow (c : Conf) (kind : PumpKind) (tags : List Nat) (svc : Bool) : Option FollowOn → FollowOn
  | none => ⟨kind, kind.initial c, tags, svc⟩
  | some f => ⟨kind.urgent f.kind, min f.number (kind.initial c), f.tags ++ tags, f.service || svc⟩

/-- Cases 1 and 2 of R104: no operation of the channel is in flight. -/
def raiseEntry (ch : Chan) (kind : PumpKind) (tags : List Nat) (svc : Bool) (w : Work) : Work :=
  if (entryOf w.pump ch).isSome then
    grant (modPump
      (fun p => { p with list := p.list.map (fun r => if r.chan = ch then mergeReq w.conf kind tags svc r else r) }) w)
  else
    grant (modPump (fun p => { p with list := p.list ++ [⟨ch, kind, kind.initial w.conf, w.now, 0, tags, svc⟩] }) w)

/-- Raises a request for a channel (R104). -/
def raise (ch : Chan) (kind : PumpKind) (tags : List Nat) (svc : Bool) (w : Work) : Work :=
  match w.pump.op with
  | some op =>
    if op.chan = ch then
      if op.kind.isFill then setOp (some { op with tags := op.tags ++ tags, service := op.service || svc }) w
      else modChan ch (fun c => { c with follow := some (mergeFollow w.conf kind tags svc c.follow) }) w
    else raiseEntry ch kind tags svc w
  | none => raiseEntry ch kind tags svc w

/-- The conditions of R100. -/
def refillWanted (s : State) (ch : Chan) : Bool :=
  (chanRec s ch).e < Config.refillThreshold && s.supply.supplied.get ch && !(chanRec s ch).suspect
    && (entryOf s.pump ch).isNone && !opOn s.pump ch

/-- The conditions of R103. -/
def stirWanted (s : State) (ch : Chan) : Bool :=
  0 < (s.supply.params.get ch).settle && (s.supply.params.get ch).settle * 1000 ≤ stirTimer s ch
    && s.supply.supplied.get ch && (entryOf s.pump ch).isNone && !opOn s.pump ch

/-- The unit looks at the conditions of R100. -/
def lookRefill (ch : Chan) (w : Work) : Work := when (refillWanted w.toState ch) (raise ch .refill [] false) w

/-- The unit looks at the conditions of R103. -/
def lookStir (ch : Chan) (w : Work) : Work := when (stirWanted w.toState ch) (raise ch .stir [] false) w

/-- The channel has become SUPPLIED, or its STIR entry has been removed: the conditions of R100 are looked at now, those of R103
once no look at R100 is left in the event. -/
def requestLook (ch : Chan) (w : Work) : Work := post (.stirLook ch) (lookRefill ch w)

/-- A pump operation of the channel has ended: the arbiter grants, then both conditions are looked at (R113, R114). -/
def pumpFreed (ch : Chan) (w : Work) : Work := requestLook ch (grant w)

/-- The report asks for a look at the conditions of R103. -/
def Report.isStirLook : Report → Bool
  | .stirLook _ => true
  | .moveEnded _ | .holdGranted | .cutStarted _ | .cutEnded _ _ _ | .exitEnded _ | .roomAppeared | .pathCleared | .rollEnded
  | .carriageParked | .carMoveEnded _ _ _ | .askAgain | .sledEnded _ | .passStarted _ _ | .inkChanged _ _ | .requestLook _
  | .fillAnswered _ | .pumpFreed _ | .keepWetTaken _ | .suctionEnded _ | .stepEnded _ | .serviceEnded _ | .sheetLook => false

/-- A look at the conditions of R103 waits for every other report of the event, as R100 is looked at first (R103); of several the
first asked is the first made (log entry 21). -/
def stirLook (ch : Chan) (w : Work) : Work :=
  match w.agenda.filter (fun r => !r.isStirLook) with
  | [] => lookStir ch w
  | others => { w with agenda := others ++ .stirLook ch :: w.agenda.filter Report.isStirLook }

/-! ## What follows a change of E (R96, R97, R98, R100) -/

/-- The DRY flag takes a value; its change is told (R96). -/
def setDry (ch : Chan) (v : Bool) (w : Work) : Work :=
  if v = (chanRec w.toState ch).dry then w
  else post (.inkChanged ch .dry) (event .supply 3 (u8 ch.num ++ flag v) (modChan ch (fun c => { c with dry := v }) w))

/-- The ink hold takes a value; its change is told (R97). -/
def setHold (ch : Chan) (v : Bool) (w : Work) : Work :=
  if v = (chanRec w.toState ch).hold then w
  else post (.inkChanged ch .hold) (event .supply 4 (u8 ch.num ++ flag v) (modChan ch (fun c => { c with hold := v }) w))

/-- E has changed; `clamped` says that the change is a DRY clamp. -/
def levelChanged (ch : Chan) (clamped : Bool) (w : Work) : Work :=
  let c := chanRec w.toState ch
  lookRefill ch (setHold ch (holdAfter c.e c.hold) (setDry ch (clamped || dryAfter c.e c.dry) w))

/-! ## Debits (R94, R95) -/

/-- The tally a debit goes to (Table 5-3). -/
inductive Tally where
  | printed | serviced
  deriving DecidableEq, Repr

def addTally (t : Tally) (v : Nat) (c : Channel) : Channel :=
  match t with
  | .printed => { c with printed := c.printed + v }
  | .serviced => { c with serviced := c.serviced + v }

/-- A debit of `v` nL on a channel record (R95). -/
def debitChannel (t : Tally) (v : Nat) (c : Channel) : Channel :=
  if v ≤ c.e then addTally t v { c with e := c.e - v }
  else addTally t v { c with e := 0, reconcile := c.reconcile + ((v - c.e : Nat) : Int) }

/-- A debit given in nL (R95). -/
def debitVolume (t : Tally) (ch : Chan) (v : Nat) (w : Work) : Work :=
  let e := (chanRec w.toState ch).e
  if v = 0 then w else levelChanged ch (e < v) (modChan ch (debitChannel t v) w)

/-- T of a conversion (R94). -/
def dropTotal (s : State) (ch : Chan) (drops : Nat) : Nat :=
  drops * (s.supply.params.get ch).drop + (chanRec s ch).residue

/-- The volume of a conversion (R94). -/
def dropVolume (s : State) (ch : Chan) (drops : Nat) : Nat :=
  if drops = 0 then 0 else dropTotal s ch drops / Config.dropScale

/-- The conversion's new residue (R94). -/
def dropResidue (s : State) (ch : Chan) (drops : Nat) : Nat :=
  if drops = 0 then (chanRec s ch).residue else dropTotal s ch drops % Config.dropScale

/-- A debit given as drops; its volume is the answer (R94, R95). -/
def debitDrops (t : Tally) (ch : Chan) (drops : Nat) (w : Work) : Nat × Work :=
  let v := dropVolume w.toState ch drops
  let r := dropResidue w.toState ch drops
  (v, debitVolume t ch v (modChan ch (fun c => { c with residue := r }) w))

/-! ## Floats (R99, R111) -/

/-- A float's mark overwrites E; the correction goes to reconcile. -/
def overwrite (mark : Nat) (c : Channel) : Channel :=
  { c with e := mark, reconcile := c.reconcile + ((mark : Int) - (c.e : Int)) }

/-- FULL has become active: a fill of the channel records it (R111). -/
def fullCame (ch : Chan) (w : Work) : Work :=
  match w.pump.op with
  | some op => if op.chan = ch && op.kind.isFill then setOp (some { op with fullCame := true }) w else w
  | none => w

/-- A float reports its level (R99). -/
def floatChange (ch : Chan) (f : FloatSwitch) (active : Bool) (w : Work) : Work :=
  let c := chanRec w.toState ch
  match f with
  | .full =>
    let w := modChan ch (fun c => { c with full := active }) w
    if active && !c.full then
      levelChanged ch false
        (fullCame ch (modChan ch (fun c => { overwrite Config.fullMark c with suspect := false }) w))
    else w
  | .low =>
    let w := modChan ch (fun c => { c with low := active }) w
    if active && !c.low then levelChanged ch false (modChan ch (overwrite Config.lowMark) w) else w

/-! ## Strokes (R107 to R112, R114) -/

/-- A pulsed stroke enters the sub-tank, with the capacity clamp (R108). -/
def addStroke (c : Channel) : Channel :=
  let e := c.e + Config.strokeVolume
  { c with
    drawn := c.drawn + Config.strokeVolume
    e := min e Config.tankCapacity
    reconcile := c.reconcile - ((e - Config.tankCapacity : Nat) : Int) }

/-- A flow pulse arrives (R108, R109, R114). DESIGN CHOICE (log entry 47): a pulse within an open window is that window's, even
the late one of a stroke that a reset has abandoned (R115). -/
def flowPulse (w : Work) : Work :=
  match w.pump.op with
  | none => w
  | some op =>
    if op.window ≠ .open then w
    else if op.kind.isFill then
      let w := setOp (some { op with window := .pulsed, missing := 0, pulsed := op.pulsed + 1,
                                     drawn := op.drawn + Config.strokeVolume }) w
      let w := modChan op.chan addStroke w
      levelChanged op.chan false (when (!op.bayGone) (charge op.bay) w)
    else setOp (some { op with window := .pulsed, missing := 0 }) w

/-- The pulse window of an operation has ended without a pulse (R108). -/
def closeWindow (op : PumpOp) : PumpOp :=
  if op.window = .open then { op with window := .missed, missing := op.missing + 1 } else op

def windowDue (op : PumpOp) : Nat := op.strokeStart + Config.pulseWindow
def strokeDue (op : PumpOp) : Nat := op.strokeStart + Config.strokeTime

/-- 150 ms of a stroke have passed (R108). -/
def pulseWindowEnd (w : Work) : Work :=
  match w.pump.op with
  | some op => if reached (windowDue op) w.now then setOp (some (closeWindow op)) w else w
  | none => w

/-- The fill acts on the ACTIVE bay of its channel: it draws from it, or ends (R109, R110). DESIGN CHOICE (log entry 46): of
several reports within one stroke the last one counts, as the bay stands at the stroke's end. -/
def fillGoesOn (op : PumpOp) (w : Work) : Work :=
  match activeLetter w.supply op.chan with
  | some l =>
    nextStroke { op with bay := ⟨op.chan, l⟩, limit := strokeLimit (chanRec w.toState op.chan).e, count := 0, missing := 0,
                         changed := false, bayGone := false } w
  | none => endFill op .noSupply w

/-- A stroke of a fill has ended (R109 to R112). -/
def fillStrokeEnd (op : PumpOp) (w : Work) : Work :=
  if op.fullCame then endFill op .ok w
  else if op.changed then fillGoesOn op w
  else if op.count = op.limit then endFill op .fillFault (modChan op.chan (fun c => { c with suspect := true }) w)
  else if Config.missingLimit ≤ op.missing then fillGoesOn op (noFlow op.bay w)
  else nextStroke op w

/-- A stroke of a stir has ended (R114). -/
def stirStrokeEnd (op : PumpOp) (w : Work) : Work :=
  if op.changed then endStir op .bayChanged false w
  else if op.count = op.limit then endStir op .ok true w
  else if Config.missingLimit ≤ op.missing then endStir op .noFlow true w
  else nextStroke op w

/-- 200 ms of a stroke have passed (R107). -/
def strokeEnd (w : Work) : Work :=
  match w.pump.op with
  | some op =>
    if reached (strokeDue op) w.now then
      if op.kind.isFill then fillStrokeEnd (closeWindow op) w else stirStrokeEnd (closeWindow op) w
    else w
  | none => w

/-! ## Ageing and stir timers (R103, R105) -/

/-- The time of an entry's next ageing step. -/
def ageingDue (r : PumpReq) : Nat := r.made + Config.ageingStep * (r.aged + 1)

/-- An entry's wait has reached a further 2,000 ms (R105). -/
def ageEntry (now : Nat) (r : PumpReq) : PumpReq :=
  if reached (ageingDue r) now then { r with number := r.number - 1, aged := r.aged + 1 } else r

def requestAgeing (ch : Chan) (w : Work) : Work :=
  modPump (fun p => { p with list := p.list.map (fun r => if r.chan = ch then ageEntry w.now r else r) }) w

/-! ## What others ask of the pump (R101, R102) -/

/-- TOP_UP (R101). -/
def topUp (tag chan : Nat) (w : Work) : Work :=
  match Chan.ofNum chan with
  | some ch =>
    if !w.supply.supplied.get ch then refuse .noInk w
    else
      lookRefill ch
        (raise ch .topUp [tag] false (modChan ch (fun c => { c with suspect := false }) (started ch.num w)))
  | none => refuse .badField w

/-- The answer to "does the estimate cover a purge of v nL" (R102). -/
inductive Cover where
  | covered | short | noSupply
  deriving DecidableEq, Repr

def coverOf (s : State) (ch : Chan) (v : Nat) : Cover :=
  if v + Config.printReserve ≤ (chanRec s ch).e then .covered
  else if s.supply.supplied.get ch then .short else .noSupply

/-- A short channel has a PRE_PURGE raised for it (R102). -/
def raiseIfShort (ch : Chan) (c : Cover) (w : Work) : Work := when (c = .short) (raise ch .prePurge [] true) w

/-- The service gives up its waits; the requests stay (R102). -/
def giveUpWaits (w : Work) : Work :=
  modPump
    (fun p =>
      { p with
        list := p.list.map (fun r => { r with service := false })
        op := p.op.map (fun o => { o with service := false })
        chans := p.chans.map (fun c => { c with follow := c.follow.map (fun f => { f with service := false }) }) }) w

/-! ## Reset (R115) -/

/-- The unit's reset (R115). DESIGN CHOICE (log entry 21): R100 is looked at for the channels in ascending order, and then R103 in the
same order. -/
def resetPump (w : Work) : Work :=
  let w := modPump
    (fun p => ⟨p.chans.map (fun c => { c with follow := none }), [], none, Chans.all .closed⟩) w
  forEach allChans lookStir (forEach allChans lookRefill w)

end Sys2Proof.Machine
end

