-- ==== Sys2Proof/Machine/Station.lean ====
section
/-! DEFINITION. The service station controller's mechanisms (Chapter 6, and the wet clocks of 7.1): the carriage record, the
capping sled, RELEASE and PARK, claims, the cut hold, carriage moves, suction and the waste estimate. The services that use
them are in Machine/Service.lean. -/

namespace Sys2Proof.Machine

open Sys2Proof

/-! ## The carriage record (Table 6-2, R124) -/

def setStation (f : Station → Station) (w : Work) : Work := { w with station := f w.station }

def Claims.any (c : Claims) : Bool := c.media || c.check || c.service

/-- The conditions under which the idle time counts (R124). -/
def Carriage.idles (c : Carriage) : Bool :=
  c.state = .open && c.sled = .still && !c.claims.any && c.move.isNone && c.hold = .none && c.suction.isNone

/-- The idle time starts from 0 when its conditions come to hold, and is 0 while one of them does not. -/
def Carriage.timed (now : Nat) (c : Carriage) : Carriage :=
  { c with idleSince := if c.idles then some (c.idleSince.getD now) else none }

/-- Changes the carriage record. -/
def modCar (f : Carriage → Carriage) (w : Work) : Work :=
  setStation (fun t => { t with car := (f t.car).timed w.now }) w

/-! ## Wet clocks (R137 to R139) -/

/-- Restarts the wet clock of a channel; its SPIT_DUE is cleared (R137, R138). -/
def restartWet (ch : Chan) (w : Work) : Work :=
  setStation (fun t => { t with wet := t.wet.set ch ⟨w.now, false⟩ }) w

/-- The carriage has become CAPPED, or has left CAPPED: every clock is at 0 (R117, R137). -/
def zeroWets (w : Work) : Work := forEach allChans restartWet w

/-- SPIT_DUE is set when the clock is beyond the keep-wet time, with its notice (R138). -/
def dueSpit (ch : Chan) (w : Work) : Work :=
  if spitDueAt (wetClock w.toState ch) (w.supply.params.get ch).keepWet && !(w.station.wet.get ch).spitDue then
    event .service 2 (u8 ch.num ++ u32 (wetClock w.toState ch))
      (setStation (fun t => { t with wet := t.wet.set ch { t.wet.get ch with spitDue := true } }) w)
  else w

/-- CLEAN_DUE takes a value for a head, with its notice when it changes (R139). -/
def setCleanDue (h : Head) (v : Bool) (w : Work) : Work :=
  if v = w.station.cleanDue.get h then w
  else event .service 3 (u8 h.num ++ flag v) (setStation (fun t => { t with cleanDue := t.cleanDue.set h v }) w)

/-- CLEAN_DUE of the channel's head is set when the clock is beyond four times the keep-wet time (R139). -/
def dueClean (ch : Chan) (w : Work) : Work :=
  if cleanDueAt (wetClock w.toState ch) (w.supply.params.get ch).keepWet then setCleanDue ch.head true w else w

/-- A wet clock passes the keep-wet time (R138). -/
def spitDueLimit (ch : Chan) (w : Work) : Work := dueSpit ch w

/-- A wet clock passes four times the keep-wet time; SPIT_DUE comes first (R139). -/
def cleanDueLimit (ch : Chan) (w : Work) : Work := dueClean ch (dueSpit ch w)

/-- A channel has taken a new keep-wet time (R137, R138, R139). -/
def keepWetTaken (ch : Chan) (w : Work) : Work :=
  let beyond := spitDueAt (wetClock w.toState ch) (w.supply.params.get ch).keepWet
  let w := when (!beyond)
    (setStation (fun t => { t with wet := t.wet.set ch { t.wet.get ch with spitDue := false } })) w
  dueClean ch (dueSpit ch w)

/-! ## Carriage state (R117) -/

/-- The carriage is CAPPED or OPEN. -/
def CarState.isParked : CarState → Bool
  | .capped | .open => true
  | .released | .serviceMove => false

/-- Changes the carriage record where the state may change: the wet clocks hear of entering and leaving CAPPED, the media path
controller of becoming CAPPED or OPEN (R117). -/
def carTo (f : Carriage → Carriage) (w : Work) : Work :=
  let old := w.station.car.state
  let w := modCar f w
  let new := w.station.car.state
  if new = old then w
  else
    let w := when (old = .capped || new = .capped) zeroWets w
    when new.isParked (post .carriageParked) w

/-! ## Carriage moves and the cut hold (R126, R127) -/

/-- A move is in flight: it has left waiting (R127). -/
def CarMove.inFlight (m : CarMove) : Bool := m.phase ≠ .waiting

/-- A WAITING hold becomes GRANTED when the carriage is parked and no move is in flight (R126). -/
def testHold (w : Work) : Work :=
  let c := w.station.car
  if c.hold = .waiting && c.state.isParked && !c.move.any CarMove.inFlight then
    post .holdGranted (modCar (fun c => { c with hold := .granted }) w)
  else w

/-- A step of a service other than a wipe step is in progress (R127, R147). -/
def serviceBars (s : State) : Bool :=
  match s.station.service with
  | some v => v.step ≠ .wipe && v.step ≠ .wipe2
  | none => false

/-- The action of a move begins: the carriage is in SERVICE_MOVE (R127). A check scan starts its first pass. -/
def beginAction (m : CarMove) (w : Work) : Work :=
  let w := carTo
    (fun c => { c with state := .serviceMove, move := some { m with phase := .action w.now, acted := true } }) w
  match m.kind with
  | .checkScan h => post (.passStarted h .r0) w
  | .wipe | .widthScan => w

/-- A lowering of the sled starts (R118). -/
def startLowering (c : Carriage) (now : Nat) : Carriage := { c with sled := .lowering now }

/-- A raising of the sled starts (R119). -/
def startRaising (c : Carriage) (now : Nat) : Carriage := { c with sled := .raising now }

/-- A waiting move starts when it may (R127). -/
def tryMove (w : Work) : Work :=
  let c := w.station.car
  match c.move with
  | some m =>
    if m.phase = .waiting && c.hold ≠ .granted && c.sled = .still
        && (m.requester = .service || !serviceBars w.toState) then
      match c.state with
      | .capped => modCar (fun c => startLowering { c with move := some { m with phase := .lowering } } w.now) w
      | .open => beginAction m w
      | .released | .serviceMove => w
    else w
  | none => w

/-- Both what waits on the carriage: the cut hold first (R126). -/
def lookCarriage (w : Work) : Work := tryMove (testHold w)

/-- A move record as it is made (R127). -/
def CarMove.fresh (requester : Block) (kind : MoveKind) : CarMove :=
  ⟨requester, kind, .waiting, none, false, 0, ⟨0, none, none, none⟩, ⟨.r0, true, [], none, none⟩⟩

/-- A move request is refused as busy (R127). -/
def carMoveBusy (s : State) : Bool := s.station.car.state ≠ .released && s.station.car.move.isSome

/-- A unit asks for a carriage move (R127). -/
def askCarMove (requester : Block) (kind : MoveKind) (w : Work) : Work :=
  if w.station.car.state = .released then
    post (.carMoveEnded (CarMove.fresh requester kind) .carriageNotParked false) w
  else if w.station.car.move.isSome then w
  else tryMove (modCar (fun c => { c with move := some (CarMove.fresh requester kind) }) w)

/-- The move in flight has ended with the carriage in a state; a waiting hold is granted before the report (R126, R127). -/
def endCarMove (m : CarMove) (st : CarState) (outcome : Code) (home : Bool) (w : Work) : Work :=
  post (.carMoveEnded m outcome home) (testHold (carTo (fun c => { c with state := st, move := none }) w))

/-- The action of the move in flight has ended, done or faulted: the return begins (R127). -/
def endAction (m : CarMove) (fault : Option Code) (w : Work) : Work :=
  modCar (fun c => { c with move := some { m with phase := .returning w.now, fault := fault } }) w

/-- The move whose action is in progress. -/
def movingAction (s : State) : Option (CarMove × Nat) :=
  match s.station.car.move with
  | some m =>
    match m.phase with
    | .action start => some (m, start)
    | .waiting | .lowering | .returning _ => none
  | none => none

/-- The allowance of an action and its fault (Table 6-3). -/
def actionTime : MoveKind → Nat
  | .wipe => Config.wipeTime
  | .widthScan | .checkScan _ => Config.scanTime

def actionFault : MoveKind → Code
  | .wipe => .wipeFault
  | .widthScan | .checkScan _ => .capFault

/-- The action deadline expires (R127, R128, R129, R158). -/
def actionDeadline (w : Work) : Work :=
  match movingAction w.toState with
  | some (m, start) =>
    if reached (start + actionTime m.kind) w.now then endAction m (some (actionFault m.kind)) w else w
  | none => w

/-- Wipe complete (R129). DESIGN CHOICE (log entry 59): it counts for the wipe in progress, be it the late report of an earlier one. -/
def wipeComplete (w : Work) : Work :=
  match movingAction w.toState with
  | some (m, _) => if m.kind = .wipe then endAction m none w else w
  | none => w

/-- The width that the readings of a scan give (R128). -/
def measuredWidth (t : WidthTrack) : Nat :=
  match t.firstEdge, t.lastEdge with
  | some a, some b => b - a
  | _, _ => 0

/-- A reading of a width scan: an edge lies between readings on either side of 128, at the later one's position (R128). -/
def widthReading (d : Nat) (t : WidthTrack) : WidthTrack :=
  let pos := t.count * Config.widthPitch
  let edge := t.last.any (fun l => decide (l < Config.edgeDarkness) != decide (d < Config.edgeDarkness))
  { count := t.count + 1
    last := some d
    firstEdge := if edge then some (t.firstEdge.getD pos) else t.firstEdge
    lastEdge := if edge then some pos else t.lastEdge }

/-- The width scan pass reaches the far end of its travel (R128). DESIGN CHOICE (log entry 59): it counts for the pass in progress, be it
the late report of an earlier one. -/
def widthScanPassEnd (w : Work) : Work :=
  match movingAction w.toState with
  | some (m, _) => if m.kind = .widthScan then endAction { m with width := measuredWidth m.widths } none w else w
  | none => w

/-- The outward leg of a check pass ends: the row's wet clock is restarted (R158). DESIGN CHOICE (log entry 59):
it counts for the pass in progress, be it the late report of an earlier one. -/
def patternLegEnd (w : Work) : Work :=
  match movingAction w.toState with
  | some (m, _) =>
    match m.kind with
    | .checkScan h =>
      if m.scan.outward then
        restartWet (h.chan m.scan.row) (modCar (fun c => { c with move := some { m with scan := { m.scan with outward := false } } }) w)
      else w
    | .wipe | .widthScan => w
  | none => w

/-- A sample of a return leg; the pass is done at its 1,037th (R158). -/
def checkSample (h : Head) (m : CarMove) (d : Nat) (w : Work) : Work :=
  let samples := d :: m.scan.samples
  if samples.length < Config.passSamples then
    modCar (fun c => { c with move := some { m with scan := { m.scan with samples := samples } } }) w
  else
    match m.scan.row with
    | .r0 =>
      post (.passStarted h .r1)
        (modCar (fun c => { c with move := some { m with phase := .action w.now,
                                                          scan := ⟨.r1, true, [], some samples.reverse, none⟩ } }) w)
    | .r1 => endAction { m with scan := { m.scan with samples := [], done1 := some samples.reverse } } none w

/-- A reading of the carriage sensor that belongs to a carriage move (R128, R158). DESIGN CHOICE (log entry 59): it counts for the pass
in progress, be it a late one of an earlier pass. -/
def scanReading (d : Nat) (w : Work) : Work :=
  match movingAction w.toState with
  | some (m, _) =>
    match m.kind with
    | .widthScan => modCar (fun c => { c with move := some { m with widths := widthReading d m.widths } }) w
    | .checkScan h => if m.scan.outward then w else checkSample h m d w
    | .wipe => w
  | none => w

/-! ## Raising without a waiter, and the fault it reports (R119, R124, R135) -/

def raiseAlone (w : Work) : Work := modCar (fun c => startRaising c w.now) w

/-- SERVICE_EVENT of kind cap fault. -/
def capFaultEvent (w : Work) : Work := event .service 0 [] w

/-- The idle time has reached the auto-cap delay (R124). -/
def autoCapReady (s : State) : Bool :=
  match s.station.car.idleSince with
  | some t => reached (t + s.conf.autoCap) s.now
  | none => false

def autoCap (w : Work) : Work := when (autoCapReady w.toState) raiseAlone w

/-! ## The return (R127, R135) -/

/-- The home sensor sees the carriage during a return (R127, R135). DESIGN CHOICE (log entry 59): it counts for the return in progress,
be it the late report of an earlier one. -/
def homeReport (w : Work) : Work :=
  let c := w.station.car
  match c.resetReturn with
  | some _ =>
    lookCarriage (raiseAlone (carTo (fun c => { c with state := .open, resetReturn := none, home := true }) w))
  | none =>
    match c.move with
    | some m =>
      match m.phase with
      | .returning _ => endCarMove m .open (m.fault.getD .ok) true (modCar (fun c => { c with home := true }) w)
      | .waiting | .lowering | .action _ => w
    | none => w

/-- 2,000 ms of a return have passed without home. -/
def returnTimeout (w : Work) : Work :=
  let c := w.station.car
  match c.resetReturn with
  | some start =>
    if reached (start + Config.returnTime) w.now then
      capFaultEvent (carTo (fun c => { c with state := .released, resetReturn := none, home := false }) w)
    else w
  | none =>
    match c.move with
    | some m =>
      match m.phase with
      | .returning start =>
        if reached (start + Config.returnTime) w.now then
          endCarMove m .released (m.fault.getD .capFault) false (modCar (fun c => { c with home := false }) w)
        else w
      | .waiting | .lowering | .action _ => w
    | none => w

/-! ## The sled (R118, R119) -/

/-- The move in flight is lowering the sled. -/
def loweringMove (c : Carriage) : Option CarMove := c.move.filter (fun m => m.phase = .lowering)

/-- A sled motion has ended: its waiters are answered, and a move that lowered the sled continues or ends (R118, R119,
R127). `kind` is the request kind of the tags that may wait for it, `outcome` OK or CAP_FAULT. -/
def endSled (kind : Nat) (st : CarState) (outcome : Code) (w : Work) : Work :=
  let old := w.station.car
  let w := carTo (fun c => { c with state := st, sled := .still, tags := [], serviceWaits := false }) w
  let w := forEach old.tags (fun t => opDone kind t outcome (u8 st.num)) w
  let w := when old.serviceWaits (post (.sledEnded (outcome = .ok))) w
  let w := when (kind = kindCap && outcome ≠ .ok && old.tags.isEmpty && !old.serviceWaits) capFaultEvent w
  match loweringMove w.station.car with
  | some m => if st = .open then beginAction m w else endCarMove m st .capFault true w
  | none => lookCarriage w

/-- Cap down complete (R118). DESIGN CHOICE (log entry 59): it counts for the lowering in progress, be it the late report of an earlier one. -/
def capDownComplete (w : Work) : Work :=
  match w.station.car.sled with
  | .lowering _ => endSled kindUncap .open .ok w
  | .still | .raising _ => w

/-- Cap up complete (R119). DESIGN CHOICE (log entry 59): it counts for the raising in progress, be it the late report of an earlier one. -/
def capUpComplete (w : Work) : Work :=
  match w.station.car.sled with
  | .raising _ => endSled kindCap .capped .ok w
  | .still | .lowering _ => w

/-- 800 ms of a sled motion have passed (R118, R119). -/
def sledTimeout (w : Work) : Work :=
  match w.station.car.sled with
  | .lowering start =>
    if reached (start + Config.sledTime) w.now then endSled kindUncap w.station.car.state .capFault w else w
  | .raising start =>
    if reached (start + Config.sledTime) w.now then endSled kindCap w.station.car.state .capFault w else w
  | .still => w

/-! ## Requests about the carriage (R120 to R123) -/

/-- The first line of R120 and R121. -/
def sledBusy (c : Carriage) : Bool := c.claims.any || c.move.isSome || c.suction.isSome || c.state = .serviceMove

def joinSled (tag : Nat) (c : Carriage) : Carriage := { c with tags := c.tags ++ [tag] }

/-- UNCAP (R120). -/
def uncap (tag : Nat) (w : Work) : Work :=
  let c := w.station.car
  if sledBusy c then refuse .busy w
  else
    match c.state, c.sled with
    | .released, _ => refuse .carriageNotParked w
    | .capped, .still => started 0 (modCar (fun c => startLowering (joinSled tag c) w.now) w)
    | .capped, .lowering _ => started 0 (modCar (joinSled tag) w)
    | .open, .still => okWith [] w
    | .open, .raising _ | .open, .lowering _ | .capped, .raising _ | .serviceMove, _ => refuse .busy w

/-- CAP (R121). DESIGN CHOICE (log entry 48): one that arrives while a reset's raising runs joins it as R121 says, though R135
speaks of BUSY then. -/
def cap (tag : Nat) (w : Work) : Work :=
  let c := w.station.car
  if sledBusy c then refuse .busy w
  else
    match c.state, c.sled with
    | .released, _ => refuse .carriageNotParked w
    | .open, .still => started 0 (modCar (fun c => startRaising (joinSled tag c) w.now) w)
    | .open, .raising _ => started 0 (modCar (joinSled tag) w)
    | .capped, .still => okWith [] w
    | .capped, .lowering _ | .capped, .raising _ | .open, .lowering _ | .serviceMove, _ => refuse .busy w

/-- RELEASE (R122). -/
def release (w : Work) : Work :=
  let c := w.station.car
  if c.claims.any || c.hold ≠ .none || c.move.isSome || c.sled ≠ .still || c.state = .serviceMove then refuse .busy w
  else
    match c.state with
    | .open => okWith [] (carTo (fun c => { c with state := .released }) w)
    | .released => okWith [] w
    | .capped | .serviceMove => refuse .badState w

/-- PARK (R123); the home sensor is read at that moment. -/
def park (w : Work) : Work :=
  if w.station.car.state = .released then
    if w.station.car.home then lookCarriage (okWith [] (carTo (fun c => { c with state := .open }) w))
    else refuse .notAtHome w
  else okWith [] w

/-! ## Claims and the cut hold (R125, R126) -/

def setMediaClaim (v : Bool) (w : Work) : Work := modCar (fun c => { c with claims := { c.claims with media := v } }) w
def setCheckClaim (v : Bool) (w : Work) : Work := modCar (fun c => { c with claims := { c.claims with check := v } }) w
def setServiceClaim (v : Bool) (w : Work) : Work := modCar (fun c => { c with claims := { c.claims with service := v } }) w

/-- The media path controller asks for the cut hold (R126). -/
def askHold (w : Work) : Work :=
  if w.station.car.hold = .none then testHold (modCar (fun c => { c with hold := .waiting }) w) else w

/-- The cut has ended, or is no longer wanted: the hold is given up (R126). -/
def giveUpHold (w : Work) : Work := tryMove (modCar (fun c => { c with hold := .none }) w)

/-! ## Suction (R130) -/

/-- A suction run may start. -/
def suctionReady (s : State) : Bool := s.station.car.state = .capped && s.station.car.sled = .still

def startSuction (h : Head) (volume : Nat) (w : Work) : Work :=
  modCar (fun c => { c with suction := some ⟨h, volume, w.now⟩ }) w

def suctionDue (u : Suction) : Nat := u.start + Config.suctionBase + ceilDiv u.volume 1000

def endSuction (outcome : Code) (w : Work) : Work :=
  post (.suctionEnded outcome) (modCar (fun c => { c with suction := none }) w)

/-- Suction complete (R130). DESIGN CHOICE (log entry 59): it counts for the run in progress, be it the late report of an earlier one. -/
def suctionComplete (w : Work) : Work := if w.station.car.suction.isSome then endSuction .ok w else w

def suctionTimeout (w : Work) : Work :=
  match w.station.car.suction with
  | some u => if reached (suctionDue u) w.now then endSuction .suctionFault w else w
  | none => w

/-! ## The waste estimate (R132, R134) -/

/-- W after a credit, and what it could not hold (R132). -/
def creditWaste (v : Nat) (x : Waste) : Waste :=
  match x.tank with
  | some t => { x with tank := some { t with w := min (t.w + v) t.capacity }, overflow := x.overflow + (t.w + v - t.capacity) }
  | none => { x with overflow := x.overflow + v }

/-- A write-back of W is asked (R134). -/
def writeBackWaste (w : Work) : Work :=
  match w.station.waste.tank with
  | some t =>
    writeWaste t.w (setStation (fun x => { x with waste := { x.waste with tank := some { t with written := t.w } } }) w)
  | none => w

/-- W stands at least 1,000,000 nL above last written (R134). -/
def wasteFar (x : Waste) : Bool :=
  match x.tank with
  | some t => t.written + Config.wasteStep ≤ t.w
  | none => false

/-- A credit, then the level and the write-back test (R132, R133, R134). -/
def credit (v : Nat) (w : Work) : Work :=
  let w := wasteRelevel (setStation (fun x => { x with waste := creditWaste v x.waste }) w)
  when (wasteFar w.station.waste) writeBackWaste w

/-! ## Reset (R135, R153) -/

def resetStation (w : Work) : Work :=
  let w := setStation (fun t => { t with service := none }) w
  let w := carTo
    (fun c =>
      { c with
        state := if c.sled = .still then c.state else .open
        sled := .still, tags := [], serviceWaits := false, claims := ⟨false, false, false⟩, move := none, hold := .none
        idleSince := none, suction := none
        resetReturn := if c.sled = .still && c.state = .serviceMove then some w.now else none }) w
  when (w.station.car.state = .open) raiseAlone w

end Sys2Proof.Machine
end

