-- ==== Sys2Proof/Machine/Service.lean ====
section
/-! DEFINITION. Services (Chapter 7): the checks of a SERVICE, the planned volume, the steps of each level, and the end of a
service for the host or for the nozzle check unit. -/

namespace Sys2Proof.Machine

open Sys2Proof

/-! ## Asking for a service (R140, R141, R143) -/

/-- The largest volume one service spit of a channel can give (R141). -/
def spitBound (p : Params) : Nat := (Config.serviceSpit * p.drop + 9999) / Config.dropScale

/-- The purge volume of a channel at a level (R141). -/
def purgeVolume (level : Nat) (p : Params) : Nat :=
  if level = 2 then 4000 * p.purge else if level = 3 then 12000 * p.purge else 0

/-- A value for each channel that the heads of a mask serve, 0 for the others. -/
def forMask (mask : Heads Bool) (f : Chan → Nat) : Chans Nat :=
  let v (ch : Chan) := if mask.get ch.head then f ch else 0
  ⟨v .c0, v .c1, v .c2, v .c3, v .c4, v .c5⟩

def Chans.total (x : Chans Nat) : Nat := x.c0 + x.c1 + x.c2 + x.c3 + x.c4 + x.c5

/-- The planned volume of a service (R141). -/
def plannedVolume (s : State) (mask : Heads Bool) (level : Nat) : Nat :=
  Chans.total
    (forMask mask (fun ch => spitBound (s.supply.params.get ch) + purgeVolume level (s.supply.params.get ch)))

/-- Steps 1 to 5 of R140. For a recovery service the check claim itself does not refuse (R143). -/
def serviceRefusal (recovery : Bool) (mask : Heads Bool) (level : Nat) (s : State) : Option Code :=
  let c := s.station.car
  if !c.state.isParked then some .carriageNotParked
  else if c.claims.service || c.claims.media || (c.claims.check && !recovery) then some .busy
  else
    match s.station.waste.tank with
    | none => some .noWasteTank
    | some t =>
      if t.capacity - t.w < plannedVolume s mask level then some .wasteFull
      else if 2 ≤ level && s.sheet.phase ≠ .none then some .badState
      else none

/-! ## Records -/

def modService (f : Service → Service) (w : Work) : Work :=
  setStation (fun t => { t with service := t.service.map f }) w

/-- The two channels of a head, lower first. -/
def headChans (h : Head) : List Chan := [h.chan .r0, h.chan .r1]

/-- The steps of a head in order (Table 7-2). -/
def levelSteps (level : Nat) : List ServiceStep :=
  if level = 1 then [.uncap, .spit, .wipe]
  else if level = 2 then [.cap, .precondition, .suction, .uncap, .wipe, .spit]
  else [.cap, .precondition, .suction, .uncap, .wipe, .wipe2, .spit]

/-- The step after a step of a level (R144). -/
def stepAfter (level : Nat) (step : ServiceStep) : Option ServiceStep :=
  ((levelSteps level).dropWhile (fun x => x ≠ step))[1]?

/-- The first step of a head. -/
def firstStep (level : Nat) : ServiceStep := if level = 1 then .uncap else .cap

/-- A step has ended (R144). -/
def endStep (outcome : Code) (w : Work) : Work := post (.stepEnded outcome) w

/-! ## The steps (R145 to R149) -/

/-- The uncap and cap steps; `goal` is the state the step works to (R145). A motion starts only from the other one of CAPPED and
OPEN (R118, R119). DESIGN CHOICE (log entry 42): while an abandoned width scan holds the carriage in SERVICE_MOVE the step waits
for that move's end; a carriage left RELEASED ends the step CAP_FAULT. -/
def sledStep (goal : CarState) (w : Work) : Work :=
  let c := w.station.car
  if c.sled ≠ .still then
    modService (fun v => { v with ownMotion := false }) (modCar (fun c => { c with serviceWaits := true }) w)
  else if c.state = goal then endStep .ok w
  else
    match c.state with
    | .capped =>
      modService (fun v => { v with ownMotion := true })
        (modCar (fun c => startLowering { c with serviceWaits := true } w.now) w)
    | .open =>
      modService (fun v => { v with ownMotion := true })
        (modCar (fun c => startRaising { c with serviceWaits := true } w.now) w)
    | .serviceMove => modService (fun v => { v with moveAgain := true }) w
    | .released => endStep .capFault w

/-- The volume of a channel's purge in a service. -/
def purgeOf (v : Service) (ch : Chan) : Nat := v.purge.get ch

/-- The purge precondition asks about both channels; the answers decide (R146, R102). DESIGN CHOICE (log entry 58): the channel of
row 0 is asked about, and its request raised, before that of row 1. -/
def askInk (v : Service) (w : Work) : Work :=
  let a := v.head.chan .r0
  let b := v.head.chan .r1
  let ca := coverOf w.toState a (purgeOf v a)
  let w := raiseIfShort a ca w
  let cb := coverOf w.toState b (purgeOf v b)
  let w := raiseIfShort b cb w
  if ca = .noSupply || cb = .noSupply then
    endStep .noInk (giveUpWaits (modService (fun v => { v with waitEnd := none }) w))
  else if ca = .covered && cb = .covered then endStep .ok (modService (fun v => { v with waitEnd := none }) w)
  else modService (fun v => { v with waitEnd := some (v.waitEnd.getD (w.now + Config.prePurgeWait)) }) w

/-- A debit's volume is added to the service's figure of the channel (R147, R149). -/
def addServiced (ch : Chan) (n : Nat) (w : Work) : Work :=
  modService (fun v => { v with serviced := v.serviced.set ch (v.serviced.get ch + n) }) w

/-- The debit of one channel's purge (R147). -/
def purgeDebit (v : Service) (ch : Chan) (w : Work) : Work :=
  addServiced ch (purgeOf v ch) (debitVolume .serviced ch (purgeOf v ch) w)

/-- The suction step (R147). -/
def suctionStep (v : Service) (w : Work) : Work :=
  let total := purgeOf v (v.head.chan .r0) + purgeOf v (v.head.chan .r1)
  if suctionReady w.toState then
    credit total (forEach (headChans v.head) (purgeDebit v) (startSuction v.head total w))
  else endStep .capFault w

/-- A wipe step asks for its move; one refused as busy is asked again when a carriage move ends (R148). -/
def wipeStep (w : Work) : Work :=
  if carMoveBusy w.toState then tryMove (modService (fun v => { v with moveAgain := true }) w)
  else askCarMove .service .wipe (modService (fun v => { v with moveAgain := false }) w)

/-- The spit of one channel: debit, credit, restart (R149). -/
def spitChannel (ch : Chan) (w : Work) : Work :=
  let d := debitDrops .serviced ch Config.serviceSpit w
  restartWet ch (addServiced ch d.1 (credit d.1 d.2))

/-- The spit step (R149). -/
def spitStep (v : Service) (w : Work) : Work :=
  modService (fun v => { v with spitEnd := some (w.now + Config.spitTime) }) (forEach (headChans v.head) spitChannel w)

/-- Runs the step the service stands at. -/
def runStep (v : Service) (w : Work) : Work :=
  match v.step with
  | .uncap => sledStep .open w
  | .cap => sledStep .capped w
  | .precondition => askInk v w
  | .suction => suctionStep v w
  | .wipe | .wipe2 => wipeStep w
  | .spit => spitStep v w

/-- Starts a step of a head. -/
def startStep (h : Head) (step : ServiceStep) (w : Work) : Work :=
  let w := modService
    (fun v => { v with head := h, step := step, waitEnd := none, ownMotion := false, moveAgain := false, spitEnd := none }) w
  match w.station.service with
  | some v => runStep v w
  | none => w

/-! ## Taking a service (R142) -/

def takeService (by' : ServiceBy) (mask : Heads Bool) (level : Nat) (w : Work) : Work :=
  match mask.members with
  | [] => w
  | h :: _ =>
    let purge := forMask mask (fun ch => purgeVolume level (w.supply.params.get ch))
    let v : Service :=
      ⟨by', level, mask, purge, h, firstStep level, [], none, Chans.all 0, false, false, none⟩
    startStep h (firstStep level) (setServiceClaim true (setStation (fun t => { t with service := some v }) w))

/-- SERVICE (R140, R142). -/
def service (tag heads level : Nat) (w : Work) : Work :=
  match headSetOf heads with
  | some mask =>
    if mask.isEmpty || level < 1 || 3 < level then refuse .badField w
    else
      match serviceRefusal false mask level w.toState with
      | some reason => refuse reason w
      | none => takeService (.host tag) mask level (started heads w)
  | none => refuse .badField w

/-! ## The end (R150 to R152) -/

def headMaskOf (hs : List Head) : Heads Bool := ⟨hs.contains .h0, hs.contains .h1, hs.contains .h2⟩

/-- What the end of a service reports, to the host by OP_DONE and to the nozzle check unit as it is (R143, R151). -/
def serviceReport (v : Service) (outcome : Code) (ended : Option Head) (car : CarState) : ServiceReport :=
  ⟨outcome, v.level, v.mask, headMaskOf v.completed, ended, car, forMask v.mask v.serviced.get⟩

/-- The detail block of a SERVICE's OP_DONE (Table 11-5, R151). -/
def serviceDetail (r : ServiceReport) : List Byte :=
  u8 r.level ++ u8 (headByte r.mask) ++ u8 (headByte r.completed) ++ o8 (r.ended.map Head.num) ++ u8 r.car.num
    ++ r.serviced.toList.flatMap u32

/-- A service ends (R151, R152). -/
def endService (v : Service) (outcome : Code) (ended : Option Head) (w : Work) : Work :=
  let w := testHold (setServiceClaim false (writeBackWaste w))
  let w := post .carriageParked w
  let r := serviceReport v outcome ended w.station.car.state
  let w :=
    match v.by' with
    | .host tag => opDone kindService tag r.outcome (serviceDetail r) w
    | .check => post (.serviceEnded r) w
  tryMove (setStation (fun t => { t with service := none }) w)

/-- A head has been completed (R150). -/
def completeHead (v : Service) (w : Work) : Work :=
  let v := { v with completed := v.completed ++ [v.head] }
  let w := setCleanDue v.head false (forEach (headChans v.head) restartWet (setStation (fun t => { t with service := some v }) w))
  match v.mask.members.filter (fun h => v.head.num < h.num) with
  | h :: _ => startStep h (firstStep v.level) w
  | [] => endService v .ok none w

/-- A step has ended: the next step, the next head, or the end (R144, R150, R152). -/
def onStepEnded (outcome : Code) (w : Work) : Work :=
  match w.station.service with
  | some v =>
    if outcome = .ok then
      match stepAfter v.level v.step with
      | some step => startStep v.head step w
      | none => completeHead v w
    else endService v outcome (some v.head) w
  | none => w

/-! ## What a step hears (R145 to R149) -/

/-- The sled motion that the service waited for has ended (R145). -/
def onSledEnded (ok : Bool) (w : Work) : Work :=
  match w.station.service with
  | some v =>
    if v.step = .uncap || v.step = .cap then
      if v.ownMotion then endStep (if ok then .ok else .capFault) w else runStep v w
    else w
  | none => w

/-- The step waits for ink of one of its head's channels (R146). -/
def waitsFor (v : Service) (ch : Chan) : Bool := v.step = .precondition && v.waitEnd.isSome && ch.head = v.head

/-- A fill that the service waited for has ended: it asks again (R146). -/
def onFillAnswered (ch : Chan) (w : Work) : Work :=
  match w.station.service with
  | some v => if waitsFor v ch then askInk v w else w
  | none => w

/-- The wait ends without ink (R146). -/
def endWait (w : Work) : Work := endStep .noInk (giveUpWaits (modService (fun v => { v with waitEnd := none }) w))

/-- A channel's supply state has changed: STARVED ends the wait (R146). -/
def serviceHearsInk (ch : Chan) (what : InkChange) (w : Work) : Work :=
  match w.station.service with
  | some v => if what = .supply && waitsFor v ch && !w.supply.supplied.get ch then endWait w else w
  | none => w

/-- 90,000 ms of the wait have passed (R146). -/
def prePurgeWaitEnd (w : Work) : Work :=
  match w.station.service with
  | some v => if v.step = .precondition && v.waitEnd.any (fun t => reached t w.now) then endWait w else w
  | none => w

/-- The suction run has ended (R147). -/
def onSuctionEnded (outcome : Code) (w : Work) : Work :=
  match w.station.service with
  | some v => if v.step = .suction then endStep outcome w else w
  | none => w

/-- The step outcome that a wipe's move report gives (R148). -/
def wipeOutcome : Code → Code
  | .ok => .ok
  | .wipeFault => .wipeFault
  | _ => .capFault

/-- The service's wipe move has ended (R148). -/
def serviceCarMoveEnded (outcome : Code) (w : Work) : Work :=
  match w.station.service with
  | some v => if v.step = .wipe || v.step = .wipe2 then endStep (wipeOutcome outcome) w else w
  | none => w

/-- A carriage move has ended: a wipe refused as busy is asked again (R148), as is a sled step that waited for the move. -/
def serviceAskAgain (w : Work) : Work :=
  match w.station.service with
  | some v => if v.moveAgain then runStep v (modService (fun v => { v with moveAgain := false }) w) else w
  | none => w

/-- The 400 ms of a service spit have passed (R149). -/
def spitFiringEnd (w : Work) : Work :=
  match w.station.service with
  | some v =>
    if v.step = .spit && v.spitEnd.any (fun t => reached t w.now) then
      endStep .ok (modService (fun v => { v with spitEnd := none }) w)
    else w
  | none => w

end Sys2Proof.Machine
end

