-- ==== Sys2Proof/Machine/Media.lean ====
section
/-! DEFINITION. The media path controller (Chapter 2): roll records, profiles, the path's owner and content, loads, unloads and
roll switches, roll ends and remainder ejections, the cutter, the exit watch and the basket. -/

namespace Sys2Proof.Machine

open Sys2Proof

/-! ## Records -/

def modMedia (f : Media → Media) (w : Work) : Work := { w with media := f w.media }

def modRoll (slot : Slot) (f : Roll → Roll) (w : Work) : Work :=
  modMedia (fun m => { m with rolls := m.rolls.set slot (f (m.rolls.get slot)) }) w

def modSeq (f : Sequence → Sequence) (w : Work) : Work := modMedia (fun m => { m with seq := m.seq.map f }) w

def setOwner (o : Owner) (w : Work) : Work := modMedia (fun m => { m with owner := o }) w

def setContent (c : Content) (w : Work) : Work := modMedia (fun m => { m with content := c }) w

/-- The slot is the one being loaded. -/
def beingLoaded (m : Media) (slot : Slot) : Bool := m.seq.any (fun q => q.step.isLoad && q.slot = slot)

/-- The slot is the one being unloaded. -/
def beingUnloaded (m : Media) (slot : Slot) : Bool := m.seq.any (fun q => q.step.isUnload && q.oldSlot = some slot)

/-- A roll with no media in the path takes a state, or leaves its slot ABSENT when its switch is open (R22, R34, R38, R43, R44).
DESIGN CHOICE (log entry 52): the switch counts as it stands then, also when it has opened and closed again meanwhile. DEDUCED (log
entry 64): a record that becomes ABSENT so keeps nothing, the remaining length and the fresh flag included. -/
def restRoll (present : Bool) (r : Roll) : Roll := if present then r else Roll.none

/-- The roll whose media is in the path or is to be ejected: the THREADED roll, the roll of the sequence, or the ENDED roll. -/
def concernedSlot (m : Media) : Option Slot :=
  match threadedSlot m with
  | some s => some s
  | none =>
    match m.seq with
    | some q => some q.slot
    | none => m.ejecting

/-! ## Notices (R27, R32, R35 to R37) -/

/-- MEDIA_EVENT of kind path fault: the fault and the slot. -/
def pathFaultEvent (reason : Code) (slot : Option Slot) (w : Work) : Work := event .media 0 (code reason ++ optSlot slot) w

/-- MEDIA_EVENT of kind load fault: the slot and the failure. -/
def loadFaultEvent (slot : Slot) (failure : Code) (w : Work) : Work := event .media 1 (u8 slot.num ++ code failure) w

/-- MEDIA_EVENT of kind roll switch: both slots and the outcome, which is absent at a start (log entry 12). -/
def switchEvent (old : Option Slot) (new : Slot) (outcome : Option Code) (w : Work) : Work :=
  event .media 2 (optSlot old ++ u8 new.num ++ optCode outcome) w

/-- MEDIA_EVENT of kind roll end: the slot. -/
def rollEndEvent (slot : Slot) (w : Work) : Work := event .media 3 (u8 slot.num) w

/-- The content becomes FAULT (R27). A sequence's fault also clears ejection pending. -/
def pathFault (reason : Code) (slot : Option Slot) (w : Work) : Work :=
  pathFaultEvent reason slot
    (modMedia
      (fun m =>
        { m with
          content := .fault
          ejecting := if m.owner = .loading || m.owner = .unloading then none else m.ejecting }) w)

/-! ## Cuts (R39, R40) -/

/-- A cut request is refused (R39). -/
def cutRefused (owner : Owner) (s : State) : Bool :=
  s.media.owner ≠ owner || s.media.content = .fault || (s.media.content = .empty && owner ≠ .loading)
    || s.media.cut.isSome || s.feed.move.isSome

/-- The owner asks for a cut (R39). -/
def requestCut (owner : Owner) (piece : Piece) (w : Work) : Work :=
  if cutRefused owner w.toState then w
  else askHold (modMedia (fun m => { m with cut := some ⟨owner, piece, none⟩ }) w)

/-- The hold is granted: the cutter starts (R39, R63). -/
def onHoldGranted (w : Work) : Work :=
  match w.media.cut with
  | some c =>
    if w.station.car.hold = .granted then
      post (.cutStarted c.owner) (modMedia (fun m => { m with cut := some { c with start := some w.now } }) w)
    else w
  | none => giveUpHold w

/-- Cut complete (R40). DESIGN CHOICE (log entry 59): it counts for the cut in progress, be it the late report of an earlier one. -/
def cutComplete (w : Work) : Work :=
  match w.media.cut with
  | some ⟨owner, piece, some _⟩ =>
    let w := feedCut (giveUpHold (modMedia (fun m => { m with cut := none }) w))
    let w := setContent .clean w
    let w := when (piece = .sheet) (modMedia (fun m => { m with exitWatch := some w.now })) w
    post (.cutEnded owner piece false) w
  | _ => w

/-- 2,500 ms of a cut have passed (R40). -/
def cutterTimeout (w : Work) : Work :=
  match w.media.cut with
  | some ⟨owner, piece, some start⟩ =>
    if reached (start + Config.cutterTime) w.now then
      let slot := concernedSlot w.media
      post (.cutEnded owner piece true)
        (pathFault .cutterJam slot (giveUpHold (modMedia (fun m => { m with cut := none }) w)))
    else w
  | _ => w

/-! ## The remainder ejection (R38) -/

def ejectMove (a : Nat) (w : Work) : Work := askMove ⟨.unloading, .media, true, a, .ejection⟩ w

/-- The moves of an ejection start: the first one only while the entry sensor reports media. -/
def ejectMoves (slot : Slot) (w : Work) : Work :=
  if w.media.entry.get slot then
    ejectMove Config.ejectFirst (modSeq (fun q => { q with step := .ejectFirst }) w)
  else ejectMove Config.rollToCutter (modSeq (fun q => { q with step := .ejectSecond }) w)

/-- The sequence of an ejection, at its step. -/
def ejectSeq (slot : Slot) (step : MediaStep) : Sequence :=
  ⟨.eject, step, none, slot, none, 0, none, .left, none, 0, none, none, none, false⟩

/-- An ejection starts: the owner is UNLOADING. -/
def startEjection (slot : Slot) (w : Work) : Work :=
  ejectMoves slot
    (modMedia (fun m => { m with owner := .unloading, seq := some (ejectSeq slot .ejectFirst) }) w)

/-! ## Starting loads and unloads (R28, R29, R33, R34) -/

/-- The load part of a sequence starts: owner LOADING, edge search (R28, R29). -/
def startLoadPart (slot : Slot) (w : Work) : Work :=
  let w := setOwner .loading w
  let w := modSeq (fun q => { q with step := .edgeSearch, slot := slot, fed := 0, c1 := none, c2 := none }) w
  askMove ⟨.loading, .media, true, Config.edgeSearch, .edgeSearch⟩ w

/-- The rewind of an unload (R34). -/
def unloadRewind (w : Work) : Work :=
  askMove ⟨.unloading, .media, false, Config.rollToCutter + Config.rewindExtra, .rewind⟩
    (modSeq (fun q => { q with step := .unloadRewind }) w)

/-- The unload part of a sequence starts: a dirty piece is cut first (R33). -/
def startUnloadPart (w : Work) : Work :=
  let w := setOwner .unloading w
  if w.media.content = .dirty then requestCut .unloading .scrap (modSeq (fun q => { q with step := .dirtyCut }) w)
  else unloadRewind w

/-- A sequence with its tag and slots, before its first step. -/
def newSeq (job : Job) (tag : Option Nat) (slot : Slot) (old : Option Slot) : Sequence :=
  ⟨job, .edgeSearch, tag, slot, old, 0, none, .left, none, 0, none, none, none, false⟩

/-- A load, unload or switch is taken: the media claim and the sequence's record (R125). -/
def takeSeq (q : Sequence) (w : Work) : Work :=
  setMediaClaim true (modMedia (fun m => { m with seq := some q, switch := none }) w)

/-- A roll switch starts: the THREADED roll, if any, is unloaded first (R35). -/
def startSwitch (job : Job) (tag : Option Nat) (slot : Slot) (w : Work) : Work :=
  let old := threadedSlot w.media
  let w := takeSeq (newSeq job tag slot old) w
  match old with
  | some _ => startUnloadPart w
  | none => startLoadPart slot w

/-! ## The automatic switch and the hand-on (R26, R36) -/

/-- A roll is compatible with a replaced roll of the given width and profile (R36). -/
def compatible (r : Roll) (width profile : Nat) : Bool :=
  r.state = .standby && r.profile = some profile
    && r.declared.any (fun d => d ≤ width + Config.widthTolerance && width ≤ d + Config.widthTolerance)

/-- What becomes of a pending switch at a moment it could start (R36). -/
inductive SwitchFate where
  | absent | waits | starts | dropped
  deriving DecidableEq, Repr

def switchFate (s : State) : SwitchFate :=
  match s.media.switch with
  | none => .absent
  | some r =>
    let roll := s.media.rolls.get r.slot
    if roll.state ≠ .standby then .dropped
    else if !parked s || s.media.content = .fault then .waits
    else if compatible roll r.width r.profile then .starts else .dropped

/-- The automatic switch starts, with its notice (R36). It replaces the roll of the other slot: the roll that has ended, or the
THREADED roll that is too short. -/
def startAuto (w : Work) : Work :=
  match w.media.switch with
  | some r => startSwitch .auto none r.slot (switchEvent (some r.slot.other) r.slot none w)
  | none => w

/-- A pending switch is looked at while the path is free (R36). -/
def lookSwitch (w : Work) : Work :=
  match switchFate w.toState with
  | .absent | .waits => w
  | .starts => startAuto w
  | .dropped => modMedia (fun m => { m with switch := none }) w

/-- The owner of the path is handed on (R26). -/
def handOn (w : Work) : Work :=
  match w.media.ejecting, w.media.content with
  | some slot, .empty | some slot, .clean | some slot, .dirty => startEjection slot w
  | _, _ => lookSwitch (setOwner .idle w)

/-- The carriage has become CAPPED or OPEN: a waiting switch may start (R36, R117). -/
def trySwitch (w : Work) : Work := when (w.media.owner = .idle) lookSwitch w

/-- The pending switch goes when its roll is no longer STANDBY (R36). -/
def dropSwitch (w : Work) : Work :=
  modMedia (fun m => { m with switch := m.switch.filter (fun r => (m.rolls.get r.slot).state = .standby) }) w

/-- A pending switch for a roll that replaces `old`, where AUTO_ROLL is on and the other roll is compatible (R36). -/
def switchFor (s : State) (slot : Slot) (old : Roll) (reason : SwitchReason) : Option SwitchRec :=
  match old.declared, old.profile with
  | some width, some profile =>
    if s.conf.autoRoll && compatible (s.media.rolls.get slot.other) width profile then
      some ⟨slot.other, reason, width, profile⟩
    else none
  | _, _ => none

/-- The sheet unit asks for a switch for a sheet of length `l` (R36). Present: the switch has started. -/
def shortSwitch (s : State) (l : Nat) : Option SwitchRec :=
  match threadedSlot s.media with
  | some slot =>
    let old := s.media.rolls.get slot
    let other := s.media.rolls.get slot.other
    if old.remaining.any (· < l) && other.remaining.all (l ≤ ·) then switchFor s slot old .shortRoll else none
  | none => none

/-! ## Taking and releasing the path (R26) -/

/-- A take request is granted (R26). -/
def takeGranted (s : State) : Bool :=
  s.media.owner = .idle && s.media.content ≠ .fault && s.media.ejecting.isNone && s.media.switch.isNone

def releasePath (o : Owner) (w : Work) : Work := if w.media.owner = o then handOn w else w

/-! ## The end of a sequence (R26, R31 to R36) -/

/-- The skew window of an edge search (R29). -/
def skewWindow (k : Nat) (q : Sequence) : Option Nat :=
  match q.c1, q.c2 with
  | some a, some b => some (countTravel k (b - a))
  | _, _ => none

/-- The detail block of a load's or switch's OP_DONE (Table 11-5). DESIGN CHOICE (log entry 62): the slot is the one to be loaded, and
the measured width, skew window and counts seen are present once the load has them, however it ended. -/
def loadDetail (k : Nat) (q : Sequence) : List Byte :=
  u8 q.slot.num ++ o32 q.measured ++ o32 (skewWindow k q) ++ o32 q.failSeen

/-- The detail block of an unload's OP_DONE (Table 11-5). -/
def unloadDetail (q : Sequence) : List Byte := u8 q.slot.num ++ o32 q.failSeen

/-- The slot whose roll a switch replaces: an automatic switch replaces the other slot's roll (R36), ROLL_SELECT the THREADED
one, if any (R35). -/
def replacedSlot (q : Sequence) : Option Slot := if q.job = .auto then some q.slot.other else q.oldSlot

/-- The notices that end a sequence: OP_DONE, load fault, roll switch (R32, R34, R35, R36). -/
def seqNotices (q : Sequence) (outcome : Code) (loadFailed : Bool) (w : Work) : Work :=
  let w :=
    match q.job, q.tag with
    | .load, some tag => opDone kindMediaLoad tag outcome (loadDetail w.feed.k q) w
    | .unload, some tag => opDone kindMediaUnload tag outcome (unloadDetail q) w
    | .select, some tag => opDone kindRollSelect tag outcome (loadDetail w.feed.k q) w
    | _, _ => w
  let w := when loadFailed (loadFaultEvent q.slot outcome) w
  when (q.job = .select || q.job = .auto) (switchEvent (replacedSlot q) q.slot (some outcome)) w

/-- A sequence ends: its claim, the owner, its notices. -/
def endSeq (q : Sequence) (outcome : Code) (loadFailed : Bool) (w : Work) : Work :=
  seqNotices q outcome loadFailed (handOn (setMediaClaim false (modMedia (fun m => { m with seq := none }) w)))

/-- The load is complete (R31). -/
def completeLoad (q : Sequence) (w : Work) : Work :=
  let w := modRoll q.slot (fun r => { r with state := .threaded, measured := q.measured, fresh := false }) w
  endSeq q .ok false (feedLoaded (setContent .clean w))

/-- The load has failed: the media is rewound (R32). -/
def failLoad (q : Sequence) (failure : Code) (seen : Option Nat) (w : Work) : Work :=
  let q := { q with step := .failRewind, failure := some failure, failSeen := seen }
  askMove ⟨.loading, .media, false, q.fed + Config.rewindExtra, .rewind⟩
    (modMedia (fun m => { m with seq := some q }) w)

/-- Both lead-edge sensors report media absent. -/
def edgesClear (m : Media) : Bool := !m.edgeLeft && !m.edgeRight

/-- The rewind of a failed load has ended (R32). -/
def loadRewound (q : Sequence) (outcome : MoveOutcome) (w : Work) : Work :=
  let failure := q.failure.getD .ok
  if outcome = .completed && edgesClear w.media then
    endSeq q failure true
      (modRoll q.slot (fun r => restRoll (w.media.present.get q.slot) { r with fault := some failure }) w)
  else
    endSeq q failure true
      (pathFault .unloadJam (some q.slot)
        (modRoll q.slot (fun r => { r with state := .fault, fault := some .unloadJam }) w))

/-- The named roll can be loaded by a switch (R35). -/
def switchable (s : State) (r : Roll) : Bool :=
  r.state = .standby && r.declared.isSome && (r.profile.bind (profileAt s)).isSome

/-- The named roll of a switch, once the way is free: it is loaded, or the switch ends because it is gone. DESIGN CHOICE (log
entry 18): a new roll put into the slot meanwhile, STANDBY with no width or profile, ends the switch with R35's BAD_STATE. -/
def loadNamed (q : Sequence) (w : Work) : Work :=
  match (w.media.rolls.get q.slot).state with
  | .standby =>
    if switchable w.toState (w.media.rolls.get q.slot) then startLoadPart q.slot w else endSeq q .badState false w
  | .absent => endSeq q .noMedia false w
  | .threaded | .ended | .fault => endSeq q .rollEnd false w

/-- The rewind of an unload has ended (R34). -/
def unloadRewound (q : Sequence) (r : MoveReport) (w : Work) : Work :=
  let slot := q.oldSlot.getD q.slot
  if r.outcome = .completed && edgesClear w.media && !w.media.entry.get slot then
    let w := modRoll slot (fun x => restRoll (w.media.present.get slot) { x with state := .standby, fault := none }) w
    let w := setContent .empty w
    if q.job = .unload then endSeq q .ok false w else loadNamed q w
  else
    let seen := if r.outcome = .feedStall || r.outcome = .feedTimeout then some r.seen else none
    endSeq { q with failSeen := seen } .unloadJam false
      (pathFault .unloadJam (some slot)
        (modRoll slot (fun x => restRoll (w.media.present.get slot) { x with state := .fault, fault := some .unloadJam }) w))

/-! ## The load's own steps (R29 to R31) -/

/-- The profile of the roll being loaded. -/
def slotProfile (s : State) (slot : Slot) : Option Profile := (s.media.rolls.get slot).profile.bind (profileAt s)

/-- The width scan is asked; one refused as busy is asked again when a carriage move ends (R30). -/
def askWidthScan (w : Work) : Work :=
  if carMoveBusy w.toState then modSeq (fun q => { q with step := .widthScan, scanAgain := true }) w
  else askCarMove .media .widthScan (modSeq (fun q => { q with step := .widthScan, scanAgain := false }) w)

/-- The code of a move's fault. -/
def MoveOutcome.code : MoveOutcome → Code
  | .completed | .stopped => .ok
  | .slip => .slip
  | .feedStall => .feedStall
  | .feedTimeout => .feedTimeout

/-- The move ended in a feed fault. -/
def MoveOutcome.isFault : MoveOutcome → Bool
  | .completed | .stopped => false
  | .slip | .feedStall | .feedTimeout => true

/-- The edge search has ended (R29). -/
def edgeSearchEnded (q : Sequence) (r : MoveReport) (w : Work) : Work :=
  let q := { q with fed := q.fed + r.travel, endSeen := r.seen }
  let w := modMedia (fun m => { m with seq := some q }) w
  if r.outcome.isFault then failLoad q r.outcome.code (some r.seen) w
  else
    match q.c1, skewWindow w.feed.k q with
    | none, _ => failLoad q .noEdge none w
    | some _, none => failLoad q .skew none w
    | some _, some window =>
      if (slotProfile w.toState q.slot).all (fun p => window ≤ p.skewLimit) then askWidthScan w
      else failLoad q .skew none w

/-- The trim length of the roll being loaded (R31). -/
def trimLength (s : State) (slot : Slot) : Nat :=
  match slotProfile s slot with
  | some p => if (s.media.rolls.get slot).fresh then p.freshTrim else p.rethreadTrim
  | none => 0

/-- A of the lead-trim move (R31). An overrun that leaves nothing to feed gives 0, which the feed drive refuses as out of range
(R1, R3; log entry 5). -/
def leadTrimA (k : Nat) (q : Sequence) (trim : Nat) : Nat :=
  Config.leadEdgeLine + trim - countTravel k (q.endSeen - q.c2.getD q.endSeen)

/-- The width scan has ended (R30). -/
def widthScanned (q : Sequence) (outcome : Code) (width : Nat) (w : Work) : Work :=
  if outcome ≠ .ok then failLoad q .capFault none w
  else
    let q := { q with measured := some width }
    let declared := (w.media.rolls.get q.slot).declared.getD 0
    if Config.widthTolerance < ((width : Int) - (declared : Int)).natAbs then failLoad q .widthMismatch none w
    else
      askMove ⟨.loading, .media, true, leadTrimA w.feed.k q (trimLength w.toState q.slot), .leadTrim⟩
        (modMedia (fun m => { m with seq := some { q with step := .leadTrim } }) w)

/-- The lead-trim move has ended (R31). -/
def leadTrimEnded (q : Sequence) (r : MoveReport) (w : Work) : Work :=
  let q := { q with fed := q.fed + r.travel }
  if r.outcome.isFault then failLoad q r.outcome.code (some r.seen) w
  else if trimLength w.toState q.slot = 0 then completeLoad q w
  else requestCut .loading .scrap (modMedia (fun m => { m with seq := some { q with step := .trimCut } }) w)

/-! ## The ejection's own steps (R38) -/

/-- An ejection ends in a fault. -/
def ejectFailed (slot : Slot) (reason : Code) (w : Work) : Work :=
  let w := pathFault reason (some slot) w
  let w := modRoll slot (fun r => restRoll (w.media.present.get slot) { r with fault := some reason }) w
  handOn (modMedia (fun m => { m with seq := none }) w)

/-- Both moves of an ejection have ended well. -/
def ejectDone (slot : Slot) (w : Work) : Work :=
  let new := switchFor w.toState slot (w.media.rolls.get slot) .rollEnd
  let w := modRoll slot (restRoll (w.media.present.get slot)) w
  handOn
    (modMedia
      (fun m =>
        { m with content := .empty, ejecting := none, seq := none, switch := if new.isSome then new else m.switch }) w)

/-- A move of an ejection has ended. -/
def ejectMoveEnded (q : Sequence) (r : MoveReport) (w : Work) : Work :=
  if r.outcome.isFault then ejectFailed q.slot r.outcome.code w
  else if q.step = .ejectFirst then
    if w.media.entry.get q.slot then ejectFailed q.slot .unloadJam w
    else ejectMove Config.rollToCutter (modSeq (fun q => { q with step := .ejectSecond }) w)
  else ejectDone q.slot w

/-! ## What the media path controller hears -/

/-- The remaining length after a move (R23). -/
def remainingAfter (forward : Bool) (travel rem : Nat) : Nat :=
  if forward then rem - travel else min Config.maxRemaining (rem + travel)

/-- The remaining length of the roll on the path follows every move of A ≥ 1 (R23). -/
def accountMove (r : MoveReport) (w : Work) : Work :=
  match rollOnPath w.media with
  | some slot =>
    if 1 ≤ r.ask.a && (w.media.rolls.get slot).state ≠ .ended then
      modRoll slot (fun x => { x with remaining := x.remaining.map (remainingAfter r.ask.forward r.travel) }) w
    else w
  | none => w

/-- A move asked by the media path controller has ended. -/
def mediaMoveEnded (r : MoveReport) (w : Work) : Work :=
  match w.media.seq with
  | some q =>
    match q.step, r.ask.purpose with
    | .edgeSearch, .edgeSearch => edgeSearchEnded q r w
    | .leadTrim, .leadTrim => leadTrimEnded q r w
    | .failRewind, .rewind => loadRewound q r.outcome w
    | .unloadRewind, .rewind => unloadRewound q r w
    | .ejectFirst, .ejection | .ejectSecond, .ejection => ejectMoveEnded q r w
    | _, _ => w
  | none => w

/-- The dirty cut of an unload has jammed: the unload ends, and a roll removed meanwhile leaves its slot (R22, R33). DESIGN CHOICE
(log entry 31): the fault reason of the roll, which stays THREADED, is left as it was. -/
def dirtyCutJammed (q : Sequence) (w : Work) : Work :=
  let slot := q.oldSlot.getD q.slot
  endSeq q .cutterJam false (modRoll slot (restRoll (w.media.present.get slot)) w)

/-- A cut asked by the media path controller has ended (R31, R33, R37). DEDUCED (log entry 53): the lead-trim cut that completes after
a roll end has ended its load clears the fresh flag too. -/
def mediaCutEnded (jam : Bool) (w : Work) : Work :=
  match w.media.seq with
  | some q =>
    match q.step with
    | .dirtyCut => if jam then dirtyCutJammed q w else unloadRewind w
    | .trimCut =>
      if jam then
        endSeq q .cutterJam true (modRoll q.slot (fun r => { r with state := .fault, fault := some .cutterJam }) w)
      else completeLoad q w
    | .ejectAfterCut =>
      if jam then
        let w := modRoll q.slot (fun r => restRoll (w.media.present.get q.slot) { r with fault := some .cutterJam }) w
        handOn (modMedia (fun m => { m with seq := none }) w)
      else ejectMoves q.slot (modRoll q.slot (fun r => { r with fresh := false }) w)
    | .unloadRewind | .edgeSearch | .widthScan | .leadTrim | .failRewind | .ejectFirst | .ejectSecond | .ejectAfterScan => w
  | none => w

/-- A width scan has ended (R30, R37). -/
def mediaCarMoveEnded (m : CarMove) (outcome : Code) (w : Work) : Work :=
  match w.media.seq with
  | some q =>
    match q.step with
    | .widthScan => widthScanned q outcome m.width w
    | .ejectAfterScan => ejectMoves q.slot w
    | .dirtyCut | .unloadRewind | .edgeSearch | .leadTrim | .trimCut | .failRewind | .ejectFirst | .ejectSecond
    | .ejectAfterCut => w
  | none => w

/-- A carriage move has ended: a width scan refused as busy is asked again (R30). -/
def mediaAskAgain (w : Work) : Work :=
  match w.media.seq with
  | some q => if q.step = .widthScan && q.scanAgain then askWidthScan w else w
  | none => w

/-! ## Roll switches and roll ends (R21, R22, R37) -/

/-- The record of a roll whose core has been reached. -/
def endedRoll (r : Roll) : Roll := { r with state := .ended, remaining := some 0 }

/-- A roll end of a STANDBY roll (R37). -/
def standbyEnded (slot : Slot) (w : Work) : Work := dropSwitch (rollEndEvent slot (modRoll slot endedRoll w))

/-- A roll end of the THREADED roll (R37). DESIGN CHOICE (log entry 39): with the owner IDLE and the content FAULT the ejection
is pending and none starts, as R26 starts no ejection on a path in FAULT. -/
def threadedEnded (slot : Slot) (w : Work) : Work :=
  let w := rollEndEvent slot (modMedia (fun m => { m with ejecting := some slot }) (modRoll slot endedRoll w))
  let w := post .rollEnded w
  when (w.media.owner = .idle && w.media.content ≠ .fault) (startEjection slot) w

/-- Where the sequence waits when a roll end stops a load (R37). DESIGN CHOICE (log entry 55): a width scan that has been asked
and still waits to begin is in progress too, so it is made and ends before the ejection's first move is asked. -/
def afterLoadStep (q : Sequence) : Option MediaStep :=
  match q.step with
  | .widthScan => if q.scanAgain then none else some .ejectAfterScan
  | .trimCut => some .ejectAfterCut
  | .dirtyCut | .unloadRewind | .edgeSearch | .leadTrim | .failRewind | .ejectFirst | .ejectSecond | .ejectAfterScan
  | .ejectAfterCut => none

/-- A roll end of the roll being loaded (R37); a pending switch that names it goes (R36). DESIGN CHOICE (log entry 41): during the rewind of a failed load too, the load
then ends ROLL_END and its own failure is not reported; its OP_DONE still carries the counts seen of a feed fault that failed it. -/
def loadEnded (q : Sequence) (w : Work) : Work :=
  let w := stopMove .loading 0 w
  let w := dropSwitch (modRoll q.slot endedRoll w)
  let w := modMedia
    (fun m =>
      { m with
        ejecting := some q.slot, owner := .unloading
        seq := some (ejectSeq q.slot ((afterLoadStep q).getD .ejectFirst)) }) w
  let w := setMediaClaim false w
  let w := when (afterLoadStep q).isNone (ejectMoves q.slot) w
  rollEndEvent q.slot (seqNotices q .rollEnd false w)

/-- The roll-end sensor of a slot reports the core (R37). -/
def rollEndReport (slot : Slot) (w : Work) : Work :=
  match w.media.seq with
  | some q =>
    if beingLoaded w.media slot then loadEnded q w
    else if beingUnloaded w.media slot then w
    else
      match (w.media.rolls.get slot).state with
      | .threaded => threadedEnded slot w
      | .standby => standbyEnded slot w
      | .absent | .ended | .fault => w
  | none =>
    match (w.media.rolls.get slot).state with
    | .threaded => threadedEnded slot w
    | .standby => standbyEnded slot w
    | .absent | .ended | .fault => w

/-- A roll-present switch closes (R21). -/
def rollPresentClose (slot : Slot) (core : Bool) (w : Work) : Work :=
  let w := modMedia (fun m => { m with present := m.present.set slot true }) w
  if (w.media.rolls.get slot).state = .absent then
    let w := modRoll slot (fun _ => { Roll.none with state := .standby, fresh := true }) w
    when core (standbyEnded slot) w
  else w

/-- A roll-present switch opens (R22). -/
def rollPresentOpen (slot : Slot) (w : Work) : Work :=
  let w := modMedia (fun m => { m with present := m.present.set slot false }) w
  if beingLoaded w.media slot || beingUnloaded w.media slot then rollEndReport slot w
  else
    match (w.media.rolls.get slot).state with
    | .threaded => rollEndReport slot w
    | .standby | .fault => dropSwitch (modRoll slot (fun _ => Roll.none) w)
    | .ended => if w.media.ejecting = some slot then w else modRoll slot (fun _ => Roll.none) w
    | .absent => w

/-! ## Sensors of the path (R29, R38) -/

/-- An edge is seen during an edge search (R29). -/
def edgeSeen (sensor : EdgeSensor) (late : Nat) (q : Sequence) (seen : Nat) (w : Work) : Work :=
  match q.c1 with
  | none => modSeq (fun q => { q with c1 := some seen, c1Sensor := sensor }) w
  | some _ =>
    if sensor ≠ q.c1Sensor && q.c2.isNone then stopMove .loading late (modSeq (fun q => { q with c2 := some seen }) w)
    else w

/-- A lead-edge sensor reports its level (R29). -/
def leadEdgeChange (sensor : EdgeSensor) (present : Bool) (late : Nat) (w : Work) : Work :=
  let was := match sensor with
    | .left => w.media.edgeLeft
    | .right => w.media.edgeRight
  let w := modMedia (fun m => match sensor with
    | .left => { m with edgeLeft := present }
    | .right => { m with edgeRight := present }) w
  match w.media.seq, w.feed.move with
  | some q, some m => if q.step = .edgeSearch && present && !was then edgeSeen sensor late q m.seen w else w
  | _, _ => w

/-- A path-entry sensor reports its level (R38). -/
def pathEntryChange (slot : Slot) (present : Bool) (late : Nat) (w : Work) : Work :=
  let w := modMedia (fun m => { m with entry := m.entry.set slot present }) w
  match w.media.seq with
  | some q => if q.step = .ejectFirst && q.slot = slot && !present then stopMove .unloading late w else w
  | none => w

/-! ## The exit sensor and the basket (R41, R42) -/

/-- The exit sensor reports a pass (R41). -/
def exitPass (w : Work) : Work :=
  if w.media.exitWatch.isSome then
    post (.exitEnded false)
      (modMedia (fun m => { m with exitWatch := none, stack := min Config.maxStack (m.stack + 1) }) w)
  else w

/-- 4,000 ms of an exit watch have passed (R41). -/
def exitWatchTimeout (w : Work) : Work :=
  match w.media.exitWatch with
  | some start =>
    if reached (start + Config.exitTime) w.now then
      post (.exitEnded true)
        (pathFault .exitJam (concernedSlot w.media) (modMedia (fun m => { m with exitWatch := none }) w))
    else w
  | none => w

/-- The basket has been emptied (R42). -/
def basketEmptied (w : Work) : Work := post .roomAppeared (modMedia (fun m => { m with stack := 0 }) w)

/-- The basket has room (R42). -/
def basketRoom (s : State) : Bool := s.media.stack < s.conf.stackLimit

/-! ## Requests (R24, R25, R28, R33, R35, R43) -/

/-- MEDIA_LOAD's state checks (R28). -/
def loadRefusal (slot : Slot) (s : State) : Option Code :=
  if s.media.content = .fault then some .pathFault
  else if s.media.owner ≠ .idle || s.media.ejecting.isSome then some .busy
  else if (threadedSlot s.media).isSome then some .badState
  else if (s.media.rolls.get slot).state = .absent then some .noMedia
  else if (s.media.rolls.get slot).state ≠ .standby then some .badState
  else if !parked s then some .carriageNotParked
  else none

/-- MEDIA_LOAD (R28). -/
def mediaLoad (tag slot width : Nat) (remaining : Option Nat) (profile : Nat) (w : Work) : Work :=
  match Slot.ofNum slot with
  | none => refuse .badField w
  | some sl =>
    if width < Config.widthMin || Config.widthMax < width || (profileAt w.toState profile).isNone then refuse .badField w
    else
      match loadRefusal sl w.toState with
      | some reason => refuse reason w
      | none =>
        let w := modRoll sl
          (fun r =>
            { r with
              declared := some width, remaining := remaining.map (min Config.maxRemaining), profile := some profile
              fault := none, measured := none }) (started slot w)
        startLoadPart sl (takeSeq (newSeq .load (some tag) sl none) w)

/-- MEDIA_UNLOAD (R33). -/
def mediaUnload (tag : Nat) (w : Work) : Work :=
  if w.media.content = .fault then refuse .pathFault w
  else if w.media.owner ≠ .idle || w.media.ejecting.isSome then refuse .busy w
  else
    match threadedSlot w.media with
    | none => refuse .noMedia w
    | some sl =>
      if w.media.content = .dirty && !parked w.toState then refuse .carriageNotParked w
      else startUnloadPart (takeSeq (newSeq .unload (some tag) sl (some sl)) (started sl.num w))

/-- ROLL_SELECT (R35). DESIGN CHOICE (log entry 40): the THREADED roll is answered OK on a path in FAULT too, where R27 speaks
of PATH_FAULT. -/
def rollSelect (tag slot : Nat) (w : Work) : Work :=
  match Slot.ofNum slot with
  | none => refuse .badField w
  | some sl =>
    if (w.media.rolls.get sl).state = .threaded then okWith [] w
    else if w.media.content = .fault then refuse .pathFault w
    else if w.media.owner ≠ .idle || w.media.ejecting.isSome then refuse .busy w
    else if (w.media.rolls.get sl).state = .absent then refuse .noMedia w
    else if !switchable w.toState (w.media.rolls.get sl) then refuse .badState w
    else if !parked w.toState then refuse .carriageNotParked w
    else startSwitch .select (some tag) sl (started slot w)

/-- The profile entry is in use (R24). -/
def profileBusy (s : State) (index : Nat) : Bool :=
  let usedBy (slot : Option Slot) := slot.any (fun x => (s.media.rolls.get x).profile = some index)
  (s.sheet.phase ≠ .none && (usedBy (threadedSlot s.media) || usedBy s.media.ejecting))
    || s.media.seq.any (fun q => q.step.isLoad && usedBy (some q.slot))

/-- The entry that PROFILE_SET writes (Table 2-5). The name ends at its first 0x00 (R188).
DESIGN CHOICE (log entry 54): bytes of it that are no printable characters are kept as they came. -/
def profileOf (tracking : Bool) (f : ProfileFields) : Profile where
  name := (textOf f.name).take 16
  sProfile := clampInt (-15000) 15000 f.sProfile
  skewLimit := clampNat 200 5000 f.skewLimit
  tracking := tracking
  baseDry := clampNat 0 120000 f.baseDry
  dryCoeff := clampNat 0 500 f.dryCoeff
  freshTrim := clampNat 0 200000 f.freshTrim
  rethreadTrim := clampNat 0 50000 f.rethreadTrim
  margin := clampNat 0 100000 f.margin

/-- One flag for each field that was clamped or cut (R24). -/
def profileFlags (p : Profile) (f : ProfileFields) : List Byte :=
  flag (p.name ≠ textOf f.name) ++ flag (p.sProfile ≠ f.sProfile) ++ flag (p.skewLimit ≠ f.skewLimit)
    ++ flag (p.baseDry ≠ f.baseDry) ++ flag (p.dryCoeff ≠ f.dryCoeff) ++ flag (p.freshTrim ≠ f.freshTrim)
    ++ flag (p.rethreadTrim ≠ f.rethreadTrim) ++ flag (p.margin ≠ f.margin)

/-- PROFILE_SET (R24). -/
def profileSet (index : Nat) (f : ProfileFields) (w : Work) : Work :=
  match boolOf f.tracking with
  | none => refuse .badField w
  | some tracking =>
    if 7 < index then refuse .badField w
    else if profileBusy w.toState index then refuse .busy w
    else
      let p := profileOf tracking f
      okWith (profileFlags p f) (modMedia (fun m => { m with profiles := m.profiles.set index (some p) }) w)

/-- The fields of a defined entry as PROFILE_SET lays them out after its index (R190). -/
def profileItems (p : Profile) : List Byte :=
  text 16 p.name ++ s32 p.sProfile ++ u16 p.skewLimit ++ flag p.tracking ++ u32 p.baseDry ++ u16 p.dryCoeff
    ++ u32 p.freshTrim ++ u32 p.rethreadTrim ++ u32 p.margin

/-- PROFILE_READ (R25). -/
def profileRead (index : Nat) (w : Work) : Work :=
  if 7 < index then refuse .badField w
  else
    match profileAt w.toState index with
    | none => okWith (u8 1) w
    | some p => okWith (u8 0 ++ profileItems p) w

/-- What PATH_CLEAR makes of a roll (R43). DEDUCED (log entry 64): the flag and length that R43 keeps are those of a roll that stays. -/
def clearedRoll (present : Bool) (r : Roll) : Roll :=
  match r.state with
  | .threaded | .fault => restRoll present { r with state := .standby, fault := none }
  | .ended => restRoll present r
  | .standby | .absent => r

/-- PATH_CLEAR (R43). -/
def pathClear (w : Work) : Work :=
  if w.media.content ≠ .fault then refuse .badState w
  else
    let w := modMedia
      (fun m =>
        { m with
          content := .empty, ejecting := none
          rolls := ⟨clearedRoll m.present.s1 m.rolls.s1, clearedRoll m.present.s2 m.rolls.s2⟩ }) (okWith [] w)
    trySwitch (post .pathCleared w)

/-! ## Reset (R44) -/

/-- The roll that a load, unload or switch in flight was moving. -/
def movedSlot (q : Sequence) : Option Slot :=
  if q.step.isUnload then q.oldSlot else if q.step.isLoad then some q.slot else none

/-- What a mechanism reset makes of rolls and content (Table 2-8). -/
def resetPath (sheetOpen : Bool) (m : Media) : Media :=
  if m.content = .fault then m
  else
    match m.seq.bind movedSlot with
    | some slot =>
      { m with
        content := .empty
        rolls := m.rolls.set slot (restRoll (m.present.get slot) { m.rolls.get slot with state := .standby }) }
    | none =>
      if (sheetOpen || m.owner = .check) && (threadedSlot m).isSome then { m with content := .dirty } else m

/-- Mechanism reset (R44). -/
def resetMedia (w : Work) : Work :=
  modMedia
    (fun m =>
      { resetPath (w.sheet.phase ≠ .none) m with owner := .idle, switch := none, seq := none, cut := none, exitWatch := none }) w

/-- After a reset a pending ejection starts again (R44). -/
def ejectAfterReset (w : Work) : Work :=
  match w.media.ejecting with
  | some slot => when (w.media.content ≠ .fault) (startEjection slot) w
  | none => w

end Sys2Proof.Machine
end

