-- ==== Sys2Proof/Machine/Sheet.lean ====
section
/-! DEFINITION. The sheet transaction unit (Chapter 3): opening a sheet, swaths and their queue, the trailing list and the dry
time, the close, the cut and ejection, faults and aborts. -/

namespace Sys2Proof.Machine

open Sys2Proof

/-! ## Records and notices -/

def modSheet (f : Sheet → Sheet) (w : Work) : Work := { w with sheet := f w.sheet }

/-- The free slots of the swath queue (R52, R54, R58). -/
def freeSwaths (s : State) : Nat := Config.swathSlots - s.sheet.queue.length

/-- SHEET_EVENT of a kind (Table 11-7). -/
def sheetEvent (kind : Nat) (items : List Byte) (w : Work) : Work := event .sheet kind items w

/-- SWATH_DONE (Table 11-4). -/
def swathDone (tag : Nat) (outcome move : Code) (commanded seen : Nat) (measured : Option Nat) (sUsed : Int) (w : Work) :
    Work :=
  give (.completion 0x62 tag
    (code outcome ++ code move ++ u32 commanded ++ u32 seen ++ o32 measured ++ s32 sUsed ++ u8 (freeSwaths w.toState))) w

/-- OP_DONE of a SHEET_OPEN whose sheet is open (R52). -/
def openDone (tag : Nat) (w : Work) : Work :=
  opDone kindSheetOpen tag .ok (u32 w.sheet.margin ++ u8 (freeSwaths w.toState)) w

/-- OP_DONE of a SHEET_OPEN that has failed: its detail does not apply (Table 11-5; log entry 12). -/
def openFailed (tag : Nat) (reason : Code) (w : Work) : Work := opDone kindSheetOpen tag reason (absent 5) w

/-- OP_DONE of a SHEET_CLOSE or SHEET_ABORT: the stack count (Table 11-5). DESIGN CHOICE (log entry 62): the count as it stands, also where
the operation ended with no sheet stacked (ABORTED, a fault or a jam, REJECTED with no cut; R66, R190). -/
def cutDone (kind tag : Nat) (outcome : Code) (w : Work) : Work := opDone kind tag outcome (u8 w.media.stack) w

/-- The roll on the path of a sheet: the THREADED roll, or the ENDED roll whose media the sheet is on (R62). -/
def sheetRoll (m : Media) : Option Slot :=
  match threadedSlot m with
  | some s => some s
  | none => m.ejecting

def sheetMove (purpose : Purpose) (a : Nat) (w : Work) : Work := askMove ⟨.sheet, .sheet, true, a, purpose⟩ w

/-! ## The trailing list and the dry time (R59, R62) -/

def trailAdvance (l : List Trail) : Nat := (l.map Trail.advance).sum
def trailInk (l : List Trail) : Nat := (l.map Trail.ink).sum

/-- Removes oldest records while R59 says so. -/
def trimTrail : List Trail → List Trail
  | [] => []
  | t :: rest =>
    if Config.trailingMax < (t :: rest).length || Config.trailingCover ≤ trailAdvance rest then trimTrail rest else t :: rest

/-- Appends a record and trims (R59). -/
def addTrail (t : Trail) (l : List Trail) : List Trail := trimTrail (l ++ [t])

/-- The ink density of the trailing list, nL/cm² (R62). -/
def density (width : Nat) (l : List Trail) : Nat :=
  if trailAdvance l = 0 then 0 else min Config.maxDensity (trailInk l * 100000000 / (width * trailAdvance l))

/-- The dry time, ms (R62). -/
def dryTime (base coeff width : Nat) (l : List Trail) : Nat := min Config.maxDry (base + density width l * coeff)

/-- The dry time of the sheet as it stands (R62). -/
def sheetDryTime (s : State) : Nat :=
  match sheetRoll s.media with
  | some slot =>
    match slotProfile s slot with
    | some p => dryTime p.baseDry p.dryCoeff ((s.media.rolls.get slot).measured.getD 0) s.sheet.trailing
    | none => 0
  | none => 0

/-! ## Discards and faults (R65, R66) -/

/-- Every waiting entry is DISCARDED, oldest first (R66 step 2, R68). -/
def discardWaiting (w : Work) : Work :=
  let step (e : Swath) (w : Work) : Work :=
    swathDone e.tag .discarded .ok 0 0 none 0
      (modSheet (fun x => { x with queue := x.queue.filter (fun y => y.tag ≠ e.tag) }) w)
  forEach (w.sheet.queue.filter (fun e => !e.inFlight)) step w

/-- The operation under way ends with a fault (R66 step 3, R65). -/
def endOperation (reason : Code) (old : SheetPhase) (w : Work) : Work :=
  let x := w.sheet
  let w := modSheet (fun x => { x with openTag := none, close := none, abort := none }) w
  let w := match x.openTag with
    | some tag => openFailed tag reason w
    | none => w
  let w := match x.close with
    | some c => cutDone kindSheetClose c.tag (if old = .swathing then .aborted else reason) w
    | none => w
  match x.abort with
  | some (.tagged tag) => cutDone kindSheetAbort tag reason w
  | some (.within r) => openFailed r.tag reason w
  | none => w

/-- A cause faults the sheet (R66). -/
def faultNow (reason : Code) (w : Work) : Work :=
  let old := w.sheet.phase
  let w := discardWaiting (modSheet (fun x => { x with phase := .faulted, fault := some reason }) w)
  sheetEvent 6 (code reason) (endOperation reason old w)

/-- A cause of Table 3-4 reaches the sheet; it acts in the given states while no abort record is present. -/
def sheetFault (states : List SheetPhase) (reason : Code) (w : Work) : Work :=
  if states.contains w.sheet.phase && w.sheet.abort.isNone then faultNow reason w else w

/-! ## The cut (R63) -/

/-- The sheet unit asks for room and, with room, for the cut (R63). -/
def askRoom (w : Work) : Work :=
  if basketRoom w.toState then requestCut .sheet .sheet (modSheet (fun x => { x with roomWait := false }) w)
  else modSheet (fun x => { x with roomWait := true }) w

/-- CUT_WAIT is entered (R63, R69). -/
def enterCutWait (w : Work) : Work :=
  askRoom (sheetEvent 2 [] (modSheet (fun x => { x with phase := .cutWait, fault := none, dryEnd := none }) w))

/-! ## The head of the queue, TAIL and DRYING (R57, R60 to R62) -/

/-- A channel of the set is in ink hold. -/
def setHeld (s : State) : Bool := s.sheet.chans.members.any (fun ch => (chanRec s ch).hold)

/-- The conditions of R57 on the head of the queue. -/
def headReady (s : State) : Option Swath :=
  match s.sheet.queue with
  | e :: _ =>
    if s.sheet.phase = .swathing && s.sheet.abort.isNone && !e.inFlight && s.feed.move.isNone && !setHeld s then some e
    else none
  | [] => none

/-- The head is started (R57). -/
def startHead (e : Swath) (w : Work) : Work :=
  sheetMove .swath e.advance
    (modSheet (fun x => { x with queue := { e with inFlight := true } :: x.queue.tail }) w)

/-- DRYING is entered (R62); a dry time of 0 passes at once. -/
def enterDrying (w : Work) : Work :=
  let t := sheetDryTime w.toState
  let w := sheetEvent 1 (u32 t) (modSheet (fun x => { x with phase := .drying, dryEnd := some (w.now + t) }) w)
  if t = 0 then enterCutWait w else w

/-- The tail is done: its record is appended (R61). -/
def tailDone (w : Work) : Work :=
  let ink := match w.sheet.close with
    | some c => c.ink
    | none => 0
  enterDrying (modSheet (fun x => { x with trailing := addTrail ⟨x.tailFed, ink⟩ x.trailing }) w)

/-- The next tail move, or the end of the tail (R61). -/
def nextTail (w : Work) : Work :=
  if w.sheet.tailLeft = 0 || w.sheet.rollEnded then tailDone w
  else sheetMove .tail (min w.sheet.tailLeft Config.maxMove) w

/-- TAIL is entered (R61). -/
def enterTail (w : Work) : Work :=
  let w := sheetEvent 0 [] (modSheet
    (fun x =>
      { x with
        phase := .tail, tailLeft := x.length - x.committed, tailFed := 0, rollEnded := false
        committed := max x.committed x.length }) w)
  nextTail w

/-- The queue has drained under a close (R60). -/
def closeReady (s : State) : Bool :=
  s.sheet.phase = .swathing && s.sheet.abort.isNone && s.sheet.close.isSome && s.sheet.queue.isEmpty && s.feed.move.isNone

/-- The sheet unit looks at its queue head and its close (R57, R60). -/
def sheetLook (w : Work) : Work :=
  match headReady w.toState with
  | some e => startHead e w
  | none => if closeReady w.toState then enterTail w else w

/-! ## Opening (R49 to R52) -/

/-- The leading margin is done (R52). -/
def marginDone (w : Work) : Work :=
  let w := modSheet (fun x => { x with phase := .swathing }) w
  let w := match w.sheet.openTag with
    | some tag => openDone tag w
    | none => w
  sheetLook (modSheet (fun x => { x with openTag := none }) w)

/-- The leading margin (R52). -/
def feedMargin (w : Work) : Work :=
  if w.sheet.margin = 0 then marginDone w else sheetMove .leadingMargin w.sheet.margin w

/-- The record of a sheet whose open is taken (R49). -/
def openRecord (q : OpenReq) (margin : Nat) : Sheet :=
  { Sheet.none with
    phase := .opening, openTag := some q.tag, length := q.length, chans := q.chans, cls := q.cls, margin := margin
    committed := margin }

/-- The leading margin of the threaded roll's profile. -/
def threadedMargin (s : State) : Nat :=
  match (threadedSlot s.media).bind (slotProfile s) with
  | some p => p.margin
  | none => 0

/-- A channel of the set is in ink hold and STARVED (R56). -/
def setOutOfInk (s : State) : Bool :=
  s.sheet.chans.members.any (fun ch => (chanRec s ch).hold && !s.supply.supplied.get ch)

/-- The sheet is set as open, and goes on with the dirty cut or the margin (R49, R51, R52). -/
def beginSheet (q : OpenReq) (w : Work) : Work :=
  let w := modSheet (fun _ => openRecord q (threadedMargin w.toState)) w
  if w.media.content = .dirty then requestCut .sheet .scrap w else feedMargin w

/-- The new sheet of an abort "within open"; what has changed of its ink acts on it (R50, R56). -/
def reopen (q : OpenReq) (w : Work) : Work :=
  let w' := modSheet (fun _ => openRecord q (threadedMargin w.toState)) w
  if q.dried then faultNow .inkDry w'
  else if setOutOfInk w'.toState then faultNow .noInk w'
  else beginSheet q w

/-! ## The end of a sheet (R64, R69) -/

/-- No sheet: the record's optional fields are absent. -/
def closedSheet (x : Sheet) : Sheet :=
  { x with phase := .none, openTag := none, close := none, abort := none, fault := none, dryEnd := none, roomWait := false }

/-- Steps 1 to 3 of R64. -/
def endSheet (w : Work) : Work :=
  let x := w.sheet
  let ended := releasePath .sheet (modSheet closedSheet w)
  match x.abort, x.close with
  | some (.within q), _ =>
    if (threadedSlot w.media).isSome then reopen q w else openFailed q.tag .rollEnd ended
  | some (.tagged tag), _ => cutDone kindSheetAbort tag .rejected ended
  | none, some c => cutDone kindSheetClose c.tag .ok ended
  | none, none => ended

/-- Nothing that an abort lets end is still in flight (R69). DESIGN CHOICE (log entry 56): a dirty cut that still waits for its hold
is let end too, so the abort goes on once it has been granted, made and ended. -/
def abortFree (s : State) : Bool := s.feed.move.isNone && !s.media.cut.any (fun c => c.owner = .sheet && c.piece = .scrap)

/-- An accepted abort goes on once moves and a dirty cut have ended (R69). -/
def abortGoesOn (w : Work) : Work :=
  if w.sheet.abort.isNone || w.sheet.phase = .cutWait || w.sheet.phase = .cutting || w.sheet.phase = .ejecting
      || !abortFree w.toState then w
  else if w.sheet.fed then enterCutWait w
  else endSheet (modSheet (fun x => { x with fault := none, dryEnd := none }) w)

/-! ## What the sheet unit hears -/

/-- The leading margin has ended (R52). -/
def marginEnded (r : MoveReport) (w : Work) : Work :=
  if w.sheet.phase = .opening && w.sheet.abort.isNone then
    if r.outcome.isFault then faultNow r.outcome.code w else marginDone w
  else abortGoesOn w

/-- The move of the in-flight swath has ended (R58). -/
def swathEnded (r : MoveReport) (w : Work) : Work :=
  match w.sheet.queue with
  | [] => w
  | e :: rest =>
    let fault := r.outcome.isFault
    let live := w.sheet.phase = .swathing && w.sheet.abort.isNone
    let w := modSheet
      (fun x =>
        { x with
          queue := rest
          trailing := if live && !fault then addTrail ⟨e.advance, e.ink⟩ x.trailing else x.trailing }) w
    let w := swathDone e.tag (if fault then .discarded else .completed) (if fault then r.outcome.code else .ok)
      r.commanded r.seen r.measured r.sUsed w
    if live then if fault then faultNow r.outcome.code w else sheetLook w
    else abortGoesOn w

/-- A tail move has ended (R61). -/
def tailEnded (r : MoveReport) (w : Work) : Work :=
  if w.sheet.phase = .tail && w.sheet.abort.isNone then
    if r.outcome.isFault then faultNow r.outcome.code w
    else nextTail (modSheet (fun x => { x with tailLeft := x.tailLeft - r.ask.a, tailFed := x.tailFed + r.ask.a }) w)
  else abortGoesOn w

/-- A move of the sheet unit has ended; the fed flag says that media has moved (R52, R58). -/
def sheetMoveEnded (r : MoveReport) (w : Work) : Work :=
  if w.sheet.phase = .none then w
  else
    let w := modSheet (fun x => { x with fed := x.fed || decide (0 < r.seen) }) w
    match r.ask.purpose with
    | .leadingMargin => marginEnded r w
    | .swath => swathEnded r w
    | .tail => tailEnded r w
    | .edgeSearch | .leadTrim | .rewind | .ejection | .checkLead | .checkPattern | .strip => w

/-- The cutter has started on a cut of the sheet unit (R63). -/
def sheetCutStarted (w : Work) : Work :=
  if w.sheet.phase = .cutWait then sheetEvent 3 [] (modSheet (fun x => { x with phase := .cutting }) w) else w

/-- A cut of the sheet unit has ended (R51, R64, R65, R69). -/
def sheetCutEnded (piece : Piece) (jam : Bool) (w : Work) : Work :=
  match piece with
  | .scrap =>
    if jam then
      if w.sheet.phase = .opening || w.sheet.abort.isSome then faultNow .cutterJam w else w
    else if w.sheet.phase = .opening && w.sheet.abort.isNone then feedMargin w
    else abortGoesOn w
  | .sheet =>
    if w.sheet.phase ≠ .cutting then w
    else if jam then faultNow .cutterJam w
    else sheetEvent 4 [] (modSheet (fun x => { x with phase := .ejecting, fed := false }) w)

/-- The exit watch has ended (R64, R65). -/
def sheetExitEnded (jam : Bool) (w : Work) : Work :=
  if w.sheet.phase ≠ .ejecting then w
  else if jam then faultNow .exitJam w
  else endSheet (sheetEvent 5 (u8 w.media.stack) w)

/-- Basket room has appeared (R42, R63). -/
def sheetRoom (w : Work) : Work := if w.sheet.phase = .cutWait && w.sheet.roomWait then askRoom w else w

/-- The threaded roll has ended (R61, R67). -/
def sheetRollEnded (w : Work) : Work :=
  if w.sheet.phase = .tail then modSheet (fun x => { x with rollEnded := true }) w
  else sheetFault [.opening, .swathing] .rollEnd w

/-- The path has been cleared by hand (R65). -/
def sheetPathCleared (w : Work) : Work :=
  if w.sheet.phase = .faulted then
    releasePath .sheet (modSheet (fun x => { closedSheet x with queue := [], trailing := [], fed := false }) w)
  else w

/-- An open that waits for an abort remembers that a channel of its set has become DRY (R50, R56). -/
def rememberDry (ch : Chan) (w : Work) : Work :=
  match w.sheet.abort with
  | some (.within q) =>
    if q.chans.get ch && (chanRec w.toState ch).dry then
      modSheet (fun x => { x with abort := some (.within { q with dried := true }) }) w
    else w
  | _ => w

/-- The ink of a channel has changed (R56). Of these changes only a hold that has cleared is a look at the queue head (R57). -/
def sheetHearsInk (ch : Chan) (what : InkChange) (w : Work) : Work :=
  let c := chanRec w.toState ch
  let w := when (what = .dry) (rememberDry ch) w
  if !w.sheet.chans.get ch then w
  else
    match what with
    | .dry => when c.dry (sheetFault [.opening, .swathing] .inkDry) w
    | .hold | .supply =>
      if c.hold && !w.supply.supplied.get ch then sheetFault [.opening, .swathing] .noInk w
      else when (what = .hold && !c.hold) sheetLook w

/-- The drying time passes (R62). -/
def dryEnd (w : Work) : Work :=
  if w.sheet.phase = .drying && w.sheet.dryEnd.any (fun t => reached t w.now) then enterCutWait w else w

/-! ## Ink of a request (R54 steps 1 to 3) -/

/-- The printed drops of one channel: its volume is added to the ink so far. -/
def printDrops (printed : Chans Nat) (ch : Chan) (x : Nat × Work) : Nat × Work :=
  if printed.get ch = 0 then x
  else
    let d := debitDrops .printed ch (printed.get ch) x.2
    (x.1 + d.1, d.2)

/-- The spit drops of one channel: debit, and its volume to waste. -/
def spitDrops (spit : Chans Nat) (ch : Chan) (w : Work) : Work :=
  if spit.get ch = 0 then w
  else
    let d := debitDrops .serviced ch (spit.get ch) w
    credit d.1 d.2

/-- The drops of a request are handed over; its printed ink is the answer. -/
def takeDrops (printed spit : Chans Nat) (w : Work) : Nat × Work :=
  let x := allChans.foldl (fun x ch => printDrops printed ch x) (0, w)
  let w := forEach allChans (spitDrops spit) x.2
  (x.1, forEach allChans (fun ch => when (0 < printed.get ch || 0 < spit.get ch) (restartWet ch)) w)

/-- A count above 0 for a channel outside the sheet's set. -/
def outsideSet (s : State) (printed spit : Chans Nat) : Bool :=
  allChans.any (fun ch => !s.sheet.chans.get ch && (0 < printed.get ch || 0 < spit.get ch))

/-! ## Requests (R46 to R50, R53 to R55, R60, R68) -/

/-- SHEET_OPEN's fields (R46). -/
def openFields (tag length chans cls : Nat) : Option OpenReq :=
  match chanSetOf chans, (match cls with | 0 => some SheetClass.plain | 1 => some .checkStrip | _ => none) with
  | some set, some c =>
    if length < Config.minSheet || Config.maxSheet < length || set.isEmpty then none else some ⟨tag, length, set, c, false⟩
  | _, _ => none

/-- What Table 3-3 answers before R49 and R50: passed, a refusal, WAIT, or the question of R48. -/
inductive OpenCheck where
  | passes | refused (c : Code) | waits | shortRoll
  deriving DecidableEq, Repr

/-- An automatic switch is pending or running (R47). -/
def autoSwitching (s : State) : Bool := s.media.switch.isSome || s.media.seq.any (fun q => q.job = .auto)

/-- Some head of a set has the property. -/
def someHead (set : Heads Bool) (p : Head → Bool) : Bool := set.members.any p

def Escalation.isRound : Escalation → Bool
  | .round1 | .round2 | .round3 => true
  | .ok | .attention | .degraded => false

/-- Steps 4 to 8 of Table 3-3. -/
def openInkCheck (q : OpenReq) (s : State) : OpenCheck :=
  let heads := headsOf q.chans
  if q.chans.members.any (fun ch => !s.supply.supplied.get ch) then .refused .noInk
  else if someHead heads s.station.cleanDue.get then .refused .serviceDue
  else if someHead heads (fun h => s.checker.escalation.get h = .degraded) && !(s.conf.degradedAllowed || q.cls = .checkStrip)
    then .refused .headDegraded
  else if someHead heads (fun h => (s.checker.escalation.get h).isRound) then .waits
  else
    match s.station.waste.tank with
    | none => .refused .noWasteTank
    | some t => if t.w < t.capacity then .passes else .refused .wasteFull

/-- Table 3-3. -/
def openCheck (q : OpenReq) (s : State) : OpenCheck :=
  if !(s.sheet.phase = .none || (s.sheet.phase = .faulted && s.sheet.abort.isNone)) then .refused .badState
  else if s.media.content = .fault then .refused .pathFault
  else if autoSwitching s then .waits
  else
    match threadedSlot s.media with
    | none => .refused .noMedia
    | some slot =>
      if q.length < threadedMargin s then .refused .badField
      else if (s.media.rolls.get slot).remaining.any (· < q.length) then .shortRoll
      else openInkCheck q s

/-- SHEET_OPEN on a roll too short (R48). -/
def openShort (q : OpenReq) (w : Work) : Work :=
  if w.sheet.phase = .none then
    match shortSwitch w.toState q.length with
    | some r => trySwitch (modMedia (fun m => { m with switch := some r }) (waitReply w))
    | none => refuse .shortRoll w
  else refuse .shortRoll w

/-- SHEET_OPEN that passes Table 3-3 (R49, R50). -/
def openTaken (q : OpenReq) (w : Work) : Work :=
  if w.sheet.phase = .none then
    if takeGranted w.toState then beginSheet q (setOwner .sheet (started 0 w)) else waitReply w
  else abortGoesOn (discardWaiting (modSheet (fun x => { x with abort := some (.within q) }) (started 0 w)))

/-- SHEET_OPEN (R46 to R50). -/
def sheetOpen (tag length chans cls : Nat) (w : Work) : Work :=
  match openFields tag length chans cls with
  | none => refuse .badField w
  | some q =>
    match openCheck q w.toState with
    | .refused c => refuse c w
    | .waits => waitReply w
    | .shortRoll => openShort q w
    | .passes => openTaken q w

/-- Steps 1 to 5 of R53. -/
def swathRefusal (s : State) (advance : Nat) (printed spit : Chans Nat) : Option Code :=
  if s.media.content = .fault then some .pathFault
  else if s.sheet.phase = .faulted then some .sheetFaulted
  else if !(s.sheet.phase = .opening || s.sheet.phase = .swathing) || s.sheet.close.isSome || s.sheet.abort.isSome then
    some .badState
  else if Config.maxAdvance < advance || outsideSet s printed spit then some .badField
  else if Config.swathSlots ≤ s.sheet.queue.length then some .queueFull
  else none

/-- SWATH (R53 to R55). The sheet unit looks at the head after the changes that the debits give have acted (R54). -/
def swath (tag advance : Nat) (printed spit : Chans Nat) (w : Work) : Work :=
  match swathRefusal w.toState advance printed spit with
  | some reason => refuse reason w
  | none =>
    if w.sheet.length < w.sheet.committed + advance then faultNow .overrun (refuse .overrun w)
    else
      let x := takeDrops printed spit w
      let w := modSheet
        (fun s => { s with queue := s.queue ++ [⟨tag, advance, x.1, false⟩], committed := s.committed + advance }) x.2
      post .sheetLook (answerWith .queued .ok (u8 (freeSwaths w.toState)) 0 w)

/-- SHEET_CLOSE's checks (R60). -/
def closeRefusal (s : State) (printed spit : Chans Nat) : Option Code :=
  if s.media.content = .fault then some .pathFault
  else if s.sheet.phase ≠ .swathing || s.sheet.close.isSome || s.sheet.abort.isSome then some .badState
  else if outsideSet s printed spit then some .badField
  else none

/-- SHEET_CLOSE (R60). -/
def sheetClose (tag : Nat) (printed spit : Chans Nat) (w : Work) : Work :=
  match closeRefusal w.toState printed spit with
  | some reason => refuse reason w
  | none =>
    let x := takeDrops printed spit w
    post .sheetLook (modSheet (fun s => { s with close := some ⟨tag, x.1⟩ }) (started 0 x.2))

/-- SHEET_ABORT's checks (R68). -/
def abortRefusal (s : State) (printed spit : Chans Nat) : Option Code :=
  if s.media.content = .fault then some .pathFault
  else if s.sheet.phase = .none || s.sheet.phase = .cutting || s.sheet.phase = .ejecting || s.sheet.abort.isSome then
    some .badState
  else if outsideSet s printed spit then some .badField
  else none

/-- An accepted abort ends the open and the close under way (R68). -/
def endAborted (w : Work) : Work :=
  let x := w.sheet
  let w := modSheet (fun x => { x with openTag := none, close := none }) w
  let w := match x.openTag with
    | some tag => openFailed tag .aborted w
    | none => w
  match x.close with
  | some c => cutDone kindSheetClose c.tag .aborted w
  | none => w

/-- SHEET_ABORT (R68, R69). -/
def sheetAbort (tag : Nat) (printed spit : Chans Nat) (w : Work) : Work :=
  match abortRefusal w.toState printed spit with
  | some reason => refuse reason w
  | none =>
    let x := takeDrops printed spit w
    let w := modSheet (fun s => { s with abort := some (.tagged tag) }) (started 0 x.2)
    abortGoesOn (endAborted (discardWaiting w))

/-- Mechanism reset (R70). -/
def resetSheet (w : Work) : Work := modSheet (fun _ => Sheet.none) w

end Sys2Proof.Machine
end

