-- ==== Sys2Proof/Machine/Check.lean ====
section
/-! DEFINITION. The nozzle check unit (Chapter 8): calibration, the pattern and its scan, mask windows, the health table, verdicts
and escalation, recovery rounds and the end of a check. -/

namespace Sys2Proof.Machine

open Sys2Proof

/-! ## Records -/

def modChecker (f : Checker → Checker) (w : Work) : Work := { w with checker := f w.checker }

def modCheck (f : Check → Check) (w : Work) : Work := modChecker (fun x => { x with check := x.check.map f }) w

def setHealth (h : Head) (r : Row) (x : HealthRow) (w : Work) : Work :=
  modChecker (fun c => { c with health := c.health.set h ((c.health.get h).set r x) }) w

/-- Adds to a row's places in the check record's lists (R162). -/
def setNote (h : Head) (r : Row) (f : RowNote → RowNote) (w : Work) : Work :=
  modCheck (fun c => { c with rows := c.rows.set h ((c.rows.get h).set r (f ((c.rows.get h).get r))) }) w

/-- The first fault of a check; a later one does not change it. -/
def noteFault (reason : Code) (w : Work) : Work := modCheck (fun c => { c with fault := some (c.fault.getD reason) }) w

/-- A head's escalation state, with its SERVICE_EVENT when it changes (R165). -/
def setEscalation (h : Head) (e : Escalation) (w : Work) : Work :=
  let old := w.checker.escalation.get h
  if e = old then w
  else event .service 4 (u8 h.num ++ u8 old.num ++ u8 e.num)
    (modChecker (fun c => { c with escalation := c.escalation.set h e }) w)

/-! ## Classifying a row (R159 to R161) -/

/-- Why a row's frame is not usable (R159, Table 8-3). -/
def frameVoid (tw ts : Nat) (samples : List Nat) : Option Code :=
  let gap := (samples.drop (Config.leadInSamples + Config.nozzles)).take Config.gapSamples
  let bar := (samples.drop (Config.leadInSamples + Config.nozzles + Config.gapSamples)).head?.getD 0
  if (samples.take Config.leadInSamples).any (tw ≤ ·) then some .background
  else if gap.any (tw ≤ ·) || bar < ts then some .framing
  else none

/-- A window matches a nozzle: they agree in every bit whose ignore bit is 0 (R161). -/
def windowMatches (x : MaskWindow) (n : Nat) : Bool := ((n ^^^ x.base) ||| x.ignore) == x.ignore

/-- Some enabled window of a kind matches a nozzle of a head's row (R161). -/
def windowed (ws : List MaskWindow) (kind : MaskKind) (h : Head) (r : Row) (n : Nat) : Bool :=
  ws.any (fun x => x.enabled && x.kind = kind && x.head = h && x.row = r && windowMatches x n)

/-- The state a slot sample gives (R160). -/
def sampleState (tw ts s : Nat) : NozzleState := if ts ≤ s then .good else if tw ≤ s then .weak else .out

/-- The state of one nozzle (R160, R161): FORCE wins over MASK. -/
def nozzleState (ws : List MaskWindow) (h : Head) (r : Row) (tw ts n s : Nat) : NozzleState :=
  if windowed ws .force h r n then sampleState tw ts s
  else if windowed ws .mask h r n then .masked
  else sampleState tw ts s

/-- The states of a row's nozzles from its slot samples, from nozzle `n` on. -/
def classifyFrom (ws : List MaskWindow) (h : Head) (r : Row) (tw ts : Nat) : Nat → List Nat → List NozzleState
  | _, [] => []
  | n, s :: rest => nozzleState ws h r tw ts n s :: classifyFrom ws h r tw ts (n + 1) rest

/-- The states of a row's 1,024 nozzles (R160). -/
def classify (ws : List MaskWindow) (h : Head) (r : Row) (tw ts : Nat) (samples : List Nat) : List NozzleState :=
  classifyFrom ws h r tw ts 0 ((samples.drop Config.leadInSamples).take Config.nozzles)

def countState (l : List NozzleState) (s : NozzleState) : Nat := (l.filter (fun x => x = s)).length

/-- The counts of a row (Table 8-4). -/
def countsOf (l : List NozzleState) : Counts :=
  ⟨countState l .unchecked, countState l .good, countState l .weak, countState l .out, countState l .masked⟩

/-! ## Evaluating and voiding (R162) -/

/-- A row that has been read well (R162). -/
def evaluatedRow (nozzles : List NozzleState) (x : HealthRow) : HealthRow :=
  { status := .valid, nozzles := nozzles, counts := countsOf nozzles, checks := min Config.maxCheckCount (x.checks + 1) }

/-- A row that is void keeps its states and counts (R162). -/
def voidedRow (x : HealthRow) : HealthRow := { x with status := if x.status = .unchecked then .unchecked else .stale }

def healthRow (s : State) (h : Head) (r : Row) : HealthRow := (s.checker.health.get h).get r

def voidRow (h : Head) (r : Row) (reason : Code) (w : Work) : Work :=
  setNote h r (fun n => { n with voided := some reason }) (setHealth h r (voidedRow (healthRow w.toState h r)) w)

/-- Evaluates the samples of a pass that was done (R159 to R162). -/
def evaluateRow (c : Check) (h : Head) (r : Row) (samples : List Nat) (w : Work) : Work :=
  match frameVoid c.tw c.ts samples with
  | some reason => voidRow h r reason w
  | none =>
    let x := evaluatedRow (classify w.checker.windows h r c.tw c.ts samples) (healthRow w.toState h r)
    setNote h r (fun n => { n with valid := some x.counts }) (setHealth h r x w)

/-- A row of a scan: evaluated when its pass was done, voided when it only started (R158). -/
def settleRow (c : Check) (h : Head) (r : Row) (startedPass : Bool) (done : Option (List Nat)) (w : Work) : Work :=
  match done with
  | some samples => evaluateRow c h r samples w
  | none => if startedPass then voidRow h r .capFault w else w

/-- What a scan makes of its two rows, row 0 first (R158). -/
def settleScan (c : Check) (h : Head) (m : CarMove) (w : Work) : Work :=
  settleRow c h .r1 m.scan.done0.isSome m.scan.done1 (settleRow c h .r0 m.acted m.scan.done0 w)

/-! ## The verdict (R164, R165) -/

inductive Verdict where
  | pass | fail | none
  deriving DecidableEq, Repr

/-- A VALID row fails (R164). -/
def rowFails (c : Check) (n : Counts) : Bool := c.outTol < n.out || c.weakTol < n.weak

/-- The counts of the rows that a scan has made VALID: those whose pass was done and which are VALID once it is settled. -/
def validCounts (x : Rows HealthRow) (m : CarMove) : List Counts :=
  let pick (done : Option (List Nat)) (row : HealthRow) : List Counts :=
    if done.isSome && row.status = .valid then [row.counts] else []
  pick m.scan.done0 x.r0 ++ pick m.scan.done1 x.r1

/-- The verdict of a scan (R164). -/
def verdictOf (c : Check) (rows : List Counts) : Verdict :=
  if rows.any (rowFails c) then .fail else if rows.isEmpty then .none else .pass

/-- What a verdict does: a state, or a recovery round to be asked (Table 8-6). -/
inductive Ruling where
  | becomes (e : Escalation)
  | round (n : Nat)
  deriving DecidableEq, Repr

/-- A failing verdict for which no round is possible (Table 8-6). -/
def noRound : Escalation → Escalation
  | .ok | .attention => .attention
  | .round1 => .round1
  | .round2 => .round2
  | .round3 | .degraded => .degraded

/-- Table 8-6. -/
def ruling (e : Escalation) (v : Verdict) (autoRecover possible : Bool) : Ruling :=
  match v with
  | .pass => .becomes .ok
  | .none => .becomes e
  | .fail =>
    if e = .degraded then .becomes .degraded
    else if !autoRecover then .becomes .attention
    else if !possible then .becomes (noRound e)
    else
      match e with
      | .ok | .attention => .round 1
      | .round1 => .round 2
      | .round2 => .round 3
      | .round3 | .degraded => .becomes .degraded

def roundState (n : Nat) : Escalation := if n = 1 then .round1 else if n = 2 then .round2 else .round3

/-- A round is possible (R164). -/
def roundPossible (c : Check) (s : State) : Bool :=
  c.fault.isNone && !c.rollEnded
    && ((threadedSlot s.media).bind (fun x => (s.media.rolls.get x).remaining)).all (Config.roundLength ≤ ·)

/-! ## The end of a check (R168, R169) -/

/-- One row of the OP_DONE (Table 11-5): the status it was left in, the void reason where there is one, its counts (R168). -/
def rowItems (s : State) (h : Head) (r : Row) (n : RowNote) : List Byte :=
  let x := healthRow s h r
  let k := n.valid.getD x.counts
  if n.valid.isNone && n.voided.isNone then u8 0 ++ absent 12
  else
    u8 1 ++ u8 x.status.num ++ optCode n.voided ++ u16 k.unchecked ++ u16 k.good ++ u16 k.weak ++ u16 k.out ++ u16 k.masked

/-- One head of the OP_DONE; a head outside the mask carries the absent patterns. -/
def headItems (s : State) (c : Check) (h : Head) : List Byte :=
  if c.mask.get h then u8 (s.checker.escalation.get h).num ++ u8 (c.rounds.get h) else absent 2

/-- The cut result of the OP_DONE: CUT 0, CUTTER_JAM 1, NONE 2 (Table 11-5). -/
def cutResultNum : Option Code → Nat
  | some .ok => 0
  | some _ => 1
  | none => 2

/-- The detail block of a NOZZLE_CHECK's OP_DONE (Table 11-5). -/
def checkDetail (s : State) (c : Check) : List Byte :=
  o32 c.failSeen ++ o16 s.checker.calibOn ++ o16 s.checker.calibOff
    ++ allHeads.flatMap (fun h => rowItems s h .r0 (c.rows.get h).r0 ++ rowItems s h .r1 (c.rows.get h).r1)
    ++ allHeads.flatMap (headItems s c) ++ u32 c.fed ++ c.ink.toList.flatMap u32 ++ u8 (cutResultNum c.cutResult)

/-- The outcome of a check: the first fault, NO_MEDIA after a roll end, or OK (R167, R168). -/
def checkOutcome (c : Check) : Code := c.fault.getD (if c.rollEnded then .noMedia else .ok)

/-- Steps 3 to 5 of R168. -/
def finishCheck (w : Work) : Work :=
  match w.checker.check with
  | some c =>
    let w := releasePath .check (setCheckClaim false w)
    modChecker (fun x => { x with check := none })
      (opDone kindCheck c.tag (checkOutcome c) (checkDetail w.toState c) w)
  | none => w

/-- Step 2 of R168. A roll end reported by then is the first fault unless one stands (R167). -/
def checkCut (w : Work) : Work :=
  match w.checker.check with
  | some c =>
    let w := when c.rollEnded (noteFault .noMedia) w
    if 0 < c.fed && (!c.rollEnded || c.stripMade) && !cutRefused .check w.toState then
      requestCut .check .scrap (modCheck (fun c => { c with step := .cut }) w)
    else finishCheck w
  | none => w

def checkMove (purpose : Purpose) (a : Nat) (w : Work) : Work := askMove ⟨.check, .check, true, a, purpose⟩ w

/-- The first faults after which no strip is made (R168 step 1). -/
def stopsStrip : Code → Bool
  | .sensorFault | .feedStall | .feedTimeout | .slip => true
  | _ => false

/-- Step 1 of R168: the check ends. -/
def endCheck (w : Work) : Work :=
  match w.checker.check with
  | some c =>
    if 0 < c.fed && !c.rollEnded && !c.fault.any stopsStrip then
      checkMove .strip Config.printToCutter (modCheck (fun c => { c with step := .strip, stripMade := true, round := none }) w)
    else checkCut (modCheck (fun c => { c with round := none }) w)
  | none => w

/-- The check goes on, unless a roll end has been reported (R167). -/
def unlessRollEnded (f : Work → Work) (w : Work) : Work :=
  match w.checker.check with
  | some c => if c.rollEnded then endCheck (noteFault .noMedia w) else f w
  | none => w

/-! ## The steps (R156 to R158, R166) -/

def checkLead (w : Work) : Work := checkMove .checkLead Config.checkLead (modCheck (fun c => { c with step := .lead }) w)

def checkPattern (w : Work) : Work :=
  checkMove .checkPattern Config.checkPattern (modCheck (fun c => { c with step := .pattern }) w)

/-- The scan is asked; one refused as busy is asked again when a carriage move ends (R158). -/
def askScan (w : Work) : Work :=
  match w.checker.check with
  | some c =>
    if carMoveBusy w.toState then modCheck (fun c => { c with step := .scan, scanAgain := true }) w
    else askCarMove .check (.checkScan c.head) (modCheck (fun c => { c with step := .scan, scanAgain := false }) w)
  | none => w

/-- The head is done: the next head of the mask, or the end (R165). -/
def headDone (w : Work) : Work :=
  match w.checker.check with
  | some c =>
    match c.mask.members.filter (fun h => c.head.num < h.num) with
    | h :: _ =>
      unlessRollEnded checkPattern (modCheck (fun c => { c with head := h, round := none }) w)
    | [] => unlessRollEnded endCheck (modCheck (fun c => { c with round := none }) w)
  | none => w

/-- A recovery round is asked (R166). -/
def askRound (n : Nat) (w : Work) : Work :=
  match w.checker.check with
  | some c =>
    let mask : Heads Bool := (Heads.all false).set c.head true
    let w := modCheck (fun c => { c with round := some n, step := .round }) w
    match serviceRefusal true mask n w.toState with
    | some reason =>
      endCheck (noteFault reason (setEscalation c.head (noRound (w.checker.escalation.get c.head)) w))
    | none =>
      let w := setEscalation c.head (roundState n) w
      takeService .check mask n (modCheck (fun c => { c with rounds := c.rounds.set c.head (c.rounds.get c.head + 1) }) w)
  | none => w

/-- The head's verdict is applied (R164, R165); a check that ends on a fault skips the rest. -/
def judgeHead (m : CarMove) (w : Work) : Work :=
  match w.checker.check with
  | some c =>
    let v := verdictOf c (validCounts (w.checker.health.get c.head) m)
    match ruling (w.checker.escalation.get c.head) v c.autoRecover (roundPossible c w.toState) with
    | .becomes e =>
      let w := setEscalation c.head e w
      if c.fault.isSome then endCheck w else headDone w
    | .round n => askRound n w
  | none => w

/-- The calibration has its readings (R156). DESIGN CHOICE (log entry 49): a reading that does not arrive ends it at once, a
first reading that is too dark only after the second. -/
def calibrated (on' off : Option Nat) (w : Work) : Work :=
  let w := modChecker (fun x => { x with calibOn := on', calibOff := off }) w
  match on', off with
  | some a, some b =>
    if a ≤ Config.calibWhite && Config.calibDark ≤ b then unlessRollEnded checkLead w
    else endCheck (noteFault .sensorFault w)
  | _, _ => endCheck (noteFault .sensorFault w)

/-! ## What the nozzle check unit hears -/

/-- A reading of the carriage sensor: a calibration reading, or one of a carriage move (R128, R156, R158). -/
def carriageReading (d : Nat) (w : Work) : Work :=
  match w.checker.check with
  | some c =>
    match c.step with
    | .calibOn _ => modCheck (fun c => { c with readOn := some d, step := .calibOff w.now }) w
    | .calibOff _ => calibrated c.readOn (some d) w
    | .lead | .pattern | .scan | .round | .strip | .cut => scanReading d w
  | none => scanReading d w

/-- A calibration reading has not arrived within 100 ms (R156). -/
def calibrationTimeout (w : Work) : Work :=
  match w.checker.check with
  | some c =>
    match c.step with
    | .calibOn asked => if reached (asked + Config.calibrationTime) w.now then calibrated none none w else w
    | .calibOff asked => if reached (asked + Config.calibrationTime) w.now then calibrated c.readOn none w else w
    | .lead | .pattern | .scan | .round | .strip | .cut => w
  | none => w

/-- A move of the check has ended (R157, R168). -/
def checkMoveEnded (r : MoveReport) (w : Work) : Work :=
  match w.checker.check with
  | some c =>
    let w := modCheck (fun c => { c with fed := c.fed + r.travel }) w
    let w :=
      if r.outcome.isFault then
        noteFault r.outcome.code (when c.fault.isNone (modCheck (fun c => { c with failSeen := some r.seen })) w)
      else w
    match r.ask.purpose with
    | .checkLead => if r.outcome.isFault then endCheck w else unlessRollEnded checkPattern w
    | .checkPattern => if r.outcome.isFault then endCheck w else unlessRollEnded askScan w
    | .strip => checkCut w
    | .leadingMargin | .swath | .tail | .edgeSearch | .leadTrim | .rewind | .ejection => w
  | none => w

/-- A check pass has started: its debit (R158). -/
def onPassStarted (h : Head) (r : Row) (w : Work) : Work :=
  let ch := h.chan r
  let d := debitDrops .printed ch Config.ladderDrops w
  modCheck (fun c => { c with ink := c.ink.set ch (c.ink.get ch + d.1) }) d.2

/-- A scan of the check has ended (R158). -/
def checkCarMoveEnded (m : CarMove) (outcome : Code) (w : Work) : Work :=
  match w.checker.check with
  | some c =>
    if c.step ≠ .scan then w
    else if outcome = .carriageNotParked then endCheck (noteFault .carriageNotParked w)
    else
      let w := settleScan c c.head m w
      judgeHead m (when (outcome ≠ .ok) (noteFault outcome) w)
  | none => w

/-- A carriage move has ended: a scan refused as busy is asked again (R158). -/
def checkAskAgain (w : Work) : Work :=
  match w.checker.check with
  | some c => if c.step = .scan && c.scanAgain then askScan w else w
  | none => w

/-- The recovery service has ended (R166): its outcome decides; a service of one head that ended OK has completed that head. -/
def onServiceEnded (r : ServiceReport) (w : Work) : Work :=
  match w.checker.check with
  | some c =>
    if c.step ≠ .round then w
    else if r.outcome = .ok then unlessRollEnded checkLead w
    else endCheck (noteFault r.outcome w)
  | none => w

/-- The check's cut has ended (R168, R169). -/
def checkCutEnded (jam : Bool) (w : Work) : Work :=
  match w.checker.check with
  | some c =>
    if c.step ≠ .cut then w
    else if jam then finishCheck (noteFault .cutterJam (modCheck (fun c => { c with cutResult := some .cutterJam }) w))
    else finishCheck (modCheck (fun c => { c with cutResult := some .ok }) w)
  | none => w

/-- The threaded roll has ended (R167). -/
def checkRollEnded (w : Work) : Work := modCheck (fun c => { c with rollEnded := true }) w

/-! ## Requests (R154, R155, R161, R163) -/

/-- NOZZLE_CHECK's state checks (R154). -/
def checkRefusal (mask : Heads Bool) (s : State) : Option Code :=
  if s.media.content = .fault then some .pathFault
  else if s.sheet.phase ≠ .none then some .badState
  else if s.media.owner ≠ .idle || s.media.ejecting.isSome || s.media.switch.isSome || s.station.car.claims.any then
    some .busy
  else
    match threadedSlot s.media with
    | none => some .noMedia
    | some slot =>
      let need := Config.checkLead + Config.checkPattern * mask.members.length + Config.printToCutter
      if s.media.content = .dirty then some .badState
      else if (s.media.rolls.get slot).remaining.any (· < need) then some .shortRoll
      else if !parked s then some .carriageNotParked
      else if allChans.any (fun ch => mask.get ch.head && (chanRec s ch).dry) then some .noInk
      else none

/-- The check record as it is made (R155). -/
def newCheck (tag : Nat) (mask : Heads Bool) (h : Head) (s : State) : Check where
  tag := tag
  mask := mask
  tw := s.conf.tw
  ts := s.conf.ts
  outTol := s.conf.outTol
  weakTol := s.conf.weakTol
  autoRecover := s.conf.autoRecover
  head := h
  round := none
  step := .calibOn s.now
  fed := 0
  rows := Heads.all (Rows.all ⟨none, none⟩)
  ink := Chans.all 0
  fault := none
  failSeen := none
  rollEnded := false
  rounds := Heads.all 0
  readOn := none
  scanAgain := false
  stripMade := false
  cutResult := none

/-- NOZZLE_CHECK (R154, R155). -/
def nozzleCheck (tag heads : Nat) (w : Work) : Work :=
  match headSetOf heads with
  | none => refuse .badField w
  | some mask =>
    match mask.members with
    | [] => refuse .badField w
    | h :: _ =>
      match checkRefusal mask w.toState with
      | some reason => refuse reason w
      | none =>
        let w := setCheckClaim true (setOwner .check (started heads w))
        modChecker (fun x => { x with check := some (newCheck tag mask h w.toState) }) w

/-- MASK_SET (R161). -/
def maskSet (index : Nat) (f : MaskFields) (w : Work) : Work :=
  match boolOf f.enabled, (match f.kind with | 0 => some MaskKind.mask | 1 => some .force | _ => none),
      Head.ofNum f.head, Row.ofNum f.row with
  | some enabled, some kind, some h, some r =>
    if 15 < index || 1023 < f.base || 1023 < f.ignore then refuse .badField w
    else
      okWith [] (modChecker (fun x => { x with windows := x.windows.set index ⟨enabled, kind, h, r, f.base, f.ignore⟩ }) w)
  | _, _, _, _ => refuse .badField w

/-- The nozzles from `n` on, at or above `start`, whose state is other than GOOD. -/
def notGood (start : Nat) : Nat → List NozzleState → List (Nat × NozzleState)
  | _, [] => []
  | n, x :: rest => if start ≤ n && x ≠ .good then (n, x) :: notGood start (n + 1) rest else notGood start (n + 1) rest

/-- The next start of a reply that lists the first 60 of `l` (R163). -/
def nextStart (l : List (Nat × NozzleState)) : Option Nat :=
  if Config.healthPairs < l.length then ((l.take Config.healthPairs).getLast?).map (fun x => x.1 + 1) else none

/-- The items of a HEALTH_READ reply (Table 11-4). -/
def healthItems (x : HealthRow) (start : Nat) : List Byte :=
  let l := notGood start 0 x.nozzles
  let page := l.take Config.healthPairs
  u8 x.status.num ++ u16 x.counts.unchecked ++ u16 x.counts.good ++ u16 x.counts.weak ++ u16 x.counts.out
    ++ u16 x.counts.masked ++ u16 x.checks ++ u8 page.length ++ o16 (nextStart l)
    ++ page.flatMap (fun p => u16 p.1 ++ u8 p.2.num)

/-- HEALTH_READ (R163). -/
def healthRead (head row start : Nat) (w : Work) : Work :=
  match Head.ofNum head, Row.ofNum row with
  | some h, some r =>
    if 1023 < start then refuse .badField w else okWith (healthItems (healthRow w.toState h r) start) w
  | _, _ => refuse .badField w

/-! ## Reset (R170) -/

/-- A row whose pass in the scan in flight had started is voided. -/
def resetRow (h : Head) (r : Row) (startedPass : Bool) (w : Work) : Work :=
  when startedPass (setHealth h r (voidedRow (healthRow w.toState h r))) w

/-- Mechanism reset; the scan in flight is still in the carriage record. -/
def resetChecker (w : Work) : Work :=
  let w :=
    match w.station.car.move with
    | some m =>
      match m.kind with
      | .checkScan h => resetRow h .r1 m.scan.done0.isSome (resetRow h .r0 m.acted w)
      | .wipe | .widthScan => w
    | none => w
  modChecker (fun x => { x with check := none }) w

end Sys2Proof.Machine
end

