-- ==== Sys2Proof/Machine/Status.lean ====
section
/-! DEFINITION. Status, settings and start-up (Chapter 10): the READY summary, STATUS_READ, SUPPLY_READ, the configuration, the
factory store's check, the power-on sequence and the mechanism reset. -/

namespace Sys2Proof.Machine

open Sys2Proof

/-! ## READY (R182) -/

/-- The twelve bay states, bay A before bay B of each channel (R190). -/
def bayStates (u : Supply) : List Byte :=
  allChans.flatMap (fun ch => u8 (u.bays.get ch).a.state.num ++ u8 (u.bays.get ch).b.state.num)

def supplyStates (u : Supply) : List Byte := allChans.flatMap (fun ch => u8 (supplyNum (u.supplied.get ch)))

/-- C_w, then W; both absent without a tank (R131, R182). -/
def wasteCW (x : Waste) : List Byte := o32 (x.tank.map WasteRec.capacity) ++ o32 (x.tank.map WasteRec.w)

/-- W, then C_w (R183). -/
def wasteWC (x : Waste) : List Byte := o32 (x.tank.map WasteRec.w) ++ o32 (x.tank.map WasteRec.capacity)

/-- The summary of the mechanism that READY carries (R182). -/
def readyItems (s : State) : List Byte :=
  bayStates s.supply ++ supplyStates s.supply ++ u8 s.supply.tank.state.num ++ wasteCW s.station.waste
    ++ u8 s.media.rolls.s1.state.num ++ u8 s.media.rolls.s2.state.num ++ u8 s.station.car.state.num ++ u32 s.feed.k

/-- No start-up read remains on the module bus (R182). -/
def startUpDone (s : State) : Bool := !s.supply.bus.any BusOp.startUp

/-- READY is sent when no start-up read remains (R182). -/
def lookReady (w : Work) : Work :=
  if w.phase = .starting && startUpDone w.toState then give (.ready (readyItems w.toState)) { w with phase := .ready } else w

/-! ## STATUS_READ (R183, Table 10-1; log entry 12 for the layout) -/

/-- Sheet state, fault reason, committed and declared length (absent without a sheet), swath queue entries. -/
def sheetStatus (x : Sheet) : List Byte :=
  u8 x.phase.num ++ optCode (if x.phase = .faulted then x.fault else none)
    ++ (if x.phase = .none then absent 8 else u32 x.committed ++ u32 x.length) ++ u8 x.queue.length

def rollStatus (r : Roll) : List Byte := u8 r.state.num ++ o8 r.profile ++ o32 r.remaining ++ optCode r.fault

/-- Owner, content, ejection pending, the slot a pending switch names, then both rolls. -/
def mediaStatus (m : Media) : List Byte :=
  u8 m.owner.num ++ u8 m.content.num ++ flag m.ejecting.isSome ++ optSlot (m.switch.map SwitchRec.slot)
    ++ rollStatus m.rolls.s1 ++ rollStatus m.rolls.s2

def carriageStatus (c : Carriage) : List Byte := u8 c.state.num ++ u8 c.hold.num ++ u8 c.claims.num

def chanStatus (s : State) (ch : Chan) : List Byte :=
  let c := chanRec s ch
  u8 (supplyNum (s.supply.supplied.get ch)) ++ u32 c.e ++ flag c.hold ++ flag c.dry ++ flag c.suspect
    ++ flag (s.station.wet.get ch).spitDue ++ u32 (wetClock s ch)

def headStatus (s : State) (h : Head) : List Byte := flag (s.station.cleanDue.get h) ++ u8 (s.checker.escalation.get h).num

/-- W and C_w, the waste level, the overflow tally, the tank state. -/
def wasteStatus (s : State) : List Byte :=
  wasteWC s.station.waste ++ u8 s.station.waste.level.num ++ u64 s.station.waste.overflow ++ u8 s.supply.tank.state.num

/-- The channel and kind of the pump's operation, absent while idle, and the channels with an entry. -/
def pumpStatus (p : Pump) : List Byte :=
  let has (ch : Chan) : Bool := (entryOf p ch).isSome
  o8 (p.op.map (fun o => o.chan.num)) ++ o8 (p.op.map (fun o => o.kind.num))
    ++ u8 (chanByte ⟨has .c0, has .c1, has .c2, has .c3, has .c4, has .c5⟩)

/-- The STATUS_READ record (Table 10-1). -/
def statusItems (s : State) : List Byte :=
  u8 s.phase.num ++ sheetStatus s.sheet ++ mediaStatus s.media ++ carriageStatus s.station.car
    ++ allChans.flatMap (chanStatus s) ++ allHeads.flatMap (headStatus s) ++ wasteStatus s
    ++ u8 s.media.stack ++ u8 s.conf.stackLimit ++ pumpStatus s.pump
    ++ s32 s.feed.sHost ++ s32 s.feed.sTrack ++ u16 s.link.errors ++ u8 s.link.table.length

/-- STATUS_READ (R183). -/
def statusRead (w : Work) : Work := okWith (statusItems w.toState) w

/-! ## SUPPLY_READ (R184; log entry 12 for the layout) -/

/-- The cartridge record of a bay, with its checksum (Table 4-3); absent without one. -/
def cartItems : Option Cart → List Byte
  | some c => cartBody c ++ [checksum (cartBody c)]
  | none => absent 19

/-- A bay record (Table 4-1), named by its channel and letter. DESIGN CHOICE (log entry 12): the write attempts take one byte. -/
def bayItemsFull (b : Bay) (r : BayRec) : List Byte :=
  bayBytes b ++ u8 r.state.num ++ cartItems r.cart ++ o8 r.entry ++ optCode r.fault ++ u8 r.attempts ++ flag r.charged

/-- The pump state of a channel: 0 no request, 1 an entry, 2 the operation in flight. -/
def pumpItems (s : State) (ch : Chan) : List Byte :=
  match s.pump.op.filter (fun o => o.chan = ch), entryOf s.pump ch with
  | some o, _ => u8 2 ++ u8 o.kind.num ++ u16 o.count ++ u16 o.limit
  | none, some r => u8 1 ++ u8 r.kind.num ++ u8 r.number ++ u32 (waitOf s r)
  | none, none => u8 0

/-- The items of a SUPPLY_READ reply (R184). DESIGN CHOICE (log entry 12): a set flag and an active float are 1. -/
def supplyItems (s : State) (ch : Chan) : List Byte :=
  let p := s.supply.params.get ch
  let c := chanRec s ch
  bayItemsFull ⟨ch, .a⟩ (bayRec s.supply ⟨ch, .a⟩) ++ bayItemsFull ⟨ch, .b⟩ (bayRec s.supply ⟨ch, .b⟩)
    ++ u8 (supplyNum (s.supply.supplied.get ch)) ++ u16 p.drop ++ u16 p.purge ++ u32 p.keepWet ++ u16 p.settle
    ++ u32 c.e ++ u32 c.e0 ++ u64 c.drawn ++ u64 c.printed ++ u64 c.serviced ++ s64 c.reconcile ++ u16 c.residue
    ++ flag c.hold ++ flag c.dry ++ flag c.suspect ++ flag c.full ++ flag c.low ++ u32 (stirTimer s ch) ++ pumpItems s ch

/-- SUPPLY_READ (R184). -/
def supplyRead (chan : Nat) (w : Work) : Work :=
  match Chan.ofNum chan with
  | some ch => okWith (supplyItems w.toState ch) w
  | none => refuse .badField w

/-! ## The configuration (R185, R186, Table 10-2) -/

/-- CONFIG_READ (R186, R190). -/
def configRead (w : Work) : Work :=
  let c := w.conf
  let on' (b : Bool) : List Byte := s32 (if b then 1 else 0)
  let n (v : Nat) : List Byte := s32 v
  okWith
    (on' c.autoRoll ++ on' c.autoRecover ++ on' c.degradedAllowed ++ n c.autoCap ++ n c.stackLimit ++ n c.tw ++ n c.ts
      ++ n c.outTol ++ n c.weakTol ++ n c.nPrePurge ++ n c.nTopUp ++ n c.nRefill ++ n c.nStir ++ s32 w.feed.sHost) w

/-- The reply to a CONFIG_SET: identifier, value applied, the clamped flag (R185). -/
def configReply (ident : Nat) (applied value : Int) (w : Work) : Work :=
  okWith (u8 ident ++ s32 applied ++ flag (applied ≠ value)) w

/-- A parameter with a range takes its clamped value. -/
def setNumber (ident lo hi : Nat) (value : Int) (store : Conf → Nat → Conf) (w : Work) : Work :=
  let v := clampInt lo hi value
  configReply ident v value { w with conf := store w.conf v.toNat }

/-- An on/off parameter. -/
def setSwitch (ident : Nat) (value : Int) (store : Conf → Bool → Conf) (w : Work) : Work :=
  if value = 0 then configReply ident 0 value { w with conf := store w.conf false }
  else if value = 1 then configReply ident 1 value { w with conf := store w.conf true }
  else refuse .badField w

/-- CONFIG_SET of Tw, which may raise Ts (R185). -/
def setTw (ident : Nat) (value : Int) (w : Work) : Work :=
  let v := clampInt 20 200 value
  let tw := v.toNat
  if w.conf.ts < tw + 10 then
    okWith (u8 ident ++ s32 v ++ flag (v ≠ value) ++ s32 ((tw + 10 : Nat) : Int) ++ flag true)
      { w with conf := { w.conf with tw := tw, ts := tw + 10 } }
  else configReply ident v value { w with conf := { w.conf with tw := tw } }

/-- AUTO_ROLL turned off removes the pending switch (R36, R185). -/
def afterAutoRoll (w : Work) : Work := when (!w.conf.autoRoll) (modMedia (fun m => { m with switch := none })) w

/-- A stack limit raised above the stack count makes room (R42, R185). -/
def afterStackLimit (old : Nat) (w : Work) : Work :=
  when (old ≤ w.media.stack && w.media.stack < w.conf.stackLimit) (post .roomAppeared) w

/-- CONFIG_SET (R185). -/
def configSet (ident : Nat) (value : Int) (w : Work) : Work :=
  match ident with
  | 1 => afterAutoRoll (setSwitch 1 value (fun c b => { c with autoRoll := b }) w)
  | 2 => setSwitch 2 value (fun c b => { c with autoRecover := b }) w
  | 3 => setSwitch 3 value (fun c b => { c with degradedAllowed := b }) w
  | 4 => autoCap (setNumber 4 5000 600000 value (fun c v => { c with autoCap := v }) w)
  | 5 => afterStackLimit w.conf.stackLimit (setNumber 5 1 200 value (fun c v => { c with stackLimit := v }) w)
  | 6 => setTw 6 value w
  | 7 => setNumber 7 (w.conf.tw + 10) 250 value (fun c v => { c with ts := v }) w
  | 8 => setNumber 8 0 64 value (fun c v => { c with outTol := v }) w
  | 9 => setNumber 9 0 256 value (fun c v => { c with weakTol := v }) w
  | 10 => setNumber 10 0 15 value (fun c v => { c with nPrePurge := v }) w
  | 11 => setNumber 11 0 15 value (fun c v => { c with nTopUp := v }) w
  | 12 => setNumber 12 0 15 value (fun c v => { c with nRefill := v }) w
  | 13 => setNumber 13 0 15 value (fun c v => { c with nStir := v }) w
  | _ => refuse .badField w

/-! ## The factory store (R181) -/

/-- Ranges of an acceptance entry (Table 4-4). -/
def paramsOk (p : Params) : Bool :=
  10 ≤ p.drop && p.drop ≤ 400 && 50 ≤ p.purge && p.purge ≤ 200 && 5000 ≤ p.keepWet && p.keepWet ≤ 120000
    && p.settle ≤ 3600

def acceptOk (e : Accept) : Bool := e.code < 65536 && e.mask < 65536 && paramsOk e.params

/-- Ranges of a profile entry (Table 2-5). -/
def profileOk (p : Profile) : Bool :=
  p.name.length ≤ 16 && -15000 ≤ p.sProfile && p.sProfile ≤ 15000 && 200 ≤ p.skewLimit && p.skewLimit ≤ 5000
    && p.baseDry ≤ 120000 && p.dryCoeff ≤ 500 && p.freshTrim ≤ 200000 && p.rethreadTrim ≤ 50000 && p.margin ≤ 100000

/-- The read of the factory store succeeds (R181). -/
def storeOk (x : Store) : Bool :=
  x.checkOk && Config.kMin ≤ x.k && x.k ≤ Config.kMax && x.accepts.toList.all acceptOk && profileOk x.profile0

/-! ## Power-on (R20, R45, R71, R75, R92, R116, R117, R136, R171, R180, R182) -/

/-- The carriage state that the sensors show (R117, R182 step 4). DESIGN CHOICE (log entry 61): CAPPED when the cap sensor reports the
sled up although the home sensor does not see the carriage. -/
def carAt (x : Sensors) : CarState := if x.capUp then .capped else if x.home then .open else .released

/-- A roll slot at power-on (R45, R21). -/
def rollAt (present core : Bool) : Roll :=
  if !present then Roll.none
  else if core then endedRoll { Roll.none with state := .standby, fresh := true }
  else { Roll.none with state := .standby, fresh := true }

/-- An entry as the factory store's entries are loaded, enabled (R75). -/
def Accept.enable (e : Accept) : Accept := { e with enabled := true }

/-- Everything but the supply bay unit's reads, from a good store. -/
def powerState (x : Store) (y : Sensors) (pending : List Instr) : State where
  now := 0
  phase := .starting
  conf := Conf.default
  feed := ⟨x.k, 0, 0, 0, none, none⟩
  media :=
    ⟨⟨rollAt y.rollPresent.s1 y.rollEnd.s1, rollAt y.rollPresent.s2 y.rollEnd.s2⟩, some x.profile0 :: List.replicate 7 none,
     .idle, .empty, none, none, none, none, none, 0, y.rollPresent, y.pathEntry, y.edgeLeft, y.edgeRight⟩
  sheet := Sheet.none
  supply :=
    ⟨Chans.all (Bays.all BayRec.vacant), x.accepts.toList.map Accept.enable ++ List.replicate 10 Accept.disabled,
     x.accepts.map Accept.params,
     Chans.all false, [], 0, ⟨.absent, 0, []⟩⟩
  pump :=
    ⟨⟨Channel.powerOn y.full.c0 y.low.c0, Channel.powerOn y.full.c1 y.low.c1, Channel.powerOn y.full.c2 y.low.c2,
      Channel.powerOn y.full.c3 y.low.c3, Channel.powerOn y.full.c4 y.low.c4, Channel.powerOn y.full.c5 y.low.c5⟩,
     [], none, Chans.all .closed⟩
  station :=
    ⟨Carriage.timed 0
       ⟨carAt y, .still, [], false, ⟨false, false, false⟩, none, .none, none, none, none, y.home⟩,
     ⟨none, 0, .none⟩, Chans.all ⟨0, false⟩, Heads.all false, none⟩
  checker :=
    ⟨none, Heads.all (Rows.all HealthRow.unchecked), Heads.all .ok, List.replicate 16 MaskWindow.disabled, none, none⟩
  link := Link.powerOn
  pending := pending

/-- STORE_FAULT: no roll, bay, tank or float is looked at (R181). DESIGN CHOICE (log entry 13): what STATUS_READ shows of the
carriage and of E is that of a printer with nothing in it. -/
def storeFaultState (pending : List Instr) : State :=
  { powerState { Store.normal with k := 0 } Sensors.none pending with phase := .storeFault }

/-- A closed bay switch is taken as an insertion, with a start-up read (R92, R182 step 1). -/
def insertAtPowerOn (y : Sensors) (b : Bay) (w : Work) : Work :=
  when ((y.bays.get b.chan).get b.letter) (insertBay true b) w

/-- The power-on sequence (R182). -/
def powerOn (x : Store) (y : Sensors) (pending : List Instr) : Work :=
  if storeOk x then
    let w := Work.of (powerState x y pending)
    let w := forEach allChans (fun ch w => insertAtPowerOn y ⟨ch, .b⟩ (insertAtPowerOn y ⟨ch, .a⟩ w)) w
    let w := when y.tank (insertTank true) w
    let w := when (y.rollPresent.s1 && y.rollEnd.s1) (rollEndEvent .s1) w
    when (y.rollPresent.s2 && y.rollEnd.s2) (rollEndEvent .s2) w
  else Work.of (storeFaultState pending)

/-! ## Mechanism reset (R187 step 4) -/

/-- Every block acts on the mechanism reset; what needs another block's state as it was comes first. -/
def resetBlocks (w : Work) : Work :=
  let w := resetSheet (resetMedia (resetChecker w))
  ejectAfterReset (resetPump (resetSupply (resetStation (resetFeed w))))

end Sys2Proof.Machine
end

