-- ==== Sys2Proof/Machine/Reports.lean ====
section
/-! DEFINITION. How one event runs to its end: every report a block has given is delivered to the blocks that must hear of it, first
given first delivered, until none is left; then READY is looked at and the notices are queued (R176, R182). -/

namespace Sys2Proof.Machine

open Sys2Proof

/-- The requester of a move hears how it ended (R18). -/
def moveRequester (r : MoveReport) (w : Work) : Work :=
  match r.ask.requester with
  | .media => mediaMoveEnded r w
  | .sheet => sheetMoveEnded r w
  | .check => checkMoveEnded r w
  | .service => w

/-- The owner that asked for a cut hears that it has ended (R40). -/
def cutRequester (owner : Owner) (piece : Piece) (jam : Bool) (w : Work) : Work :=
  match owner with
  | .sheet => sheetCutEnded piece jam w
  | .check => checkCutEnded jam w
  | .loading | .unloading => mediaCutEnded jam w
  | .idle => w

/-- The requester of a carriage move receives its report (R127). -/
def carMoveRequester (m : CarMove) (outcome : Code) (w : Work) : Work :=
  match m.requester with
  | .media => mediaCarMoveEnded m outcome w
  | .check => checkCarMoveEnded m outcome w
  | .service => serviceCarMoveEnded outcome w
  | .sheet => w

/-- Delivers one report. The units whose carriage move was refused as busy ask again once the requester of the move that has
ended has acted on its report, so that a service's next step bars them (R127, R147). -/
def deliver (r : Report) (w : Work) : Work :=
  match r with
  | .moveEnded r => askAgainMove (moveRequester r (accountMove r w))
  | .holdGranted => onHoldGranted w
  | .cutStarted owner => when (owner = .sheet) sheetCutStarted w
  | .cutEnded owner piece jam => cutRequester owner piece jam w
  | .exitEnded jam => sheetExitEnded jam w
  | .roomAppeared => sheetRoom w
  | .pathCleared => sheetPathCleared w
  | .rollEnded => checkRollEnded (sheetRollEnded w)
  | .carriageParked => trySwitch w
  | .carMoveEnded m outcome _ => post .askAgain (carMoveRequester m outcome w)
  | .askAgain => checkAskAgain (serviceAskAgain (mediaAskAgain w))
  | .sledEnded ok => onSledEnded ok w
  | .passStarted h r => onPassStarted h r w
  | .inkChanged ch what => serviceHearsInk ch what (sheetHearsInk ch what w)
  | .requestLook ch => requestLook ch w
  | .stirLook ch => stirLook ch w
  | .fillAnswered ch => onFillAnswered ch w
  | .pumpFreed ch => pumpFreed ch w
  | .keepWetTaken ch => keepWetTaken ch w
  | .suctionEnded outcome => onSuctionEnded outcome w
  | .stepEnded outcome => onStepEnded outcome w
  | .serviceEnded r => onServiceEnded r w
  | .sheetLook => sheetLook w

/-- Delivers reports until none is left; `n` bounds how many (log entry 6). -/
def drain : Nat → Work → Option Work
  | n, w =>
    match w.agenda with
    | [] => some w
    | r :: rest =>
      match n with
      | 0 => none
      | n + 1 => drain n (deliver r { w with agenda := rest })

/-- The bound on the reports of one event. -/
def reportBound : Nat := 1000

/-- The end of an event that has run: READY where it is due, then the notices (R182, R176). -/
def close (w : Work) : State := (flush (lookReady w)).toState

/-- The outcome of an event. -/
def finish : Option State → Host.Outcome State Fault Refusal
  | some s => .next s
  | none => .fault .reportsExceeded

/-- An event of the mechanism: what `f` does, and everything that follows from it. In STORE_FAULT no block looks at the
mechanism (R181). -/
def occur (f : Work → Work) (s : State) : Host.Outcome State Fault Refusal :=
  if s.phase = .storeFault then .next s else finish ((drain reportBound (f (Work.of s))).map close)

end Sys2Proof.Machine
end

