-- ==== Sys2Proof/Machine/Requests.lean ====
section
/-! DEFINITION. Deciding requests (R173 to R176, R187): the link checks, the block that decides each kind, RESET, and the order in
which the frames of the receive buffer are decided. -/

namespace Sys2Proof.Machine

open Sys2Proof

/-! ## The link checks (R174) -/

/-- A long-capable kind (Table 9-3). -/
def longCapable : Body → Bool
  | .sheetOpen _ _ _ | .swath _ _ _ | .sheetClose _ _ | .sheetAbort _ _ | .mediaLoad _ _ _ _ | .mediaUnload
  | .rollSelect _ | .topUp _ | .uncap | .cap | .service _ _ | .nozzleCheck _ => true
  | .unknownKind | .badLength | .profileSet _ _ | .profileRead _ | .pathClear | .feedTrimSet _ | .acceptSet _ _
  | .acceptRead _ | .baySelect _ _ | .supplyRead _ | .release | .park | .maskSet _ _ | .healthRead _ _ _ | .statusRead
  | .configSet _ _ | .configRead | .reset => false

/-- The reply of the first link check that fails (Table 9-2); none when the request is routed. -/
def linkCheck (q : Request) (s : State) : Option Reply :=
  if q.tag = 0 then some ⟨.refused, .badField, [], 0⟩
  else if q.body = .unknownKind then some ⟨.refused, .unknownKind, [], 0⟩
  else if q.body = .badLength then some ⟨.refused, .badField, [], 0⟩
  else if s.phase ≠ .ready && q.body ≠ .statusRead then some ⟨.wait, .notReady, [], 0⟩
  else
    match s.link.table.find? (fun e => e.tag = q.tag) with
    | some e => some ⟨.refused, .tagBusy, u8 e.kind ++ u8 e.subject, 0⟩
    | none =>
      if longCapable q.body && Config.tableSlots ≤ s.link.table.length then some ⟨.refused, .busy, [], 0⟩ else none

/-! ## Routing (Table 9-3) -/

/-- The owning block decides a request. RESET is the link interface's own (R187). -/
def route (q : Request) (w : Work) : Work :=
  match q.body with
  | .sheetOpen length chans cls => sheetOpen q.tag length chans cls w
  | .swath advance printed spit => swath q.tag advance printed spit w
  | .sheetClose printed spit => sheetClose q.tag printed spit w
  | .sheetAbort printed spit => sheetAbort q.tag printed spit w
  | .mediaLoad slot width remaining profile => mediaLoad q.tag slot width remaining profile w
  | .mediaUnload => mediaUnload q.tag w
  | .rollSelect slot => rollSelect q.tag slot w
  | .profileSet index fields => profileSet index fields w
  | .profileRead index => profileRead index w
  | .pathClear => pathClear w
  | .feedTrimSet value => feedTrimSet value w
  | .acceptSet index fields => acceptSet index fields w
  | .acceptRead index => acceptRead index w
  | .baySelect chan letter => baySelect chan letter w
  | .topUp chan => topUp q.tag chan w
  | .supplyRead chan => supplyRead chan w
  | .uncap => uncap q.tag w
  | .cap => cap q.tag w
  | .release => release w
  | .park => park w
  | .service heads level => service q.tag heads level w
  | .nozzleCheck heads => nozzleCheck q.tag heads w
  | .maskSet index fields => maskSet index fields w
  | .healthRead head row start => healthRead head row start w
  | .statusRead => statusRead w
  | .configSet ident value => configSet ident value w
  | .configRead => configRead w
  | .unknownKind | .badLength | .reset => w

/-! ## Deciding (R176, R187) -/

def setLink (f : Link → Link) (s : State) : State := { s with link := f s.link }

/-- The reply is placed before the notices that the handling gives (R175, R176). -/
def settle (q : Request) (w : Work) : State :=
  match w.reply with
  | some r => close { w with link := placeReply q r w.link }
  | none => close w

/-- A routed request: the block's decision and everything that follows from it, then its reply and its notices. -/
def routed (q : Request) (s : State) : Option State := (drain reportBound (route q (Work.of s))).map (settle q)

/-- RESET: the reply, the queue's notices, the table, then the blocks (R187). -/
def resetRequest (q : Request) (s : State) : Option State :=
  let s := setLink (fun l => resetLink (placeReply q ⟨.ok, .ok, [], 0⟩ l)) s
  (drain reportBound (resetBlocks (Work.of s))).map close

/-- One request is decided (R174). -/
def decideOne (q : Request) (s : State) : Option State :=
  match linkCheck q s with
  | some r => some (setLink (placeReply q r) s)
  | none => if q.body = .reset then resetRequest q s else routed q s

/-- The frames of the receive buffer are decided in their order while 17 slots are free (R173, R176). -/
def decideAll : Nat → State → Option State
  | 0, s => some s
  | n + 1, s =>
    match s.link.buffer with
    | [] => some s
    | q :: rest =>
      if mayDecide s.link then (decideOne q (setLink (fun l => { l with buffer := rest }) s)).bind (decideAll n) else some s

/-- The receive buffer is worked through. -/
def serve (s : State) : Host.Outcome State Fault Refusal := finish (decideAll s.link.buffer.length s)

/-- A good frame reaches the receive buffer, and the buffer is worked through (R173). -/
def ask (q : Request) (s : State) : Host.Outcome State Fault Refusal := serve (setLink (arrive q) s)

/-- What the home sensor shows as a command arrives (R123; log entry 7). -/
def withHome (home : Bool) (s : State) : State :=
  { s with station := { s.station with car := { s.station.car with home := home } } }

end Sys2Proof.Machine
end

