-- ==== Sys2Proof/Machine/Timebase.lean ====
section
/-! DEFINITION. The millisecond timebase: which expiries are due, in a fixed order, and the tick (log entry 3). A step on an empty
queue puts the due expiries on the queue; when none is due, one millisecond passes. -/

namespace Sys2Proof.Machine

open Sys2Proof

/-- A command when it is due. -/
def dueIf (c : Bool) (i : Instr) : List Instr := if c then [i] else []

/-- Expiries of the feed drive (R9, R10). -/
def feedDue (s : State) : List Instr :=
  match s.feed.move with
  | some m =>
    dueIf (m.seen = 0 && reached (stallDue m) s.now) .stallDeadline
      ++ dueIf (reached (completionDue m) s.now) .completionDeadline
  | none => []

/-- The cutter is running and its time has passed (R40). -/
def cutterDue (s : State) : Bool := (s.media.cut.bind Cut.start).any (fun t => reached (t + Config.cutterTime) s.now)

/-- Expiries of the cutter, the exit watch and the drying time (R40, R41, R62). -/
def mediaDue (s : State) : List Instr :=
  dueIf (cutterDue s) .cutterTimeout
    ++ dueIf (s.media.exitWatch.any (fun t => reached (t + Config.exitTime) s.now)) .exitWatchTimeout
    ++ dueIf (s.sheet.phase = .drying && s.sheet.dryEnd.any (fun t => reached t s.now)) .dryEnd

/-- Expiries of the pump (R103, R105, R107, R108). DESIGN CHOICE (log entry 45): a settle interval taken when the stir timer is
already past it is due here, at the next step on an empty queue. -/
def pumpDue (s : State) : List Instr :=
  (match s.pump.op with
    | some op =>
      dueIf (op.window = .open && reached (windowDue op) s.now) .pulseWindowEnd
        ++ dueIf (reached (strokeDue op) s.now) .strokeEnd
    | none => [])
    ++ allChans.flatMap
        (fun ch => dueIf ((entryOf s.pump ch).any (fun r => reached (ageingDue r) s.now)) (.requestAgeing ch))
    ++ allChans.flatMap (fun ch => dueIf (stirWanted s ch) (.stirTimerDue ch))

/-- The sled's time has passed (R118, R119). -/
def sledDue (s : State) : Bool :=
  match s.station.car.sled with
  | .still => false
  | .lowering t | .raising t => reached (t + Config.sledTime) s.now

/-- The return's time has passed (R127, R135). -/
def returnDue (s : State) : Bool :=
  match s.station.car.resetReturn with
  | some t => reached (t + Config.returnTime) s.now
  | none =>
    match s.station.car.move with
    | some m =>
      match m.phase with
      | .returning t => reached (t + Config.returnTime) s.now
      | .waiting | .lowering | .action _ => false
    | none => false

/-- The calibration reading's time has passed (R156). -/
def calibrationDue (s : State) : Bool :=
  match s.checker.check with
  | some c =>
    match c.step with
    | .calibOn t | .calibOff t => reached (t + Config.calibrationTime) s.now
    | .lead | .pattern | .scan | .round | .strip | .cut => false
  | none => false

/-- Expiries of the carriage (R118, R119, R124, R127, R130, R156). -/
def carriageDue (s : State) : List Instr :=
  dueIf (sledDue s) .sledTimeout ++ dueIf (autoCapReady s) .autoCap
    ++ dueIf ((movingAction s).any (fun x => reached (x.2 + actionTime x.1.kind) s.now)) .actionDeadline
    ++ dueIf (calibrationDue s) .calibrationTimeout ++ dueIf (returnDue s) .returnTimeout
    ++ dueIf (s.station.car.suction.any (fun u => reached (suctionDue u) s.now)) .suctionTimeout

/-- Limits of the wet clocks: SPIT_DUE before CLEAN_DUE (R138, R139). -/
def wetDue (s : State) : List Instr :=
  allChans.flatMap
      (fun ch =>
        dueIf (spitDueAt (wetClock s ch) (s.supply.params.get ch).keepWet && !(s.station.wet.get ch).spitDue) (.spitDueLimit ch))
    ++ allChans.flatMap
      (fun ch =>
        dueIf (cleanDueAt (wetClock s ch) (s.supply.params.get ch).keepWet && !s.station.cleanDue.get ch.head)
          (.cleanDueLimit ch))

/-- Expiries of the service in progress (R146, R149). -/
def serviceDue (s : State) : List Instr :=
  match s.station.service with
  | some v =>
    dueIf (v.step = .precondition && v.waitEnd.any (fun t => reached t s.now)) .prePurgeWaitEnd
      ++ dueIf (v.step = .spit && v.spitEnd.any (fun t => reached t s.now)) .spitFiringEnd
  | none => []

/-- Every expiry that is due and has an effect, in the order in which they are taken. -/
def dueList (s : State) : List Instr :=
  dueIf (gapPassed s.now s.link) .frameGapTimeout
    ++ (if s.phase = .storeFault then []
        else feedDue s ++ mediaDue s ++ pumpDue s ++ carriageDue s ++ wetDue s ++ serviceDue s)

/-- One millisecond passes. A request that was barred from a grant in an earlier event is looked at (log entry 9). -/
def tick (s : State) : Host.Outcome State Fault Refusal := occur grant { s with now := s.now + 1 }

/-- A step on an empty queue. -/
def idle (s : State) : Host.Outcome State Fault Refusal :=
  match dueList s with
  | [] => tick s
  | due => .next { s with pending := due }

end Sys2Proof.Machine
end

