-- ==== Sys2Proof/Machine/CheckCommands.lean ====
section
/-! DEFINITION. The commands of the nozzle check unit and of the carriage sensor (Chapter 8, R128). -/

namespace Sys2Proof.Machine

open Sys2Proof

/-- NOZZLE_CHECK (R154, R155). -/
def execNozzleCheck (tag heads : Nat) (s : State) : Host.Outcome State Fault Refusal :=
  ask ⟨kindCheck, tag, .nozzleCheck heads⟩ s

/-- MASK_SET (R161). -/
def execMaskSet (tag index : Nat) (fields : MaskFields) (s : State) : Host.Outcome State Fault Refusal :=
  ask ⟨0x1E, tag, .maskSet index fields⟩ s

/-- HEALTH_READ (R163). -/
def execHealthRead (tag head row start : Nat) (s : State) : Host.Outcome State Fault Refusal :=
  ask ⟨0x1F, tag, .healthRead head row start⟩ s

/-- CARRIAGE_SENSOR_READING (R128, R156, R158). -/
def execCarriageSensorReading (darkness : Nat) (s : State) : Host.Outcome State Fault Refusal :=
  occur (carriageReading darkness) s

/-- PATTERN_LEG_END (R158). -/
def execPatternLegEnd (s : State) : Host.Outcome State Fault Refusal :=
  occur patternLegEnd s

/-- CALIBRATION_TIMEOUT (R156). -/
def execCalibrationTimeout (s : State) : Host.Outcome State Fault Refusal :=
  occur calibrationTimeout s

end Sys2Proof.Machine
end

