-- ==== Sys2Proof/Machine/LinkCommands.lean ====
section
/-! DEFINITION. The commands of the serial line and of the link interface (Chapters 9 and 10). -/

namespace Sys2Proof.Machine

open Sys2Proof

/-- POWER_ON (R181, R182). The commands still waiting stay in the queue. -/
def execPowerOn (store : Store) (sensors : Sensors) (s : State) : Host.Outcome State Fault Refusal :=
  finish ((drain reportBound (powerOn store sensors s.pending)).map close)

/-- RECEIVE_BYTE (R172, R173). -/
def execReceiveByte (byte : Byte) (stopOk home : Bool) (s : State) : Host.Outcome State Fault Refusal :=
  let s := withHome home s
  serve (setLink (receive s.now byte stopOk) s)

/-- FRAME_GAP_TIMEOUT (R172). -/
def execFrameGapTimeout (s : State) : Host.Outcome State Fault Refusal :=
  if gapPassed s.now s.link then .next (setLink discardFrame s) else .next s

/-- FRAME_SENT: the slot is free, the pending STATUS_CHANGED and the waiting requests are looked at (R173, R178, R179). -/
def execFrameSent (home : Bool) (s : State) : Host.Outcome State Fault Refusal :=
  serve (setLink frameLeft (withHome home s))

/-- UNKNOWN_REQUEST_KIND (R174 step 2). -/
def execUnknownRequestKind (kind tag : Nat) (s : State) : Host.Outcome State Fault Refusal :=
  ask ⟨kind, tag, .unknownKind⟩ s

/-- STATUS_READ (R183). -/
def execStatusRead (tag : Nat) (s : State) : Host.Outcome State Fault Refusal :=
  ask ⟨0x20, tag, .statusRead⟩ s

/-- CONFIG_SET (R185). -/
def execConfigSet (tag ident : Nat) (value : Int) (s : State) : Host.Outcome State Fault Refusal :=
  ask ⟨0x21, tag, .configSet ident value⟩ s

/-- CONFIG_READ (R186). -/
def execConfigRead (tag : Nat) (s : State) : Host.Outcome State Fault Refusal :=
  ask ⟨0x22, tag, .configRead⟩ s

/-- RESET (R187). -/
def execReset (tag : Nat) (home : Bool) (s : State) : Host.Outcome State Fault Refusal :=
  ask ⟨0x23, tag, .reset⟩ (withHome home s)

end Sys2Proof.Machine
end

