-- ==== Sys2Proof/Machine/MediaCommands.lean ====
section
/-! DEFINITION. The commands of the feed drive and the media path controller (Chapters 1 and 2). -/

namespace Sys2Proof.Machine

open Sys2Proof

/-- MEDIA_LOAD (R28). -/
def execMediaLoad (tag slot width : Nat) (remaining : Option Nat) (profile : Nat) (s : State) : Host.Outcome State Fault Refusal :=
  ask ⟨kindMediaLoad, tag, .mediaLoad slot width remaining profile⟩ s

/-- MEDIA_UNLOAD (R33). -/
def execMediaUnload (tag : Nat) (s : State) : Host.Outcome State Fault Refusal :=
  ask ⟨kindMediaUnload, tag, .mediaUnload⟩ s

/-- ROLL_SELECT (R35). -/
def execRollSelect (tag slot : Nat) (s : State) : Host.Outcome State Fault Refusal :=
  ask ⟨kindRollSelect, tag, .rollSelect slot⟩ s

/-- PROFILE_SET (R24). -/
def execProfileSet (tag index : Nat) (fields : ProfileFields) (s : State) : Host.Outcome State Fault Refusal :=
  ask ⟨0x0B, tag, .profileSet index fields⟩ s

/-- PROFILE_READ (R25). -/
def execProfileRead (tag index : Nat) (s : State) : Host.Outcome State Fault Refusal :=
  ask ⟨0x0C, tag, .profileRead index⟩ s

/-- PATH_CLEAR (R43). -/
def execPathClear (tag : Nat) (s : State) : Host.Outcome State Fault Refusal :=
  ask ⟨0x0D, tag, .pathClear⟩ s

/-- FEED_TRIM_SET (R5). -/
def execFeedTrimSet (tag : Nat) (value : Int) (s : State) : Host.Outcome State Fault Refusal :=
  ask ⟨0x0E, tag, .feedTrimSet value⟩ s

/-- ENCODER_COUNT (R9, R10, R14). -/
def execEncoderCount (measured : Nat) (s : State) : Host.Outcome State Fault Refusal :=
  occur (countMove measured) s

/-- STALL_DEADLINE (R9). -/
def execStallDeadline (s : State) : Host.Outcome State Fault Refusal :=
  occur stallMove s

/-- COMPLETION_DEADLINE (R10). -/
def execCompletionDeadline (s : State) : Host.Outcome State Fault Refusal :=
  occur timeoutMove s

/-- ROLL_PRESENT_CLOSE (R21). -/
def execRollPresentClose (slot : Slot) (core : Bool) (s : State) : Host.Outcome State Fault Refusal :=
  occur (rollPresentClose slot core) s

/-- ROLL_PRESENT_OPEN (R22). -/
def execRollPresentOpen (slot : Slot) (s : State) : Host.Outcome State Fault Refusal :=
  occur (rollPresentOpen slot) s

/-- ROLL_END_REPORT (R37). -/
def execRollEndReport (slot : Slot) (s : State) : Host.Outcome State Fault Refusal :=
  occur (rollEndReport slot) s

/-- LEAD_EDGE_CHANGE (R29). -/
def execLeadEdgeChange (sensor : EdgeSensor) (present : Bool) (late : Nat) (s : State) : Host.Outcome State Fault Refusal :=
  occur (leadEdgeChange sensor present late) s

/-- PATH_ENTRY_CHANGE (R38). -/
def execPathEntryChange (slot : Slot) (present : Bool) (late : Nat) (s : State) : Host.Outcome State Fault Refusal :=
  occur (pathEntryChange slot present late) s

/-- CUT_COMPLETE (R40). -/
def execCutComplete (s : State) : Host.Outcome State Fault Refusal :=
  occur cutComplete s

/-- CUTTER_TIMEOUT (R40). -/
def execCutterTimeout (s : State) : Host.Outcome State Fault Refusal :=
  occur cutterTimeout s

/-- EXIT_PASS (R41). -/
def execExitPass (s : State) : Host.Outcome State Fault Refusal :=
  occur exitPass s

/-- EXIT_WATCH_TIMEOUT (R41). -/
def execExitWatchTimeout (s : State) : Host.Outcome State Fault Refusal :=
  occur exitWatchTimeout s

/-- BASKET_EMPTIED (R42). -/
def execBasketEmptied (s : State) : Host.Outcome State Fault Refusal :=
  occur basketEmptied s

end Sys2Proof.Machine
end

