-- ==== Sys2Proof/Machine/SheetCommands.lean ====
section
/-! DEFINITION. The commands of the sheet transaction unit (Chapter 3). -/

namespace Sys2Proof.Machine

open Sys2Proof

/-- SHEET_OPEN (R46 to R50). -/
def execSheetOpen (tag length chans cls : Nat) (s : State) : Host.Outcome State Fault Refusal :=
  ask ⟨kindSheetOpen, tag, .sheetOpen length chans cls⟩ s

/-- SWATH (R53 to R55). -/
def execSwath (tag advance : Nat) (printed spit : Chans Nat) (s : State) : Host.Outcome State Fault Refusal :=
  ask ⟨kindSwath, tag, .swath advance printed spit⟩ s

/-- SHEET_CLOSE (R60). -/
def execSheetClose (tag : Nat) (printed spit : Chans Nat) (s : State) : Host.Outcome State Fault Refusal :=
  ask ⟨kindSheetClose, tag, .sheetClose printed spit⟩ s

/-- SHEET_ABORT (R68). -/
def execSheetAbort (tag : Nat) (printed spit : Chans Nat) (s : State) : Host.Outcome State Fault Refusal :=
  ask ⟨kindSheetAbort, tag, .sheetAbort printed spit⟩ s

/-- DRY_END (R62). -/
def execDryEnd (s : State) : Host.Outcome State Fault Refusal :=
  occur dryEnd s

end Sys2Proof.Machine
end

