-- ==== Sys2Proof/Machine/StationCommands.lean ====
section
/-! DEFINITION. The commands of the service station controller (Chapters 6 and 7). -/

namespace Sys2Proof.Machine

open Sys2Proof

/-- UNCAP (R120). -/
def execUncap (tag : Nat) (s : State) : Host.Outcome State Fault Refusal :=
  ask ⟨kindUncap, tag, .uncap⟩ s

/-- CAP (R121). -/
def execCap (tag : Nat) (s : State) : Host.Outcome State Fault Refusal :=
  ask ⟨kindCap, tag, .cap⟩ s

/-- RELEASE (R122). -/
def execRelease (tag : Nat) (s : State) : Host.Outcome State Fault Refusal :=
  ask ⟨0x1A, tag, .release⟩ s

/-- PARK (R123). -/
def execPark (tag : Nat) (home : Bool) (s : State) : Host.Outcome State Fault Refusal :=
  ask ⟨0x1B, tag, .park⟩ (withHome home s)

/-- SERVICE (R140 to R143). -/
def execService (tag heads level : Nat) (s : State) : Host.Outcome State Fault Refusal :=
  ask ⟨kindService, tag, .service heads level⟩ s

/-- CAP_DOWN_COMPLETE (R118). -/
def execCapDownComplete (s : State) : Host.Outcome State Fault Refusal :=
  occur capDownComplete s

/-- CAP_UP_COMPLETE (R119). -/
def execCapUpComplete (s : State) : Host.Outcome State Fault Refusal :=
  occur capUpComplete s

/-- SLED_TIMEOUT (R118, R119). -/
def execSledTimeout (s : State) : Host.Outcome State Fault Refusal :=
  occur sledTimeout s

/-- AUTO_CAP (R124). -/
def execAutoCap (s : State) : Host.Outcome State Fault Refusal :=
  occur autoCap s

/-- ACTION_DEADLINE (R127). -/
def execActionDeadline (s : State) : Host.Outcome State Fault Refusal :=
  occur actionDeadline s

/-- WIPE_COMPLETE (R129). -/
def execWipeComplete (s : State) : Host.Outcome State Fault Refusal :=
  occur wipeComplete s

/-- WIDTH_SCAN_PASS_END (R128). -/
def execWidthScanPassEnd (s : State) : Host.Outcome State Fault Refusal :=
  occur widthScanPassEnd s

/-- HOME_REPORT (R127). -/
def execHomeReport (s : State) : Host.Outcome State Fault Refusal :=
  occur homeReport s

/-- RETURN_TIMEOUT (R127). -/
def execReturnTimeout (s : State) : Host.Outcome State Fault Refusal :=
  occur returnTimeout s

/-- SUCTION_COMPLETE (R130). -/
def execSuctionComplete (s : State) : Host.Outcome State Fault Refusal :=
  occur suctionComplete s

/-- SUCTION_TIMEOUT (R130). -/
def execSuctionTimeout (s : State) : Host.Outcome State Fault Refusal :=
  occur suctionTimeout s

/-- SPIT_DUE_LIMIT (R138). -/
def execSpitDueLimit (chan : Chan) (s : State) : Host.Outcome State Fault Refusal :=
  occur (spitDueLimit chan) s

/-- CLEAN_DUE_LIMIT (R139). -/
def execCleanDueLimit (chan : Chan) (s : State) : Host.Outcome State Fault Refusal :=
  occur (cleanDueLimit chan) s

/-- PRE_PURGE_WAIT_END (R146). -/
def execPrePurgeWaitEnd (s : State) : Host.Outcome State Fault Refusal :=
  occur prePurgeWaitEnd s

/-- SPIT_FIRING_END (R149). -/
def execSpitFiringEnd (s : State) : Host.Outcome State Fault Refusal :=
  occur spitFiringEnd s

end Sys2Proof.Machine
end

