-- ==== Sys2Proof/Machine/SupplyCommands.lean ====
section
/-! DEFINITION. The commands of the supply bay unit and of the sub-tank and pump unit (Chapters 4 and 5). -/

namespace Sys2Proof.Machine

open Sys2Proof

/-- ACCEPT_SET (R78, R79). -/
def execAcceptSet (tag index : Nat) (fields : AcceptFields) (s : State) : Host.Outcome State Fault Refusal :=
  ask ⟨0x10, tag, .acceptSet index fields⟩ s

/-- ACCEPT_READ (R75). -/
def execAcceptRead (tag index : Nat) (s : State) : Host.Outcome State Fault Refusal :=
  ask ⟨0x11, tag, .acceptRead index⟩ s

/-- BAY_SELECT (R84). -/
def execBaySelect (tag chan letter : Nat) (s : State) : Host.Outcome State Fault Refusal :=
  ask ⟨0x12, tag, .baySelect chan letter⟩ s

/-- TOP_UP (R101). -/
def execTopUp (tag chan : Nat) (s : State) : Host.Outcome State Fault Refusal :=
  ask ⟨kindTopUp, tag, .topUp chan⟩ s

/-- SUPPLY_READ (R184). -/
def execSupplyRead (tag chan : Nat) (s : State) : Host.Outcome State Fault Refusal :=
  ask ⟨0x14, tag, .supplyRead chan⟩ s

/-- BAY_INSERTED (R72). -/
def execBayInserted (bay : Bay) (s : State) : Host.Outcome State Fault Refusal :=
  occur (insertBay false bay) s

/-- BAY_REMOVED (R74). -/
def execBayRemoved (bay : Bay) (s : State) : Host.Outcome State Fault Refusal :=
  occur (removeBay bay) s

/-- TANK_INSERTED (R91). -/
def execTankInserted (s : State) : Host.Outcome State Fault Refusal :=
  occur (insertTank false) s

/-- TANK_REMOVED (R91). -/
def execTankRemoved (s : State) : Host.Outcome State Fault Refusal :=
  occur removeTank s

/-- MODULE_READ_COMPLETE (R73, R91). -/
def execModuleReadComplete (answer : Option (List Byte)) (s : State) : Host.Outcome State Fault Refusal :=
  occur (busRead answer) s

/-- MODULE_WRITE_COMPLETE (R90). -/
def execModuleWriteComplete (acked : Bool) (s : State) : Host.Outcome State Fault Refusal :=
  occur (busWritten acked) s

/-- FLOW_PULSE (R108). -/
def execFlowPulse (s : State) : Host.Outcome State Fault Refusal :=
  occur flowPulse s

/-- PULSE_WINDOW_END (R108). -/
def execPulseWindowEnd (s : State) : Host.Outcome State Fault Refusal :=
  occur pulseWindowEnd s

/-- STROKE_END (R107). -/
def execStrokeEnd (s : State) : Host.Outcome State Fault Refusal :=
  occur strokeEnd s

/-- FLOAT_CHANGE (R99). -/
def execFloatChange (chan : Chan) (float : FloatSwitch) (active : Bool) (s : State) : Host.Outcome State Fault Refusal :=
  occur (floatChange chan float active) s

/-- REQUEST_AGEING (R105). -/
def execRequestAgeing (chan : Chan) (s : State) : Host.Outcome State Fault Refusal :=
  occur (requestAgeing chan) s

/-- STIR_TIMER_DUE (R103). -/
def execStirTimerDue (chan : Chan) (s : State) : Host.Outcome State Fault Refusal :=
  occur (lookStir chan) s

end Sys2Proof.Machine
end

