-- ==== Sys2Proof/Machine/Dispatch.lean ====
section
/-! DEFINITION. The meaning of each command: one arm per constructor of `Instr`, each one direct call. -/

namespace Sys2Proof.Machine

open Sys2Proof

/-- The effect of a command on everything but the queue. -/
def exec (i : Instr) (s : State) : Host.Outcome State Fault Refusal :=
  match i with
  | .powerOn store sensors => Sys2Proof.Machine.execPowerOn store sensors s
  | .receiveByte byte stopOk home => Sys2Proof.Machine.execReceiveByte byte stopOk home s
  | .frameGapTimeout => Sys2Proof.Machine.execFrameGapTimeout s
  | .frameSent home => Sys2Proof.Machine.execFrameSent home s
  | .unknownRequestKind kind tag => Sys2Proof.Machine.execUnknownRequestKind kind tag s
  | .sheetOpen tag length chans cls => Sys2Proof.Machine.execSheetOpen tag length chans cls s
  | .swath tag advance printed spit => Sys2Proof.Machine.execSwath tag advance printed spit s
  | .sheetClose tag printed spit => Sys2Proof.Machine.execSheetClose tag printed spit s
  | .sheetAbort tag printed spit => Sys2Proof.Machine.execSheetAbort tag printed spit s
  | .mediaLoad tag slot width remaining profile => Sys2Proof.Machine.execMediaLoad tag slot width remaining profile s
  | .mediaUnload tag => Sys2Proof.Machine.execMediaUnload tag s
  | .rollSelect tag slot => Sys2Proof.Machine.execRollSelect tag slot s
  | .profileSet tag index fields => Sys2Proof.Machine.execProfileSet tag index fields s
  | .profileRead tag index => Sys2Proof.Machine.execProfileRead tag index s
  | .pathClear tag => Sys2Proof.Machine.execPathClear tag s
  | .feedTrimSet tag value => Sys2Proof.Machine.execFeedTrimSet tag value s
  | .acceptSet tag index fields => Sys2Proof.Machine.execAcceptSet tag index fields s
  | .acceptRead tag index => Sys2Proof.Machine.execAcceptRead tag index s
  | .baySelect tag chan letter => Sys2Proof.Machine.execBaySelect tag chan letter s
  | .topUp tag chan => Sys2Proof.Machine.execTopUp tag chan s
  | .supplyRead tag chan => Sys2Proof.Machine.execSupplyRead tag chan s
  | .uncap tag => Sys2Proof.Machine.execUncap tag s
  | .cap tag => Sys2Proof.Machine.execCap tag s
  | .release tag => Sys2Proof.Machine.execRelease tag s
  | .park tag home => Sys2Proof.Machine.execPark tag home s
  | .service tag heads level => Sys2Proof.Machine.execService tag heads level s
  | .nozzleCheck tag heads => Sys2Proof.Machine.execNozzleCheck tag heads s
  | .maskSet tag index fields => Sys2Proof.Machine.execMaskSet tag index fields s
  | .healthRead tag head row start => Sys2Proof.Machine.execHealthRead tag head row start s
  | .statusRead tag => Sys2Proof.Machine.execStatusRead tag s
  | .configSet tag ident value => Sys2Proof.Machine.execConfigSet tag ident value s
  | .configRead tag => Sys2Proof.Machine.execConfigRead tag s
  | .reset tag home => Sys2Proof.Machine.execReset tag home s
  | .encoderCount measured => Sys2Proof.Machine.execEncoderCount measured s
  | .stallDeadline => Sys2Proof.Machine.execStallDeadline s
  | .completionDeadline => Sys2Proof.Machine.execCompletionDeadline s
  | .rollPresentClose slot core => Sys2Proof.Machine.execRollPresentClose slot core s
  | .rollPresentOpen slot => Sys2Proof.Machine.execRollPresentOpen slot s
  | .rollEndReport slot => Sys2Proof.Machine.execRollEndReport slot s
  | .leadEdgeChange sensor present late => Sys2Proof.Machine.execLeadEdgeChange sensor present late s
  | .pathEntryChange slot present late => Sys2Proof.Machine.execPathEntryChange slot present late s
  | .cutComplete => Sys2Proof.Machine.execCutComplete s
  | .cutterTimeout => Sys2Proof.Machine.execCutterTimeout s
  | .exitPass => Sys2Proof.Machine.execExitPass s
  | .exitWatchTimeout => Sys2Proof.Machine.execExitWatchTimeout s
  | .basketEmptied => Sys2Proof.Machine.execBasketEmptied s
  | .dryEnd => Sys2Proof.Machine.execDryEnd s
  | .bayInserted bay => Sys2Proof.Machine.execBayInserted bay s
  | .bayRemoved bay => Sys2Proof.Machine.execBayRemoved bay s
  | .tankInserted => Sys2Proof.Machine.execTankInserted s
  | .tankRemoved => Sys2Proof.Machine.execTankRemoved s
  | .moduleReadComplete answer => Sys2Proof.Machine.execModuleReadComplete answer s
  | .moduleWriteComplete acked => Sys2Proof.Machine.execModuleWriteComplete acked s
  | .flowPulse => Sys2Proof.Machine.execFlowPulse s
  | .pulseWindowEnd => Sys2Proof.Machine.execPulseWindowEnd s
  | .strokeEnd => Sys2Proof.Machine.execStrokeEnd s
  | .floatChange chan float active => Sys2Proof.Machine.execFloatChange chan float active s
  | .requestAgeing chan => Sys2Proof.Machine.execRequestAgeing chan s
  | .stirTimerDue chan => Sys2Proof.Machine.execStirTimerDue chan s
  | .capDownComplete => Sys2Proof.Machine.execCapDownComplete s
  | .capUpComplete => Sys2Proof.Machine.execCapUpComplete s
  | .sledTimeout => Sys2Proof.Machine.execSledTimeout s
  | .autoCap => Sys2Proof.Machine.execAutoCap s
  | .actionDeadline => Sys2Proof.Machine.execActionDeadline s
  | .wipeComplete => Sys2Proof.Machine.execWipeComplete s
  | .widthScanPassEnd => Sys2Proof.Machine.execWidthScanPassEnd s
  | .carriageSensorReading darkness => Sys2Proof.Machine.execCarriageSensorReading darkness s
  | .patternLegEnd => Sys2Proof.Machine.execPatternLegEnd s
  | .calibrationTimeout => Sys2Proof.Machine.execCalibrationTimeout s
  | .homeReport => Sys2Proof.Machine.execHomeReport s
  | .returnTimeout => Sys2Proof.Machine.execReturnTimeout s
  | .suctionComplete => Sys2Proof.Machine.execSuctionComplete s
  | .suctionTimeout => Sys2Proof.Machine.execSuctionTimeout s
  | .spitDueLimit chan => Sys2Proof.Machine.execSpitDueLimit chan s
  | .cleanDueLimit chan => Sys2Proof.Machine.execCleanDueLimit chan s
  | .prePurgeWaitEnd => Sys2Proof.Machine.execPrePurgeWaitEnd s
  | .spitFiringEnd => Sys2Proof.Machine.execSpitFiringEnd s

end Sys2Proof.Machine
end

