-- ==== Sys2Proof/Safety.lean ====
section
/-! DEFINITION. What the statements about this machine speak of: a request that is decided at once, the link interface after a
reply and its notices, what an event leaves alone, and what the manual promises of every state (the invariants of the feed
drive, the ink account, the waste estimate, the pump, the cut hold, the link interface and the configuration). -/

namespace Sys2Proof.Machine

open Sys2Proof

/-! ## A request that is decided at once -/

/-- A long-capable request with this tag passes every link check and is decided as it arrives: the phase is READY, the receive
buffer is empty, 17 slots are free, the tag is neither 0 nor outstanding, and the table has room (R173 to R175, R178). -/
def State.hears (s : State) (tag : Nat) : Bool :=
  s.phase = .ready && s.link.buffer.isEmpty && mayDecide s.link && tag != 0 && !outstanding s.link tag
    && decide (s.link.table.length < Config.tableSlots)

/-- The link interface after the notices of an event, in their order (R178, R179). -/
def told (ns : List Notice) (l : Link) : Link := ns.foldl (fun l n => placeNotice n l) l

/-- The link interface after a reply and then the notices of its handling (R176). -/
def replied (kind tag : Nat) (body : Body) (r : Reply) (ns : List Notice) (l : Link) : Link :=
  told ns (placeReply ⟨kind, tag, body⟩ r l)

/-- OK with items, STARTED with the subject of its entry, QUEUED with items. -/
def okReply (items : List Byte) : Reply := ⟨.ok, .ok, items, 0⟩
def startedReply (subject : Nat) : Reply := ⟨.started, .ok, [], subject⟩
def queuedReply (items : List Byte) : Reply := ⟨.queued, .ok, items, 0⟩
def refusedReply (reason : Code) : Reply := ⟨.refused, reason, [], 0⟩

/-- OP_DONE with an outcome, the kind of its request and a detail block (Table 11-4). -/
def opDoneNotice (kind tag : Nat) (outcome : Code) (detail : List Byte) : Notice :=
  .completion 0x61 tag (code outcome ++ u8 kind ++ detail)

/-- An event notice of a category with its kind byte and items (R190). -/
def eventNotice (cat : Category) (kind : Nat) (items : List Byte) : Notice := .event cat (u8 kind ++ items)

/-- The mechanism is listened to, and no READY is due: what an event gives is only what its own rule says (R181, R182). -/
def State.running (s : State) : Bool := s.phase = .ready

/-! ## The feed drive (R3 to R8, R16) -/

/-- What the feed drive keeps of a move in flight: it was asked as Table 1-3 and R3 allow, it has counts to drive, and fewer of
them have been seen. -/
def Move.sound (m : Move) : Prop :=
  allowed m.ask.owner m.ask.forward m.ask.purpose = true ∧ lengthOk m.ask.purpose m.ask.a = true ∧ m.seen < m.commanded
    ∧ -Config.totalTrimLimit ≤ m.sUsed ∧ m.sUsed ≤ Config.totalTrimLimit

/-- The ranges of Table 1-2: R lies below its scale, the trims within their limits, and a move in flight is sound. -/
def Feed.sound (f : Feed) : Prop :=
  f.r < Config.residueScale ∧ -Config.hostTrimLimit ≤ f.sHost ∧ f.sHost ≤ Config.hostTrimLimit
    ∧ -Config.trackTrimLimit ≤ f.sTrack ∧ f.sTrack ≤ Config.trackTrimLimit ∧ ∀ m, f.move = some m → m.sound

/-! ## The ink account (R93, R94) -/

/-- Every change of E has gone to a tally: E = E at power-on + drawn − printed − serviced + reconcile; E stays within the sub-tank
and the drop residue below its scale. -/
def Channel.balanced (c : Channel) : Prop :=
  (c.e : Int) = (c.e0 : Int) + (c.drawn : Int) - (c.printed : Int) - (c.serviced : Int) + c.reconcile
    ∧ c.e ≤ Config.tankCapacity ∧ c.residue < Config.dropScale

/-- A drop count that leaves its channel well supplied: after the conversion E is at or above the refill threshold, and the channel has
neither ink hold nor DRY, so that the debit changes no flag and raises no request (R94 to R100). -/
def State.ample (s : State) (ch : Chan) (drops : Nat) : Prop :=
  drops ≠ 0 →
    dropVolume s ch drops + Config.refillThreshold ≤ (chanRec s ch).e ∧ (chanRec s ch).dry = false ∧ (chanRec s ch).hold = false

def State.inkOk (s : State) : Prop := ∀ ch, (chanRec s ch).balanced

/-! ## The waste estimate (R131 to R134) -/

/-- W never exceeds C_w, last written never exceeds W, and the level is that of R133; without a tank it is NONE. -/
def Waste.sound (x : Waste) : Prop :=
  match x.tank with
  | some t => t.w ≤ t.capacity ∧ t.written ≤ t.w ∧ x.level = wasteLevelOf t.w t.capacity
  | none => x.level = .none

/-! ## The configuration (Table 10-2) -/

/-- Every parameter lies in its range, and Ts at least 10 above Tw (R185). -/
def Conf.sound (c : Conf) : Prop :=
  5000 ≤ c.autoCap ∧ c.autoCap ≤ 600000 ∧ 1 ≤ c.stackLimit ∧ c.stackLimit ≤ 200 ∧ 20 ≤ c.tw ∧ c.tw ≤ 200
    ∧ c.tw + 10 ≤ c.ts ∧ c.ts ≤ 250 ∧ c.outTol ≤ 64 ∧ c.weakTol ≤ 256
    ∧ c.nPrePurge ≤ 15 ∧ c.nTopUp ≤ 15 ∧ c.nRefill ≤ 15 ∧ c.nStir ≤ 15

/-! ## The pump (R104, R106, R107, R114) -/

/-- The position a valve has while an operation is in flight, or while the pump is idle. -/
def valveFor (op : Option PumpOp) (ch : Chan) : Valve :=
  match op with
  | some o => if o.chan = ch then (if o.kind.isFill then .fill else .circulate) else .closed
  | none => .closed

/-- The list holds at most one entry for a channel and none for the channel granted; only the granted channel's valve is open;
only the channel of a stir in flight has a follow-on. -/
def Pump.sound (p : Pump) : Prop :=
  (p.list.map PumpReq.chan).Nodup
    ∧ (∀ o, p.op = some o → ∀ r ∈ p.list, r.chan ≠ o.chan)
    ∧ (∀ ch, p.valves.get ch = valveFor p.op ch)
    ∧ (∀ ch, (p.chans.get ch).follow.isSome → ∃ o, p.op = some o ∧ o.chan = ch ∧ o.kind = .stir)

/-! ## The carriage and the cut (R40, R124, R126, R127, R135) -/

/-- No carriage move is in flight. -/
def Carriage.still (c : Carriage) : Bool := !c.move.any CarMove.inFlight

/-- While the hold is GRANTED the carriage stays CAPPED or OPEN with no move in flight; a reset's return is alone with the
carriage; the idle time counts only while R124 says so. -/
def Carriage.sound (c : Carriage) : Prop :=
  (c.hold = .granted → c.state.isParked = true ∧ c.still = true)
    ∧ (c.resetReturn.isSome → c.state = .serviceMove ∧ c.still = true ∧ c.sled = .still)
    ∧ (c.idleSince.isSome → c.idles = true)

/-- The cutter runs only under a granted hold; no service is in progress while a reset's return runs. -/
def State.cutOk (s : State) : Prop :=
  s.station.car.sound ∧ (∀ c, s.media.cut = some c → c.start.isSome → s.station.car.hold = .granted)
    ∧ (s.station.car.resetReturn.isSome → s.station.service = none)

/-! ## The link interface (R173, R175, R178) -/

/-- The receive buffer holds at most four frames and the outstanding table at most 16 entries with distinct tags; the transmit queue
always has a slot left for the completion of each outstanding operation; and while the 860 is not READY no operation is
outstanding. -/
def State.linkOk (s : State) : Prop :=
  s.link.buffer.length ≤ Config.bufferSlots ∧ s.link.table.length ≤ Config.tableSlots
    ∧ (s.link.table.map Entry.tag).Nodup ∧ s.link.queue.length + s.link.table.length ≤ Config.queueSlots
    ∧ (s.phase ≠ .ready → s.link.table = [])
    ∧ (s.phase = .starting → s.link.queue.length ≤ Config.queueSlots - Config.keptSlots + 1)

end Sys2Proof.Machine
end

