-- ==== Sys2Proof/Certificates/Slice0/Obligations.lean ====
section
/-! DEFINITION. The statements about the machine, one `def Obligations.<Name> : Prop` each, family by family in the order of
the spec's chapters. Each is listed in OBLIGATIONS.json with the rules it rests on. -/

open Sys2Proof Sys2Proof.Machine

/-! ## The step and the timebase -/

/-- A step takes the command at the front of the queue and runs it with the rest of the queue. -/
def Obligations.StepRunsTheFrontCommand : Prop :=
  ∀ (s : State) (c : Instr) (rest : List Instr), s.pending = c :: rest → step s = exec c { s with pending := rest }

/-- On an empty queue a step puts every expiry that is due on the queue; when none is due, one millisecond passes, and nothing else
where the pump has nothing to grant. Which expiries are due: each time-out of the rules once its time has come (frame gap R172,
stall and completion R9 R10, cutter R40, exit watch R41, drying R62, pulse window and stroke R107 R108, ageing R105, stir timer
R103, sled R118 R119, auto-cap R124, carriage action and return R127, calibration R156, suction R130, wet clocks R138 R139,
pre-purge wait R146, spit firing R149), and no other command; in STORE_FAULT the frame gap alone. The order and the tick are the
model's choice (log entry 3), a stir timer already past a new settle interval log entry 45. -/
def Obligations.EmptyQueueRunsTheTimebase : Prop :=
  (∀ s : State, s.pending = [] →
    (∀ d ds, dueList s = d :: ds → step s = .next { s with pending := d :: ds })
      ∧ (dueList s = [] → s.phase = .storeFault ∨ (s.phase = .ready ∧ (s.pump.op.isSome ∨ s.pump.list = [])) →
          step s = .next { s with now := s.now + 1 }))
  ∧ ∀ s : State,
    let due (c : Instr) (p : Prop) : Prop := c ∈ dueList s ↔ p
    let past (t n : Nat) : Prop := t + n ≤ s.now
    due .frameGapTimeout (s.link.rx.phase ≠ .hunt ∧ past s.link.rx.last 3)
    ∧ (s.phase = .storeFault → ∀ c ∈ dueList s, c = .frameGapTimeout)
    ∧ (∀ c ∈ dueList s,
        c ∈ [.frameGapTimeout, .stallDeadline, .completionDeadline, .cutterTimeout, .exitWatchTimeout, .dryEnd, .pulseWindowEnd,
            .strokeEnd, .sledTimeout, .autoCap, .actionDeadline, .calibrationTimeout, .returnTimeout, .suctionTimeout,
            .prePurgeWaitEnd, .spitFiringEnd]
          ∨ ∃ ch, c = .requestAgeing ch ∨ c = .stirTimerDue ch ∨ c = .spitDueLimit ch ∨ c = .cleanDueLimit ch)
    ∧ (s.phase ≠ .storeFault →
      due .stallDeadline (∃ m, s.feed.move = some m ∧ m.seen = 0 ∧ past m.start 30)
      ∧ due .completionDeadline (∃ m, s.feed.move = some m ∧ past m.start (60 + (m.commanded + 99) / 100))
      ∧ due .cutterTimeout (∃ c t, s.media.cut = some c ∧ c.start = some t ∧ past t 2500)
      ∧ due .exitWatchTimeout (∃ t, s.media.exitWatch = some t ∧ past t 4000)
      ∧ due .dryEnd (s.sheet.phase = .drying ∧ ∃ t, s.sheet.dryEnd = some t ∧ past t 0)
      ∧ due .pulseWindowEnd (∃ o, s.pump.op = some o ∧ o.window = .open ∧ past o.strokeStart 150)
      ∧ due .strokeEnd (∃ o, s.pump.op = some o ∧ past o.strokeStart 200)
      ∧ (∀ ch, due (.requestAgeing ch) (∃ r, entryOf s.pump ch = some r ∧ past r.made (2000 * (r.aged + 1))))
      ∧ (∀ ch, due (.stirTimerDue ch)
          (0 < (s.supply.params.get ch).settle ∧ (s.supply.params.get ch).settle * 1000 ≤ stirTimer s ch
            ∧ s.supply.supplied.get ch = true ∧ entryOf s.pump ch = none ∧ ∀ o, s.pump.op = some o → o.chan ≠ ch))
      ∧ due .sledTimeout (∃ t, (s.station.car.sled = .lowering t ∨ s.station.car.sled = .raising t) ∧ past t 800)
      ∧ due .autoCap (∃ t, s.station.car.idleSince = some t ∧ past t s.conf.autoCap)
      ∧ due .actionDeadline
          (∃ m t, s.station.car.move = some m ∧ m.phase = .action t ∧ past t (if m.kind = .wipe then 1500 else 3000))
      ∧ due .calibrationTimeout
          (∃ c t, s.checker.check = some c ∧ (c.step = .calibOn t ∨ c.step = .calibOff t) ∧ past t 100)
      ∧ due .returnTimeout
          ((∃ t, s.station.car.resetReturn = some t ∧ past t 2000)
            ∨ (s.station.car.resetReturn = none ∧ ∃ m t, s.station.car.move = some m ∧ m.phase = .returning t ∧ past t 2000))
      ∧ due .suctionTimeout (∃ u, s.station.car.suction = some u ∧ past u.start (3000 + (u.volume + 999) / 1000))
      ∧ (∀ ch, due (.spitDueLimit ch)
          ((s.supply.params.get ch).keepWet < wetClock s ch ∧ (s.station.wet.get ch).spitDue = false))
      ∧ (∀ ch, due (.cleanDueLimit ch)
          (4 * (s.supply.params.get ch).keepWet < wetClock s ch ∧ s.station.cleanDue.get ch.head = false))
      ∧ due .prePurgeWaitEnd (∃ v t, s.station.service = some v ∧ v.step = .precondition ∧ v.waitEnd = some t ∧ past t 0)
      ∧ due .spitFiringEnd (∃ v t, s.station.service = some v ∧ v.step = .spit ∧ v.spitEnd = some t ∧ past t 0))

/-! ## Power-on and start-up (Chapter 10) -/

/-- POWER_ON with a store whose read succeeds, at clock 0: the constants are taken from the store, the six entries each enabled (R75);
every block stands as its power-on rule says (R20, R45, R92, R116, R117, R137, R161, R171); every closed bay or tank switch has a
start-up read in the order of R92; and the phase is READY at once exactly when there is none (R182). The link interface hunts
with everything empty and no errors (R180), then holds the notices in their order: READING for each bay and the tank, roll ends,
and READY with its summary where it is due (layouts: log entry 12). The sensor levels stand as read. The fields of no sheet are
those of log entry 4; that the timebase counts from 0 and an ABSENT slot's fresh flag is clear is log entry 1; that a carriage with
the sled up is CAPPED whatever the home sensor shows is the model's choice, log entry 61; POWER_ON leaves the commands still waiting
(log entry 14). -/
def Obligations.PowerOnTakesTheStore : Prop :=
  ∀ (x : Store) (y : Sensors) (s : State), storeOk x = true →
    let closed := (allChans.flatMap (fun ch => [(⟨ch, .a⟩ : Bay), ⟨ch, .b⟩])).filter (fun b => (y.bays.get b.chan).get b.letter)
    let atOnce := closed = [] ∧ y.tank = false
    ∃ t, exec (.powerOn x y) s = .next t
      ∧ t.now = 0 ∧ t.feed = ⟨x.k, 0, 0, 0, none, none⟩ ∧ t.conf = Conf.default ∧ t.sheet = Sheet.none
      ∧ t.supply.accepts = x.accepts.toList.map (fun e => { e with enabled := true }) ++ List.replicate 10 Accept.disabled
      ∧ t.supply.params = x.accepts.map Accept.params ∧ t.supply.supplied = Chans.all false
      ∧ (∀ b : Bay, bayRec t.supply b
          = if (y.bays.get b.chan).get b.letter then { BayRec.vacant with state := .reading } else BayRec.vacant)
      ∧ t.supply.tank.state = (if y.tank then .reading else .absent)
      ∧ t.supply.bus = closed.map (fun b => ⟨.bay b, .read, true⟩) ++ (if y.tank then [⟨.tank, .read, true⟩] else [])
      ∧ (∀ ch, chanRec t ch = Channel.powerOn (y.full.get ch) (y.low.get ch)) ∧ t.pump.list = [] ∧ t.pump.op = none
      ∧ t.pump.valves = Chans.all .closed
      ∧ t.media.profiles = some x.profile0 :: List.replicate 7 none ∧ t.media.owner = .idle ∧ t.media.content = .empty
      ∧ (∀ sl, t.media.rolls.get sl = rollAt (y.rollPresent.get sl) (y.rollEnd.get sl))
      ∧ t.media.stack = 0 ∧ t.media.cut = none ∧ t.media.exitWatch = none ∧ t.media.ejecting = none ∧ t.media.switch = none
      ∧ t.media.seq = none ∧ t.media.present = y.rollPresent ∧ t.media.entry = y.pathEntry ∧ t.media.edgeLeft = y.edgeLeft
      ∧ t.media.edgeRight = y.edgeRight
      ∧ t.station.car.state = (if y.capUp then .capped else if y.home then .open else .released)
      ∧ t.station.car.sled = .still ∧ t.station.car.tags = [] ∧ t.station.car.serviceWaits = false
      ∧ t.station.car.claims = ⟨false, false, false⟩ ∧ t.station.car.move = none ∧ t.station.car.hold = .none
      ∧ t.station.car.suction = none ∧ t.station.car.resetReturn = none ∧ idleTime t = 0 ∧ t.station.car.home = y.home
      ∧ t.station.waste = ⟨none, 0, .none⟩ ∧ t.station.cleanDue = Heads.all false
      ∧ (∀ ch, wetClock t ch = 0 ∧ (t.station.wet.get ch).spitDue = false) ∧ t.station.service = none
      ∧ t.checker.check = none ∧ t.checker.escalation = Heads.all .ok ∧ (∀ h r, healthRow t h r = HealthRow.unchecked)
      ∧ t.checker.windows = List.replicate 16 ⟨false, .mask, .h0, .r0, 0, 0⟩ ∧ t.checker.calibOn = none
      ∧ t.checker.calibOff = none
      ∧ (atOnce → t.phase = .ready) ∧ (¬atOnce → t.phase = .starting) ∧ t.pending = s.pending
      ∧ t.link.errors = 0 ∧ t.link.table = [] ∧ t.link.buffer = [] ∧ t.link.rx.phase = .hunt ∧ t.link.changed = .none
      ∧ (let ready : List Frame := if atOnce then
            [⟨.event, 0x60, 0, List.replicate 12 0 ++ List.replicate 6 1 ++ u8 0 ++ absent 8 ++ u8 (t.media.rolls.get .s1).state.num
              ++ u8 (t.media.rolls.get .s2).state.num ++ u8 t.station.car.state.num ++ u32 x.k⟩]
          else []
        t.link.queue
          = closed.map (fun b => ⟨.event, 0x65, 0, u8 0 ++ bayBytes b ++ u8 1⟩)
            ++ (if y.tank then [⟨.event, 0x65, 0, u8 0 ++ [0xFF, 0xFF] ++ u8 1⟩] else [])
            ++ (if y.rollPresent.get .s1 && y.rollEnd.get .s1 then [⟨.event, 0x64, 0, u8 3 ++ u8 1⟩] else [])
            ++ (if y.rollPresent.get .s2 && y.rollEnd.get .s2 then [⟨.event, 0x64, 0, u8 3 ++ u8 2⟩] else []) ++ ready)

/-- POWER_ON with a store whose read fails: the phase is STORE_FAULT, no notice is given, and from then on every command other than a
new POWER_ON leaves everything outside the link interface as it is, but for the home sensor's level (log entries 7 and 13). -/
def Obligations.StoreFaultStopsTheBlocks : Prop :=
  (∀ (x : Store) (y : Sensors) (s : State), storeOk x = false →
      ∃ t, exec (.powerOn x y) s = .next t ∧ t.phase = .storeFault ∧ t.link = Link.powerOn ∧ t.pending = s.pending)
    ∧ ∀ (s t : State) (c : Instr), s.phase = .storeFault → (∀ x y, c ≠ .powerOn x y) → exec c s = .next t →
        ∃ h, t = { withHome h s with link := t.link }

/-! ## Reception (R172, R173) -/

/-- A whole frame, received byte by byte with valid stop bits and at most 2 ms between one byte and the next, enters the receive
buffer as the request its KIND, TAG and payload stand for, and the receiver hunts again: the framing that Table 9-1 gives
the transmitter is undone by reception, for every kind, tag and payload LEN admits. -/
def Obligations.ReceivedFrameIsTheFrameSent : Prop :=
  ∀ (l : Link) (kind tag : Byte) (payload : List Byte) (c : FrameClass) (bytes : List (Nat × Byte)),
    l.rx.phase = .hunt → payload.length ≤ 248 →
    bytes.map Prod.snd = (Frame.mk c kind.toNat tag.toNat payload).onLine →
    List.IsChain (fun x y => y.1 ≤ x.1 + 2) bytes →
    ∃ t, bytes.foldl (fun l x => receive x.1 x.2 true l) l
      = arrive (requestOf kind tag payload) { l with rx := ⟨.hunt, [], t⟩ }

/-- RECEIVE_BYTE while no frame is in progress and no request waits: a byte 0xC3 with a valid stop bit begins a frame; any other byte
is dropped without counting. FRAME_GAP_TIMEOUT: more than 2 ms after the last byte of a partial frame the frame is discarded
and counted, up to 65,535, and the hunt resumes; at any other time nothing changes. The home sensor's level that RECEIVE_BYTE and
FRAME_SENT carry is kept (withHome, the model's choice of log entry 7). FRAME_SENT with no request waiting frees
the slot of the frame being sent; a pending STATUS_CHANGED is then placed exactly when 17 slots stay free. -/
def Obligations.HuntGapAndSentFrames : Prop :=
  (∀ (s : State) (b : Byte) (stopOk home : Bool), s.link.rx.phase = .hunt → s.link.buffer = [] →
      exec (.receiveByte b stopOk home) s
        = .next (if stopOk = true ∧ b = 0xC3 then
            { withHome home s with link := { s.link with rx := ⟨.length, [], s.now⟩ } } else withHome home s))
    ∧ (∀ s : State, exec .frameGapTimeout s
      = .next (if s.link.rx.phase ≠ .hunt ∧ s.link.rx.last + 3 ≤ s.now then
          { s with link := { s.link with errors := min 65535 (s.link.errors + 1), rx := ⟨.hunt, [], s.link.rx.last⟩ } }
        else s))
    ∧ ∀ (s : State) (f : Frame) (rest : List Frame) (home : Bool), s.link.buffer = [] → s.link.queue = f :: rest →
        exec (.frameSent home) s
          = .next { withHome home s with
              link :=
                match s.link.changed with
                | some c =>
                  if rest.length + 18 ≤ 48 then
                    { s.link with queue := rest ++ [⟨.event, 0x67, 0, u8 c.num⟩], changed := none }
                  else { s.link with queue := rest }
                | none => { s.link with queue := rest } }

/-! ## The link checks (R174) -/

/-- Whatever request a link check turns away is answered at once, and no state outside the link interface changes; the tests are those
of Table 9-2 in their order. UNKNOWN_REQUEST_KIND with a tag other than 0 is answered REFUSED UNKNOWN_KIND. -/
def Obligations.LinkChecksTurnAway : Prop :=
  (∀ (s : State) (kind tag : Nat), s.link.buffer = [] → mayDecide s.link = true → tag ≠ 0 →
    exec (.unknownRequestKind kind tag) s
      = .next { s with
          link := enqueue ⟨.reply, replyKind kind, tag, [BitVec.ofNat 8 4, BitVec.ofNat 8 2]⟩ s.link })
  ∧ ∀ (s : State) (q : Request), s.link.buffer = [] → mayDecide s.link = true →
    let turned (r : Reply) : Prop := ask q s = .next { s with link := enqueue (replyFrame q r) s.link }
    (q.tag = 0 → turned (refusedReply .badField))
      ∧ (q.tag ≠ 0 → q.body = .unknownKind → turned (refusedReply .unknownKind))
      ∧ (q.tag ≠ 0 → q.body = .badLength → turned (refusedReply .badField))
      ∧ (q.tag ≠ 0 → q.body ≠ .unknownKind → q.body ≠ .badLength → s.phase ≠ .ready → q.body ≠ .statusRead →
          turned ⟨.wait, .notReady, [], 0⟩)
      ∧ (q.tag ≠ 0 → q.body ≠ .unknownKind → q.body ≠ .badLength → (s.phase = .ready ∨ q.body = .statusRead) →
          (∀ e, s.link.table.find? (fun e => e.tag = q.tag) = some e →
              turned ⟨.refused, .tagBusy, u8 e.kind ++ u8 e.subject, 0⟩)
            ∧ (s.link.table.find? (fun e => e.tag = q.tag) = none → longCapable q.body = true →
                16 ≤ s.link.table.length → turned (refusedReply .busy)))

/-! ## Status and settings (R183 to R187) -/

/-- The six requests that only read (STATUS_READ, CONFIG_READ, SUPPLY_READ, ACCEPT_READ, PROFILE_READ, HEALTH_READ) are answered OK with the
items of the state as it stands, and change nothing but the transmit queue. HEALTH_READ lists at most 60 of the nozzles at or above
the start that are not GOOD, in ascending number, and the number one above the last of them exactly when there is a further one.
Where no table lays the items out, their order and width are the model's (log entry 12). -/
def Obligations.ReadsChangeNothing : Prop :=
  ∀ (s : State) (tag : Nat), s.hears tag = true →
    let answers (c : Instr) (kind : Nat) (items : List Byte) : Prop :=
      exec c s = .next { s with link := enqueue ⟨.reply, kind + 0x80, tag, u8 0 ++ u8 0 ++ items⟩ s.link }
    answers (.statusRead tag) 0x20 (statusItems s)
      ∧ answers (.configRead tag) 0x22
          ([if s.conf.autoRoll then 1 else 0, if s.conf.autoRecover then 1 else 0, if s.conf.degradedAllowed then 1 else 0,
            (s.conf.autoCap : Int), s.conf.stackLimit, s.conf.tw, s.conf.ts, s.conf.outTol, s.conf.weakTol, s.conf.nPrePurge,
            s.conf.nTopUp, s.conf.nRefill, s.conf.nStir, s.feed.sHost].flatMap s32)
      ∧ (∀ ch : Chan, answers (.supplyRead tag ch.num) 0x14 (supplyItems s ch))
      ∧ (∀ i e, s.supply.accepts[i]? = some e → answers (.acceptRead tag i) 0x11 (acceptItems i e))
      ∧ (∀ i, i ≤ 7 →
          answers (.profileRead tag i) 0x0C (match profileAt s i with | some p => u8 0 ++ profileItems p | none => u8 1))
      ∧ ∀ (h : Head) (r : Row) (n : Nat), n ≤ 1023 →
          let x := healthRow s h r
          let bad := x.nozzles.zipIdx.filter (fun p => n ≤ p.2 ∧ p.1 ≠ .good)
          answers (.healthRead tag h.num r.num n) 0x1F
            (u8 x.status.num ++ u16 x.counts.unchecked ++ u16 x.counts.good ++ u16 x.counts.weak ++ u16 x.counts.out
              ++ u16 x.counts.masked ++ u16 x.checks ++ u8 (min 60 bad.length)
              ++ o16 (if 60 < bad.length then bad[59]?.map (fun p => p.2 + 1) else none)
              ++ (bad.take 60).flatMap (fun p => u16 p.2 ++ u8 p.1.num))

/-- CONFIG_SET of each of the ten numeric parameters and of the three on/off ones takes the clamped value, answers with the value applied
and the clamped flag, and changes nothing else: for Ts the range starts at Tw + 10. (What AUTO_ROLL off, a shorter auto-cap
delay, a higher stack limit and Tw set off beside are not needed here: the hypotheses of those cases say that they do not
arise.) -/
def Obligations.ConfigSetClamps : Prop :=
  ∀ (s : State) (tag : Nat) (v : Int), s.hears tag = true →
    let takes (ident : Nat) (applied : Int) (c : Conf) : Prop :=
      exec (.configSet tag ident v) s
        = .next { s with
            conf := c
            link := enqueue ⟨.reply, 0xA1, tag, u8 0 ++ u8 0 ++ u8 ident ++ s32 applied ++ flag (applied ≠ v)⟩ s.link }
    (v = 0 ∨ v = 1 →
        ((v = 1 ∨ s.media.switch = none) → takes 1 v { s.conf with autoRoll := v = 1 })
          ∧ takes 2 v { s.conf with autoRecover := v = 1 } ∧ takes 3 v { s.conf with degradedAllowed := v = 1 })
      ∧ (s.station.car.idleSince = none →
          takes 4 (clampInt 5000 600000 v) { s.conf with autoCap := (clampInt 5000 600000 v).toNat })
      ∧ (s.media.stack < s.conf.stackLimit →
          takes 5 (clampInt 1 200 v) { s.conf with stackLimit := (clampInt 1 200 v).toNat })
      ∧ (clampInt 20 200 v + 10 ≤ s.conf.ts →
          takes 6 (clampInt 20 200 v) { s.conf with tw := (clampInt 20 200 v).toNat })
      ∧ takes 7 (clampInt (s.conf.tw + 10 : Nat) 250 v) { s.conf with ts := (clampInt (s.conf.tw + 10 : Nat) 250 v).toNat }
      ∧ takes 8 (clampInt 0 64 v) { s.conf with outTol := (clampInt 0 64 v).toNat }
      ∧ takes 9 (clampInt 0 256 v) { s.conf with weakTol := (clampInt 0 256 v).toNat }
      ∧ takes 10 (clampInt 0 15 v) { s.conf with nPrePurge := (clampInt 0 15 v).toNat }
      ∧ takes 11 (clampInt 0 15 v) { s.conf with nTopUp := (clampInt 0 15 v).toNat }
      ∧ takes 12 (clampInt 0 15 v) { s.conf with nRefill := (clampInt 0 15 v).toNat }
      ∧ takes 13 (clampInt 0 15 v) { s.conf with nStir := (clampInt 0 15 v).toNat }

/-- RESET with no ejection pending and no refill or stir to be raised: the frame being sent and the queued replies stay in their order
and the reply OK follows; every other notice, the pending STATUS_CHANGED and the outstanding table go (R187). What Table 10-3
gives up is given up, and what it keeps is kept: the roll in a load or unload becomes STANDBY, or ABSENT with its switch open, and
the path EMPTY; a THREADED roll under a sheet or a check leaves the path DIRTY; a path in FAULT stays (R44). A row whose check pass
has started is voided (R170). A carriage in SERVICE_MOVE is returned, a moving sled is taken as down, and a carriage then OPEN is
capped by a raising (R135). The fields of no sheet are those of log entry 4, the home sensor's level log entry 7; that a roll
found ABSENT keeps nothing of its record is log entry 64, its fresh flag clear log entry 1. -/
def Obligations.ResetGivesUpAndKeeps : Prop :=
  ∀ (s : State) (tag : Nat) (home : Bool), s.hears tag = true → s.media.ejecting = none →
    (∀ ch, Config.refillThreshold ≤ (chanRec s ch).e ∨ s.supply.supplied.get ch = false) →
    (∀ ch, (s.supply.params.get ch).settle = 0 ∨ s.supply.supplied.get ch = false) →
    let moved : Option Slot :=
      s.media.seq.bind (fun q => if q.step.isUnload then q.oldSlot else if q.step.isLoad then some q.slot else none)
    let sledMoved := s.station.car.sled ≠ .still
    let passed (h : Head) (r : Row) : Prop :=
      ∃ m, s.station.car.move = some m ∧ m.kind = .checkScan h ∧ (r = .r0 → m.acted = true) ∧ (r = .r1 → m.scan.done0.isSome)
    ∃ t, exec (.reset tag home) s = .next t
      ∧ t.link = { s.link with
          queue := s.link.queue.take 1 ++ s.link.queue.tail.filter (fun f => f.cls = .reply)
            ++ [⟨.reply, 0xA3, tag, u8 0 ++ u8 0⟩]
          table := [], changed := none }
      ∧ t.phase = .ready ∧ t.conf = s.conf ∧ t.pending = s.pending ∧ t.now = s.now
      ∧ t.feed = { s.feed with r := 0, move := none, again := none }
      ∧ t.media.owner = .idle ∧ t.media.switch = none ∧ t.media.seq = none ∧ t.media.cut = none ∧ t.media.exitWatch = none
      ∧ t.media.ejecting = none ∧ t.media.stack = s.media.stack ∧ t.media.profiles = s.media.profiles
      ∧ (s.media.content = .fault → t.media.content = .fault ∧ t.media.rolls = s.media.rolls)
      ∧ (s.media.content ≠ .fault → ∀ sl, moved = some sl →
          t.media.content = .empty ∧ t.media.rolls.get sl.other = s.media.rolls.get sl.other
            ∧ t.media.rolls.get sl
              = if s.media.present.get sl then { s.media.rolls.get sl with state := .standby } else Roll.none)
      ∧ (s.media.content ≠ .fault → moved = none →
          t.media.rolls = s.media.rolls
            ∧ ((s.sheet.phase ≠ .none ∨ s.media.owner = .check) ∧ (threadedSlot s.media).isSome → t.media.content = .dirty)
            ∧ (¬((s.sheet.phase ≠ .none ∨ s.media.owner = .check) ∧ (threadedSlot s.media).isSome) →
                t.media.content = s.media.content))
      ∧ t.sheet = Sheet.none
      ∧ (∀ b, bayRec t.supply b = { bayRec s.supply b with charged := false }) ∧ t.supply.accepts = s.supply.accepts
      ∧ t.supply.params = s.supply.params ∧ t.supply.supplied = s.supply.supplied ∧ t.supply.bus = s.supply.bus
      ∧ t.supply.busStart = s.supply.busStart ∧ t.supply.tank = s.supply.tank
      ∧ t.pump.list = [] ∧ t.pump.op = none ∧ t.pump.valves = Chans.all .closed
      ∧ (∀ ch, chanRec t ch = { chanRec s ch with follow := none })
      ∧ (¬sledMoved → t.station.car.state = s.station.car.state ∧ t.station.wet = s.station.wet)
      ∧ (sledMoved → t.station.car.state = .open
          ∧ (s.station.car.state = .capped → t.station.wet = Chans.all ⟨s.now, false⟩)
          ∧ (s.station.car.state ≠ .capped → t.station.wet = s.station.wet))
      ∧ (t.station.car.state = .open → t.station.car.sled = .raising s.now)
      ∧ (t.station.car.state ≠ .open → t.station.car.sled = .still)
      ∧ (t.station.car.state = .serviceMove → t.station.car.resetReturn = some s.now)
      ∧ (t.station.car.state ≠ .serviceMove → t.station.car.resetReturn = none)
      ∧ t.station.car.tags = [] ∧ t.station.car.claims = ⟨false, false, false⟩ ∧ t.station.car.move = none
      ∧ t.station.car.hold = .none ∧ t.station.car.suction = none ∧ t.station.service = none
      ∧ t.station.waste = s.station.waste ∧ t.station.cleanDue = s.station.cleanDue
      ∧ t.checker.check = none ∧ t.checker.escalation = s.checker.escalation ∧ t.checker.windows = s.checker.windows
      ∧ t.checker.calibOn = s.checker.calibOn ∧ t.checker.calibOff = s.checker.calibOff
      ∧ (∀ h r, passed h r → healthRow t h r
          = { healthRow s h r with status := if (healthRow s h r).status = .unchecked then .unchecked else .stale })
      ∧ (∀ h r, ¬passed h r → healthRow t h r = healthRow s h r)

/-! ## The feed drive (Chapter 1) -/

/-- FEED_TRIM_SET stores the value clamped to −10,000..+10,000 as S_host, answers with the value applied and whether it was clamped,
and changes nothing else. -/
def Obligations.FeedTrimSetStoresTheClampedTrim : Prop :=
  ∀ (s : State) (tag : Nat) (v : Int), s.hears tag = true →
    exec (.feedTrimSet tag v) s
      = .next { s with
          feed := { s.feed with sHost := clampInt (-10000) 10000 v }
          link := enqueue ⟨.reply, 0x8E, tag, u8 0 ++ u8 0 ++ s32 (clampInt (-10000) 10000 v)
            ++ flag (clampInt (-10000) 10000 v ≠ v)⟩ s.link }

/-- The advance computation loses nothing: over any forward moves since the residue was reset, each with its own length and correction,
the sum of raw equals the sum of the commanded counts times 10^12, plus R, and R stays below 10^12. raw is A × K × (10^6 + S), for
every correction S within ±10^6 (R4 keeps it within ±20,000). -/
def Obligations.AdvanceLosesNothing : Prop :=
  (∀ (a k : Nat) (c : Int), -1000000 ≤ c → (rawOf a k c : Int) = a * k * (1000000 + c))
  ∧ ∀ (k : Nat) (moves : List (Nat × Int)),
    let run := moves.foldl
      (fun (x : Nat × Nat) m => (x.1 + forwardCounts m.1 k m.2 x.2, newResidue m.1 k m.2 x.2)) (0, 0)
    (moves.map (fun m => rawOf m.1 k m.2)).sum = run.1 * 1000000000000 + run.2 ∧ run.2 < 1000000000000

/-- The last count of a swath's move, tracked, with measured travel M. Within the slip limit max(300, A / 50) the swath is COMPLETED:
S_track is moved by an eighth of the error for A of 10,000 or more, the roll has lost A, the record joins the trailing list,
and SWATH_DONE carries M and S used. Beyond it the move ends SLIP: S_track is left, the swath is DISCARDED and the sheet
FAULTED. R is left in both. -/
def Obligations.TrackedSwathIsJudged : Prop :=
  ∀ (s : State) (m : Move) (e : Swath) (slot : Slot) (x : Nat), s.running = true →
    s.feed.move = some m → m.ask = ⟨.sheet, .sheet, true, e.advance, .swath⟩ → m.tracked = true → m.seen + 1 = m.commanded →
    1 ≤ e.advance → s.feed.again = none → threadedSlot s.media = some slot → s.sheet.phase = .swathing →
    s.sheet.abort = none → s.sheet.close = none → s.sheet.openTag = none → s.sheet.queue = [e] →
    let a := e.advance
    let media := { s.media with
      rolls := s.media.rolls.set slot { s.media.rolls.get slot with
        remaining := (s.media.rolls.get slot).remaining.map (· - a) } }
    let done (outcome move : Code) : Notice :=
      .completion 0x62 e.tag (code outcome ++ code move ++ u32 m.commanded ++ u32 m.commanded ++ u32 x ++ s32 m.sUsed ++ u8 8)
    (((a : Int) - (x : Int)).natAbs ≤ max 300 (a / 50) →
        exec (.encoderCount x) s
          = .next { s with
              media := media
              feed := { s.feed with
                move := none
                sTrack :=
                  if a < 10000 then s.feed.sTrack
                  else clampInt (-5000) 5000 (s.feed.sTrack + ((((a : Int) - x) * 1000000).tdiv a).tdiv 8) }
              sheet := { s.sheet with queue := [], trailing := addTrail ⟨a, e.ink⟩ s.sheet.trailing, fed := true }
              link := told [done .completed .ok] s.link })
      ∧ (max 300 (a / 50) < ((a : Int) - (x : Int)).natAbs →
        exec (.encoderCount x) s
          = .next { s with
              media := media
              feed := { s.feed with move := none }
              sheet := { s.sheet with queue := [], fed := true, phase := .faulted, fault := some .slip }
              link := told [done .discarded .slip, eventNotice .sheet 6 (code .slip)] s.link })

/-- A move in flight. ENCODER_COUNT adds 1 to counts seen while counts are still to come; with no move in flight it is not counted.
STALL_DEADLINE and COMPLETION_DEADLINE: 30 ms after drive start with no count seen the move ends FEED_STALL; past 60 ms plus a
hundredth of the commanded counts it ends FEED_TIMEOUT. Here the move is the leading margin of an opening sheet: its open
ends with that fault, the sheet is FAULTED, R and S_track are left, and the roll has lost the travel of the counts seen.
Before their time, or with no move, neither has any effect. The absent items of the failed open's OP_DONE are Table 11-5's as log
entry 12 reads it. -/
def Obligations.CountsAndDeadlinesRunTheMove : Prop :=
  ∀ (s : State), s.running = true →
    (∀ (m : Move) (slot : Slot) (tag : Nat), s.feed.move = some m → m.ask.owner = .sheet → m.ask.requester = .sheet →
        m.ask.forward = true → m.ask.purpose = .leadingMargin → 1 ≤ m.ask.a → s.feed.again = none →
        threadedSlot s.media = some slot → s.sheet.phase = .opening → s.sheet.abort = none → s.sheet.close = none →
        s.sheet.openTag = some tag → s.sheet.queue = [] →
        let ends (fault : Code) : State := { s with
          feed := { s.feed with move := none }
          media := { s.media with
            rolls := s.media.rolls.set slot { s.media.rolls.get slot with
              remaining := (s.media.rolls.get slot).remaining.map (· - m.seen * 1000000 / s.feed.k) } }
          sheet := { s.sheet with
            phase := .faulted, fault := some fault, openTag := none, fed := s.sheet.fed || decide (0 < m.seen) }
          link := told [opDoneNotice 0x01 tag fault (absent 5), eventNotice .sheet 6 (code fault)] s.link }
        (m.seen = 0 → m.start + 30 ≤ s.now → exec .stallDeadline s = .next (ends .feedStall))
          ∧ (m.start + 60 + (m.commanded + 99) / 100 ≤ s.now → exec .completionDeadline s = .next (ends .feedTimeout)))
      ∧ (∀ m, s.feed.move = some m → m.seen ≠ 0 ∨ s.now < m.start + 30 → exec .stallDeadline s = .next s)
      ∧ (∀ m, s.feed.move = some m → s.now < m.start + 60 + (m.commanded + 99) / 100 → exec .completionDeadline s = .next s)
      ∧ (∀ m x, s.feed.move = some m → m.seen + 1 < m.commanded →
        exec (.encoderCount x) s = .next { s with feed := { s.feed with move := some { m with seen := m.seen + 1 } } })
      ∧ (s.feed.move = none →
        (∀ x, exec (.encoderCount x) s = .next s) ∧ exec .stallDeadline s = .next s ∧ exec .completionDeadline s = .next s)

/-! ## The media path (Chapter 2) -/

/-- MEDIA_LOAD that passes its checks on a STANDBY roll, with the feed drive idle: the request's fields are written into the record, a
pending switch goes, the media claim is taken, the owner is LOADING, and the edge search of 400,000 µm starts with the
correction of the profile just named. HOME_REPORT of the load's width scan, done and within 3,000 µm of the declared width, starts the
lead trim of 90,000 µm less the overrun and with the trim length, that of a fresh roll or of another one. The last count of that move
completes the load when the trim length is 0, or has the scrap cut started over a parked carriage; CUT_COMPLETE of that cut completes
the load: the roll is THREADED with its measured width and not fresh, the content CLEAN, R and S_track 0, the claim and the path given
up, and OP_DONE OK carries the width and the skew window (R30, R31). -/
def Obligations.MediaLoadRunsToItsEnd : Prop :=
  (∀ (s : State) (tag width p : Nat) (remaining : Option Nat) (sl : Slot) (prof : Profile), s.hears tag = true →
    279000 ≤ width → width ≤ 1118000 → profileAt s p = some prof →
    s.media.content ≠ .fault → s.media.owner = .idle → s.media.ejecting = none → threadedSlot s.media = none →
    (s.media.rolls.get sl).state = .standby → parked s = true → s.feed.move = none →
    let c := clampInt (-20000) 20000 (prof.sProfile + s.feed.sHost + s.feed.sTrack)
    let counts := forwardCounts 400000 s.feed.k c s.feed.r
    counts ≠ 0 →
    exec (.mediaLoad tag sl.num width remaining p) s
      = .next { s with
          media := { s.media with
            rolls := s.media.rolls.set sl { s.media.rolls.get sl with
              declared := some width, remaining := remaining.map (min 300000000), profile := some p, measured := none
              fault := none }
            owner := .loading
            switch := none
            seq := some ⟨.load, .edgeSearch, some tag, sl, none, 0, none, .left, none, 0, none, none, none, false⟩ }
          feed := { s.feed with
            r := newResidue 400000 s.feed.k c s.feed.r
            move := some ⟨⟨.loading, .media, true, 400000, .edgeSearch⟩, counts, c, false, s.now, 0⟩ }
          station := { s.station with
            car := { s.station.car with claims := { s.station.car.claims with media := true }, idleSince := none } }
          link := replied 0x08 tag (.mediaLoad sl.num width remaining p) (startedReply sl.num) [] s.link })
  ∧ ∀ (s : State) (q : Sequence) (tag c1 c2 width : Nat) (prof : Profile), s.running = true → s.media.seq = some q →
    q.job = .load → q.tag = some tag → q.c1 = some c1 → q.c2 = some c2 → q.failSeen = none → s.media.owner = .loading →
    s.media.ejecting = none → s.media.switch = none → threadedSlot s.media = none → slotProfile s q.slot = some prof →
    let r := s.media.rolls.get q.slot
    let trim := if r.fresh then prof.freshTrim else prof.rethreadTrim
    let completed (m : Media) (x : Roll) : Media := { m with
      content := .clean, owner := .idle, seq := none
      rolls := s.media.rolls.set q.slot { x with state := .threaded, measured := q.measured, fresh := false } }
    let done : List Notice :=
      [opDoneNotice 0x08 tag .ok (u8 q.slot.num ++ u32 width ++ u32 ((c2 - c1) * 1000000 / s.feed.k) ++ absent 4)]
    let freed (c : Carriage) : Carriage := ({ c with claims := { c.claims with media := false } } : Carriage).timed s.now
    (∀ (m : CarMove) (u : Nat), s.station.car.resetReturn = none → s.station.car.move = some m → m.requester = .media →
        m.kind = .widthScan → m.phase = .returning u → m.fault = none → s.station.car.hold = .none →
        s.station.car.sled = .still → s.station.car.claims.media = true → s.station.service = none → s.checker.check = none →
        q.step = .widthScan → r.declared = some width → r.state = .standby → m.width ≤ width + 3000 → width ≤ m.width + 3000 →
        s.feed.move = none → s.station.car.state = .serviceMove →
        let a := 90000 + trim - (q.endSeen - c2) * 1000000 / s.feed.k
        let corr := clampInt (-20000) 20000 (prof.sProfile + s.feed.sHost + s.feed.sTrack)
        let counts := forwardCounts a s.feed.k corr s.feed.r
        1 ≤ a → a ≤ 3000000 → counts ≠ 0 →
        exec .homeReport s
          = .next { s with
              media := { s.media with seq := some { q with measured := some m.width, step := .leadTrim } }
              feed := { s.feed with
                r := newResidue a s.feed.k corr s.feed.r
                move := some ⟨⟨.loading, .media, true, a, .leadTrim⟩, counts, corr, false, s.now, 0⟩ }
              station := { s.station with
                car := { s.station.car with state := .open, move := none, home := true, idleSince := none } } })
      ∧ (∀ (m : Move) (a n : Nat), q.step = .leadTrim → q.measured = some width → s.feed.move = some m →
        m.ask = ⟨.loading, .media, true, a, .leadTrim⟩ → 1 ≤ a → m.tracked = false → m.seen + 1 = m.commanded →
        s.feed.again = none → r.state = .standby →
        let fed : Roll := { r with remaining := r.remaining.map (· - a) }
        (trim = 0 →
            exec (.encoderCount n) s
              = .next { s with
                  media := completed s.media fed
                  feed := { s.feed with r := 0, sTrack := 0, move := none }
                  station := { s.station with car := freed s.station.car }
                  link := told done s.link })
          ∧ (trim ≠ 0 → s.media.content ≠ .fault → s.media.cut = none → parked s = true → s.station.car.hold = .none →
            s.station.car.move = none →
            exec (.encoderCount n) s
              = .next { s with
                  media := { s.media with
                    seq := some { q with fed := q.fed + a, step := .trimCut }, cut := some ⟨.loading, .scrap, some s.now⟩
                    rolls := s.media.rolls.set q.slot fed }
                  feed := { s.feed with move := none }
                  station := { s.station with car := { s.station.car with hold := .granted, idleSince := none } } }))
      ∧ ∀ start, q.step = .trimCut → q.measured = some width → s.media.cut = some ⟨.loading, .scrap, some start⟩ →
        s.station.car.move = none → s.station.car.idleSince = none →
        exec .cutComplete s
          = .next { s with
              media := completed { s.media with cut := none } r
              feed := { s.feed with r := 0, sTrack := 0 }
              station := { s.station with car := freed { s.station.car with hold := .none } }
              link := told done s.link }

/-- MEDIA_UNLOAD of a THREADED roll with a CLEAN path, and ROLL_SELECT of another roll that can be loaded: the owner is UNLOADING and the
rewind of 700,000 µm starts, in reverse, with no scale correction and R left. ROLL_SELECT of the THREADED roll itself is
answered OK and moves nothing. -/
def Obligations.UnloadAndSelectStartTheRewind : Prop :=
  ∀ (s : State) (tag : Nat) (old : Slot), s.hears tag = true → threadedSlot s.media = some old →
    s.media.content = .clean → s.media.owner = .idle → s.media.ejecting = none → s.feed.move = none →
    700000 * s.feed.k / 1000000 ≠ 0 →
    let rewinds (job : Job) (sl : Slot) (kind : Nat) (body : Body) : State := { s with
      media := { s.media with
        owner := .unloading
        switch := none
        seq := some ⟨job, .unloadRewind, some tag, sl, some old, 0, none, .left, none, 0, none, none, none, false⟩ }
      feed := { s.feed with
        move := some ⟨⟨.unloading, .media, false, 700000, .rewind⟩, 700000 * s.feed.k / 1000000, 0, false, s.now, 0⟩ }
      station := { s.station with
        car := { s.station.car with claims := { s.station.car.claims with media := true }, idleSince := none } }
      link := replied kind tag body (startedReply sl.num) [] s.link }
    exec (.mediaUnload tag) s = .next (rewinds .unload old 0x09 .mediaUnload)
      ∧ (parked s = true → switchable s (s.media.rolls.get old.other) = true →
          exec (.rollSelect tag old.other.num) s
            = .next (rewinds .select old.other 0x0A (.rollSelect old.other.num)))
      ∧ exec (.rollSelect tag old.num) s
          = .next { s with link := replied 0x0A tag (.rollSelect old.num) (okReply []) [] s.link }

/-- PROFILE_SET of an entry that is not in use writes the entry whole, every numeric field clamped to its range of Table 2-5 and the name,
which ends at its first 0x00, cut to 16 characters, and flags each field that was changed (the order of the flags is log entry 12); of an entry in use it is refused
BUSY. -/
def Obligations.ProfileSetWritesTheClampedEntry : Prop :=
  ∀ (s : State) (tag i : Nat) (f : ProfileFields) (tracking : Bool), s.hears tag = true → i ≤ 7 →
    f.tracking = (if tracking then 1 else 0) →
    let p : Profile :=
      ⟨(textOf f.name).take 16, clampInt (-15000) 15000 f.sProfile, clampNat 200 5000 f.skewLimit, tracking, clampNat 0 120000 f.baseDry,
       clampNat 0 500 f.dryCoeff, clampNat 0 200000 f.freshTrim, clampNat 0 50000 f.rethreadTrim, clampNat 0 100000 f.margin⟩
    (profileBusy s i = false →
        exec (.profileSet tag i f) s
          = .next { s with
              media := { s.media with profiles := s.media.profiles.set i (some p) }
              link := replied 0x0B tag (.profileSet i f) (okReply (profileFlags p f)) [] s.link })
      ∧ (profileBusy s i = true →
        exec (.profileSet tag i f) s
          = .next { s with link := replied 0x0B tag (.profileSet i f) (refusedReply .busy) [] s.link })

/-- PATH_CLEAR in FAULT: the content is EMPTY, a THREADED or FAULT roll is STANDBY or ABSENT, an ENDED one stays or is ABSENT, ejection
pending is cleared. A sheet FAULTED by the path is over and gives up the path. Outside FAULT the request is refused
BAD_STATE. What the record of an ended sheet keeps is log entry 4. That a roll which becomes ABSENT loses its remaining length and its
fresh flag is the model's reading of R43 beside R22, log entries 64 and 1. -/
def Obligations.PathClearEmptiesThePath : Prop :=
  ∀ (s : State) (tag : Nat), s.hears tag = true →
    (s.media.content ≠ .fault →
        exec (.pathClear tag) s = .next { s with link := replied 0x0D tag .pathClear (refusedReply .badState) [] s.link })
      ∧ (s.media.content = .fault → s.media.switch = none →
        let after (r : Roll) (present : Bool) : Roll :=
          match r.state with
          | .threaded | .fault => if present then { r with state := .standby, fault := none } else Roll.none
          | .ended => if present then r else Roll.none
          | .standby | .absent => r
        let media := { s.media with
          content := .empty
          ejecting := none
          rolls := ⟨after s.media.rolls.s1 s.media.present.s1, after s.media.rolls.s2 s.media.present.s2⟩ }
        (s.sheet.phase ≠ .faulted →
            exec (.pathClear tag) s
              = .next { s with media := media, link := replied 0x0D tag .pathClear (okReply []) [] s.link })
          ∧ (s.sheet.phase = .faulted → s.media.owner = .sheet →
            exec (.pathClear tag) s
              = .next { s with
                  media := { media with owner := .idle }
                  sheet := { s.sheet with
                    phase := .none, openTag := none, close := none, abort := none, fault := none, dryEnd := none
                    roomWait := false, queue := [], trailing := [], fed := false }
                  link := replied 0x0D tag .pathClear (okReply []) [] s.link }))

/-- The roll slots while no sequence runs and no switch is pending. ROLL_PRESENT_CLOSE on an ABSENT record makes it STANDBY and fresh with
every optional field absent, or ENDED where the sensor reports the core; on any other record it changes nothing of it.
ROLL_PRESENT_OPEN on a STANDBY or FAULT record makes it ABSENT, on an ENDED one too unless its ejection is pending, and on the
THREADED roll acts as its roll end; that an ABSENT record's fresh flag is clear is log entry 1. ROLL_END_REPORT on a STANDBY roll makes it ENDED with
remaining length 0 and sends its MEDIA_EVENT; on an ENDED, FAULT or ABSENT one it has no effect. On the THREADED roll while a
sheet is SWATHING with no abort, the roll is ENDED with remaining length 0, ejection is pending, the move in flight goes on,
and the sheet is FAULTED with ROLL_END, its waiting swath DISCARDED. -/
def Obligations.RollSensorsMoveTheRecord : Prop :=
  (∀ (s : State) (sl : Slot) (e : Swath), s.running = true → s.media.seq = none → threadedSlot s.media = some sl →
    s.media.owner = .sheet → s.sheet.phase = .swathing → s.sheet.abort = none → s.sheet.close = none →
    s.sheet.openTag = none → s.sheet.queue = [e] → e.inFlight = false → s.checker.check = none →
    let ended (present : Slots Bool) : State :=
        { s with
          media := { s.media with
            rolls := s.media.rolls.set sl { s.media.rolls.get sl with state := .ended, remaining := some 0 }
            ejecting := some sl, present := present }
          sheet := { s.sheet with phase := .faulted, fault := some .rollEnd, queue := [] }
          link := told
            [eventNotice .media 3 (u8 sl.num),
             .completion 0x62 e.tag (code .discarded ++ code .ok ++ u32 0 ++ u32 0 ++ absent 4 ++ s32 0 ++ u8 8),
             eventNotice .sheet 6 (code .rollEnd)] s.link }
    exec (.rollEndReport sl) s = .next (ended s.media.present)
      ∧ exec (.rollPresentOpen sl) s = .next (ended (s.media.present.set sl false)))
  ∧ ∀ (s : State) (sl : Slot), s.running = true → s.media.seq = none → s.media.switch = none →
    let with' (present : Bool) (r : Roll) (ns : List Notice) : State := { s with
      media := { s.media with present := s.media.present.set sl present, rolls := s.media.rolls.set sl r }
      link := told ns s.link }
    let r := s.media.rolls.get sl
    let ended := [eventNotice .media 3 (u8 sl.num)]
    (r.state = .absent →
        exec (.rollPresentClose sl false) s = .next (with' true ⟨.standby, none, none, none, none, true, none⟩ [])
          ∧ exec (.rollPresentClose sl true) s = .next (with' true ⟨.ended, none, none, none, some 0, true, none⟩ ended))
      ∧ (r.state ≠ .absent → ∀ core, exec (.rollPresentClose sl core) s = .next (with' true r []))
      ∧ (r.state = .standby ∨ r.state = .fault ∨ (r.state = .ended ∧ s.media.ejecting ≠ some sl) →
        exec (.rollPresentOpen sl) s = .next (with' false ⟨.absent, none, none, none, none, false, none⟩ []))
      ∧ (r.state = .absent ∨ (r.state = .ended ∧ s.media.ejecting = some sl) →
        exec (.rollPresentOpen sl) s = .next (with' false r []))
      ∧ (r.state = .standby →
        exec (.rollEndReport sl) s = .next (with' (s.media.present.get sl) { r with state := .ended, remaining := some 0 } ended))
      ∧ (r.state = .ended ∨ r.state = .fault ∨ r.state = .absent → exec (.rollEndReport sl) s = .next s)

/-- LEAD_EDGE_CHANGE during the edge search: the first edge, at either sensor, records the counts seen and the sensor; a further report
of that sensor is ignored. The first edge at the other sensor ends the search: the move is stopped, and a window beyond
the profile's skew limit fails the load, whose media is rewound by the fed length and 50,000 µm. PATH_ENTRY_CHANGE: the end of the
media leaves the roll during the first move of an ejection. The move is stopped, and the second move of 650,000 µm starts with the
correction of the ENDED roll's profile. With no sequence either report only changes what its sensor shows. The counts
that arrive before a stop takes hold are the operand `late` (log entry 5). -/
def Obligations.PathSensorsStopTheMoves : Prop :=
  (∀ (s : State) (sensor : EdgeSensor) (late : Nat), s.running = true →
      let shown : Media := match sensor with
        | .left => { s.media with edgeLeft := true }
        | .right => { s.media with edgeRight := true }
      let was : Bool := match sensor with
        | .left => s.media.edgeLeft
        | .right => s.media.edgeRight
      (s.media.seq = none → exec (.leadEdgeChange sensor true late) s = .next { s with media := shown })
        ∧ ∀ (q : Sequence) (m : Move), s.media.seq = some q → q.step = .edgeSearch → s.feed.move = some m → was = false →
          (q.c1 = none →
              exec (.leadEdgeChange sensor true late) s
                = .next { s with media := { shown with seq := some { q with c1 := some m.seen, c1Sensor := sensor } } })
            ∧ (∀ c1, q.c1 = some c1 → q.c1Sensor = sensor →
              exec (.leadEdgeChange sensor true late) s = .next { s with media := shown })
            ∧ ∀ c1 prof, q.c1 = some c1 → q.c1Sensor ≠ sensor → q.c2 = none → s.media.owner = .loading →
              m.ask = ⟨.loading, .media, true, 400000, .edgeSearch⟩ → m.seen + late < m.commanded → s.feed.again = none →
              threadedSlot s.media = none → slotProfile s q.slot = some prof →
              (s.media.rolls.get q.slot).state = .standby →
              let travel := (m.seen + late) * 1000000 / s.feed.k
              prof.skewLimit < (m.seen - c1) * 1000000 / s.feed.k →
              let back := q.fed + travel + 50000
              back ≤ 3000000 → back * s.feed.k / 1000000 ≠ 0 →
              exec (.leadEdgeChange sensor true late) s
                = .next { s with
                    media := { shown with
                      rolls := s.media.rolls.set q.slot { s.media.rolls.get q.slot with
                        remaining := (s.media.rolls.get q.slot).remaining.map (· - travel) }
                      seq := some { q with
                        c2 := some m.seen, fed := q.fed + travel, endSeen := m.seen + late, step := .failRewind
                        failure := some .skew, failSeen := none } }
                    feed := { s.feed with
                      move := some ⟨⟨.loading, .media, false, back, .rewind⟩, back * s.feed.k / 1000000, 0, false, s.now, 0⟩ } })
  ∧ ∀ (s : State) (sl : Slot) (present : Bool) (late : Nat), s.running = true →
      (s.media.seq = none →
          exec (.pathEntryChange sl present late) s
            = .next { s with media := { s.media with entry := s.media.entry.set sl present } })
        ∧ ∀ (q : Sequence) (m : Move), s.media.seq = some q → q.step = .ejectFirst → q.slot = sl → s.feed.move = some m →
          m.ask = ⟨.unloading, .media, true, 700000, .ejection⟩ → m.seen + late < m.commanded → s.feed.again = none →
          s.media.owner = .unloading → threadedSlot s.media = none → (s.media.rolls.get sl).state = .ended →
          let c := clampInt (-20000) 20000
            (((slotProfile s sl).map Profile.sProfile).getD 0 + s.feed.sHost + s.feed.sTrack)
          let counts := forwardCounts 650000 s.feed.k c s.feed.r
          counts ≠ 0 →
          exec (.pathEntryChange sl false late) s
            = .next { s with
                media := { s.media with entry := s.media.entry.set sl false, seq := some { q with step := .ejectSecond } }
                feed := { s.feed with
                  r := newResidue 650000 s.feed.k c s.feed.r
                  move := some ⟨⟨.unloading, .media, true, 650000, .ejection⟩, counts, c, false, s.now, 0⟩ } }

/-- The automatic roll switch. A SHEET_OPEN longer than what is known to be left of the THREADED roll, with AUTO_ROLL on and the other
roll compatible and long enough, is answered WAIT; the switch starts with its MEDIA_EVENT (both slots, no outcome yet; log entry
12) and the unload rewind of 700,000 µm; where a condition fails the open is refused SHORT_ROLL. When the last count of a remainder
ejection has come, the path is EMPTY and the ENDED roll stays, or is ABSENT with its switch open; with AUTO_ROLL on and the other
roll compatible the switch starts with its MEDIA_EVENT and the edge search of 400,000 µm, the owner passing straight to LOADING, or,
the carriage being away, is kept pending; otherwise the path is IDLE and no switch follows. A load of the switch that fails ends with
the rewind: the roll is STANDBY with the failure, the path IDLE, and a load fault event and the switch's MEDIA_EVENT with the outcome
are sent, with no OP_DONE (R32, R36). The model's own here: the reason byte 0 of WAIT (log entry 33); the switch of the ended roll as
it stands at the ejection's end (log entry 52) and what an ABSENT record keeps (log entries 64 and 1); the order of the load
fault and the switch's MEDIA_EVENT (log entry 6). -/
def Obligations.AutoSwitchReplacesTheRoll : Prop :=
  ∀ (s : State) (old : Slot),
    let x := s.media.rolls.get old
    let y := s.media.rolls.get old.other
    let alike : Prop := s.conf.autoRoll = true ∧ y.state = .standby
      ∧ (∃ a b, x.declared = some a ∧ y.declared = some b ∧ a ≤ b + 3000 ∧ b ≤ a + 3000)
      ∧ (∃ i, x.profile = some i ∧ y.profile = some i)
    let starts (step : MediaStep) (replaced : Option Slot) : Option Sequence :=
      some ⟨.auto, step, none, old.other, replaced, 0, none, .left, none, 0, none, none, none, false⟩
    let claimed : Carriage :=
      { s.station.car with claims := { s.station.car.claims with media := true }, idleSince := none }
    let begun : Notice := eventNotice .media 2 (u8 old.num ++ u8 old.other.num ++ absent 1)
    (∀ (tag length chans cls : Nat) (q : OpenReq) (left : Nat), s.hears tag = true →
        openFields tag length chans cls = some q → s.sheet.phase = .none → s.media.content = .clean → s.media.owner = .idle →
        s.media.ejecting = none → s.media.switch = none → s.media.seq = none → threadedSlot s.media = some old →
        threadedMargin s ≤ length → x.remaining = some left → left < length → parked s = true → s.feed.move = none →
        700000 * s.feed.k / 1000000 ≠ 0 →
        let long : Prop := ∀ n, y.remaining = some n → length ≤ n
        (alike ∧ long →
            exec (.sheetOpen tag length chans cls) s
              = .next { s with
                  media := { s.media with owner := .unloading, seq := starts .unloadRewind (some old) }
                  feed := { s.feed with
                    move := some
                      ⟨⟨.unloading, .media, false, 700000, .rewind⟩, 700000 * s.feed.k / 1000000, 0, false, s.now, 0⟩ }
                  station := { s.station with car := claimed }
                  link := replied 0x01 tag (.sheetOpen length chans cls) ⟨.wait, .ok, [], 0⟩ [begun] s.link })
          ∧ (¬(alike ∧ long) →
            exec (.sheetOpen tag length chans cls) s
              = .next { s with
                  link := replied 0x01 tag (.sheetOpen length chans cls) (refusedReply .shortRoll) [] s.link }))
    ∧ (∀ (q : Sequence) (m : Move) (n : Nat), s.running = true → s.media.seq = some q → q.step = .ejectSecond → q.slot = old →
        s.feed.move = some m → m.ask = ⟨.unloading, .media, true, 650000, .ejection⟩ → m.tracked = false →
        m.seen + 1 = m.commanded → s.feed.again = none → s.media.owner = .unloading → s.media.switch = none →
        threadedSlot s.media = none → x.state = .ended →
        let cleared : Media := { s.media with
          content := .empty, ejecting := none
          rolls := s.media.rolls.set old (if s.media.present.get old then x else Roll.none) }
        let stopped : Feed := { s.feed with move := none }
        let c := clampInt (-20000) 20000
          (((slotProfile s old.other).map Profile.sProfile).getD 0 + s.feed.sHost + s.feed.sTrack)
        let counts := forwardCounts 400000 s.feed.k c s.feed.r
        (alike → parked s = true → counts ≠ 0 →
            exec (.encoderCount n) s
              = .next { s with
                  media := { cleared with owner := .loading, seq := starts .edgeSearch none }
                  feed := { s.feed with
                    r := newResidue 400000 s.feed.k c s.feed.r
                    move := some ⟨⟨.loading, .media, true, 400000, .edgeSearch⟩, counts, c, false, s.now, 0⟩ }
                  station := { s.station with car := claimed }
                  link := told [begun] s.link })
          ∧ (∀ width i, alike → x.declared = some width → x.profile = some i → parked s = false →
            exec (.encoderCount n) s
              = .next { s with
                  media := { cleared with owner := .idle, seq := none, switch := some ⟨old.other, .rollEnd, width, i⟩ }
                  feed := stopped })
          ∧ (¬alike →
            exec (.encoderCount n) s = .next { s with media := { cleared with owner := .idle, seq := none }, feed := stopped }))
    ∧ ∀ (q : Sequence) (m : Move) (n : Nat) (failure : Code), s.running = true → s.media.seq = some q → q.step = .failRewind →
        q.job = .auto → q.slot = old.other → q.failure = some failure → s.feed.move = some m → m.tracked = false →
        m.ask.requester = .media → m.ask.purpose = .rewind → m.ask.forward = false → 1 ≤ m.ask.a → m.seen + 1 = m.commanded →
        s.feed.again = none → s.media.ejecting = none → s.media.switch = none → threadedSlot s.media = none →
        y.state = .standby → s.media.present.get old.other = true → s.media.edgeLeft = false → s.media.edgeRight = false →
        exec (.encoderCount n) s
          = .next { s with
              media := { s.media with
                owner := .idle, seq := none
                rolls := s.media.rolls.set old.other { y with
                  remaining := y.remaining.map (fun l => min 300000000 (l + m.ask.a)), fault := some failure } }
              feed := { s.feed with move := none }
              station := { s.station with
                car := ({ s.station.car with
                  claims := { s.station.car.claims with media := false } } : Carriage).timed s.now }
              link := told
                [eventNotice .media 1 (u8 old.other.num ++ code failure),
                 eventNotice .media 2 (u8 old.num ++ u8 old.other.num ++ code failure)] s.link }

/-- The cut of a sheet. CUT_COMPLETE: the hold is given up, R is 0, the content CLEAN, the exit watch starts, and the sheet is EJECTING.
CUTTER_TIMEOUT from 2,500 ms after the start: the hold is given up, the content is FAULT, R is left, and the sheet is
FAULTED with CUTTER_JAM, as its close ends; before that time, or with no cut running, it has no effect. The slot that the MEDIA_EVENT
of the jam names is that of the THREADED roll, else as log entry 12 chooses (concernedSlot); that the OP_DONE of the jam carries
the stack count is log entry 62. -/
def Obligations.CutEndsInSheetOrJam : Prop :=
  ∀ (s : State), s.running = true →
    (∀ (start : Nat) (c : CloseRec), s.media.cut = some ⟨.sheet, .sheet, some start⟩ → s.sheet.phase = .cutting →
        s.sheet.abort = none → s.sheet.close = some c → s.sheet.openTag = none → s.sheet.queue = [] →
        s.media.owner = .sheet → s.station.car.move = none →
        let car := ({ s.station.car with hold := .none } : Carriage).timed s.now
        exec .cutComplete s
            = .next { s with
                feed := { s.feed with r := 0 }
                media := { s.media with cut := none, content := .clean, exitWatch := some s.now }
                station := { s.station with car := car }
                sheet := { s.sheet with phase := .ejecting, fed := false }
                link := told [eventNotice .sheet 4 []] s.link }
          ∧ (start + 2500 ≤ s.now →
            exec .cutterTimeout s
              = .next { s with
                  media := { s.media with cut := none, content := .fault }
                  station := { s.station with car := car }
                  sheet := { s.sheet with phase := .faulted, fault := some .cutterJam, close := none }
                  link := told
                    [eventNotice .media 0 (code .cutterJam ++ optSlot (concernedSlot s.media)),
                     opDoneNotice 0x03 c.tag .cutterJam (u8 s.media.stack), eventNotice .sheet 6 (code .cutterJam)] s.link })
          ∧ (s.now < start + 2500 → exec .cutterTimeout s = .next s))
      ∧ (s.media.cut = none → exec .cutComplete s = .next s ∧ exec .cutterTimeout s = .next s)

/-- The exit watch of a sheet. EXIT_PASS: the stack grows by 1 up to 200, the sheet is over, the path IDLE again, and the close ends OK
with the stack count. EXIT_WATCH_TIMEOUT from 4,000 ms after the cut: the stack is left, the content is FAULT and the sheet
FAULTED with EXIT_JAM; before that time it has no effect. A pass while no watch runs is not counted. What the record of
an ended sheet keeps is log entry 4; the slot that the MEDIA_EVENT of the jam names is that of the THREADED roll, else as log entry
12 chooses (concernedSlot); that the OP_DONE of the jam carries the stack count is log entry 62. -/
def Obligations.ExitWatchStacksOrJams : Prop :=
  ∀ (s : State), s.running = true →
    (s.media.exitWatch = none → exec .exitPass s = .next s ∧ exec .exitWatchTimeout s = .next s)
      ∧ ∀ (start : Nat) (c : CloseRec), s.media.exitWatch = some start → s.sheet.phase = .ejecting → s.sheet.abort = none →
        s.sheet.close = some c → s.sheet.openTag = none → s.sheet.queue = [] → s.media.owner = .sheet →
        s.media.ejecting = none → s.media.switch = none →
        let stack := min 200 (s.media.stack + 1)
        exec .exitPass s
            = .next { s with
                media := { s.media with exitWatch := none, stack := stack, owner := .idle }
                sheet := { s.sheet with
                  phase := .none, openTag := none, close := none, abort := none, fault := none, dryEnd := none
                  roomWait := false }
                link := told [eventNotice .sheet 5 (u8 stack), opDoneNotice 0x03 c.tag .ok (u8 stack)] s.link }
          ∧ (start + 4000 ≤ s.now →
            exec .exitWatchTimeout s
              = .next { s with
                  media := { s.media with exitWatch := none, content := .fault }
                  sheet := { s.sheet with phase := .faulted, fault := some .exitJam, close := none }
                  link := told
                    [eventNotice .media 0 (code .exitJam ++ optSlot (concernedSlot s.media)),
                     opDoneNotice 0x03 c.tag .exitJam (u8 s.media.stack), eventNotice .sheet 6 (code .exitJam)] s.link })
          ∧ (s.now < start + 4000 → exec .exitWatchTimeout s = .next s)

/-- The sheet cut waits for the drying time, for basket room and for the hold. BASKET_EMPTIED sets the stack to 0. When it finds a sheet
waiting for room, and when DRY_END comes at its time with room in the basket, the cut is asked for; with the carriage
CAPPED or OPEN, no move in flight and no hold, the hold is granted, the cutter starts at once, and the sheet is CUTTING;
with the carriage RELEASED, or in a move, the cut is recorded but not started, its hold waits, and the sheet stays in CUT_WAIT.
DRY_END with the basket full leaves the sheet in CUT_WAIT, waiting for room; before its time it has no effect. -/
def Obligations.SheetCutWaitsForRoom : Prop :=
  ∀ (s : State), s.running = true →
    (s.sheet.phase ≠ .cutWait ∨ s.sheet.roomWait = false →
        exec .basketEmptied s = .next { s with media := { s.media with stack := 0 } })
      ∧ (∀ t, s.sheet.phase = .drying → s.sheet.dryEnd = some t →
        (s.now < t → exec .dryEnd s = .next s)
          ∧ (t ≤ s.now → s.conf.stackLimit ≤ s.media.stack →
            exec .dryEnd s
              = .next { s with
                  sheet := { s.sheet with phase := .cutWait, fault := none, dryEnd := none, roomWait := true }
                  link := told [eventNotice .sheet 2 []] s.link }))
      ∧ (s.media.owner = .sheet → s.media.content = .clean ∨ s.media.content = .dirty → s.media.cut = none →
        s.feed.move = none → s.station.car.hold = .none → 1 ≤ s.conf.stackLimit →
        let asks (stack : Nat) (sheet : Sheet) (start : Option Nat) (hold : Hold) (ns : List Notice) : State := { s with
          media := { s.media with stack := stack, cut := some ⟨.sheet, .sheet, start⟩ }
          station := { s.station with car := { s.station.car with hold := hold, idleSince := none } }
          sheet := { sheet with roomWait := false }
          link := told ns s.link }
        let dried : Sheet := { s.sheet with fault := none, dryEnd := none }
        (s.station.car.state.isParked = true → s.station.car.still = true →
            (s.sheet.phase = .cutWait → s.sheet.roomWait = true →
              exec .basketEmptied s
                = .next (asks 0 { s.sheet with phase := .cutting } (some s.now) .granted [eventNotice .sheet 3 []]))
              ∧ (∀ t, s.sheet.phase = .drying → s.sheet.dryEnd = some t → t ≤ s.now → s.media.stack < s.conf.stackLimit →
                exec .dryEnd s
                  = .next (asks s.media.stack { dried with phase := .cutting } (some s.now) .granted
                      [eventNotice .sheet 2 [], eventNotice .sheet 3 []])))
          ∧ (s.station.car.state.isParked = false ∨ s.station.car.still = false →
            (s.sheet.phase = .cutWait → s.sheet.roomWait = true →
              exec .basketEmptied s = .next (asks 0 s.sheet none .waiting []))
              ∧ (∀ t, s.sheet.phase = .drying → s.sheet.dryEnd = some t → t ≤ s.now → s.media.stack < s.conf.stackLimit →
                exec .dryEnd s
                  = .next (asks s.media.stack { dried with phase := .cutWait } none .waiting [eventNotice .sheet 2 []]))))

/-! ## Sheets (Chapter 3) -/

/-- SHEET_OPEN of a PLAIN sheet on a CLEAN path with every condition of Table 3-3 met: the sheet is set as open, the path is the sheet's,
and the leading margin of the roll's profile is fed with its correction; with a margin of 0 the sheet is SWATHING at once
and its open ends OK. -/
def Obligations.SheetOpenFeedsTheMargin : Prop :=
  ∀ (s : State) (tag length chans : Nat) (set : Chans Bool) (sl : Slot) (prof : Profile) (t : WasteRec),
    s.hears tag = true → chanSetOf chans = some set → set.isEmpty = false → 50000 ≤ length → length ≤ 20000000 →
    s.sheet.phase = .none → s.media.content = .clean → s.media.owner = .idle → s.media.ejecting = none →
    s.media.switch = none → s.media.seq = none → threadedSlot s.media = some sl → slotProfile s sl = some prof →
    prof.margin ≤ length → prof.margin ≤ 100000 → (∀ rem, (s.media.rolls.get sl).remaining = some rem → length ≤ rem) →
    (∀ ch, set.get ch = true → s.supply.supplied.get ch = true ∧ s.station.cleanDue.get ch.head = false
      ∧ (s.checker.escalation.get ch.head = .ok ∨ s.checker.escalation.get ch.head = .attention)) →
    s.station.waste.tank = some t → t.w < t.capacity → s.feed.move = none →
    let c := clampInt (-20000) 20000 (prof.sProfile + s.feed.sHost + s.feed.sTrack)
    let counts := forwardCounts prof.margin s.feed.k c s.feed.r
    let opened : Sheet := { Sheet.none with
      phase := .opening, openTag := some tag, length := length, chans := set, margin := prof.margin, committed := prof.margin }
    (prof.margin ≠ 0 → counts ≠ 0 →
        exec (.sheetOpen tag length chans 0) s
          = .next { s with
              sheet := opened
              media := { s.media with owner := .sheet }
              feed := { s.feed with
                r := newResidue prof.margin s.feed.k c s.feed.r
                move := some
                  ⟨⟨.sheet, .sheet, true, prof.margin, .leadingMargin⟩, counts, c, prof.tracking, s.now, 0⟩ }
              link := replied 0x01 tag (.sheetOpen length chans 0) (startedReply 0) [] s.link })
      ∧ (prof.margin = 0 →
        exec (.sheetOpen tag length chans 0) s
          = .next { s with
              sheet := { opened with phase := .swathing, openTag := none }
              media := { s.media with owner := .sheet }
              link := replied 0x01 tag (.sheetOpen length chans 0) (startedReply 0)
                [opDoneNotice 0x01 tag .ok (u32 0 ++ u8 8)] s.link })

/-- SWATH accepted while a move is in flight, with printed drops that leave each channel well supplied: each count is converted with the
channel's drop volume and residue and debited to the printed tally, the wet clock of each channel used is restarted, and
the entry joins the queue with the sum of the converted volumes as its ink. Channels without a count keep their records. -/
def Obligations.SwathDebitsItsInk : Prop :=
  ∀ (s : State) (tag advance : Nat) (printed : Chans Nat), s.hears tag = true → s.media.content ≠ .fault →
    s.sheet.phase = .opening ∨ s.sheet.phase = .swathing → s.sheet.close = none → s.sheet.abort = none →
    advance ≤ 120000 → (∀ ch, s.sheet.chans.get ch = false → printed.get ch = 0) → s.sheet.queue.length < 8 →
    s.sheet.committed + advance ≤ s.sheet.length → s.feed.move.isSome → (∀ ch, s.ample ch (printed.get ch)) →
    ∃ t, exec (.swath tag advance printed (Chans.all 0)) s = .next t
      ∧ t = { s with
          sheet := { s.sheet with
            queue := s.sheet.queue ++ [⟨tag, advance, (allChans.map (fun ch => dropVolume s ch (printed.get ch))).sum, false⟩]
            committed := s.sheet.committed + advance }
          pump := t.pump
          station := { s.station with wet := t.station.wet }
          link := replied 0x02 tag (.swath advance printed (Chans.all 0)) (queuedReply (u8 (8 - (s.sheet.queue.length + 1)))) []
            s.link }
      ∧ t.pump = { s.pump with chans := t.pump.chans }
      ∧ ∀ ch,
          chanRec t ch
            = (if printed.get ch = 0 then chanRec s ch
              else { chanRec s ch with
                residue := (printed.get ch * (s.supply.params.get ch).drop + (chanRec s ch).residue) % 10000
                e := (chanRec s ch).e - (printed.get ch * (s.supply.params.get ch).drop + (chanRec s ch).residue) / 10000
                printed := (chanRec s ch).printed
                  + (printed.get ch * (s.supply.params.get ch).drop + (chanRec s ch).residue) / 10000 })
          ∧ t.station.wet.get ch = (if printed.get ch = 0 then s.station.wet.get ch else ⟨s.now, false⟩)

/-- SWATH without ink on an idle drive, the queue empty and no channel of the set in ink hold: it is started at once. One that would
carry the committed length past the declared length is refused OVERRUN and faults the sheet. -/
def Obligations.SwathStartsOrOverruns : Prop :=
  ∀ (s : State) (tag a : Nat) (sl : Slot) (prof : Profile), s.hears tag = true → s.media.content ≠ .fault →
    s.sheet.phase = .swathing → s.sheet.close = none → s.sheet.abort = none → s.sheet.openTag = none → a ≤ 120000 →
    s.sheet.queue = [] → s.feed.move = none → s.media.owner = .sheet →
    threadedSlot s.media = some sl → slotProfile s sl = some prof →
    (∀ ch, s.sheet.chans.get ch = true → (chanRec s ch).hold = false) →
    let c := clampInt (-20000) 20000 (prof.sProfile + s.feed.sHost + s.feed.sTrack)
    let counts := forwardCounts a s.feed.k c s.feed.r
    let body : Body := .swath a (Chans.all 0) (Chans.all 0)
    (s.sheet.committed + a ≤ s.sheet.length → 1 ≤ a → counts ≠ 0 →
        exec (.swath tag a (Chans.all 0) (Chans.all 0)) s
          = .next { s with
              sheet := { s.sheet with queue := [⟨tag, a, 0, true⟩], committed := s.sheet.committed + a }
              feed := { s.feed with
                r := newResidue a s.feed.k c s.feed.r
                move := some ⟨⟨.sheet, .sheet, true, a, .swath⟩, counts, c, prof.tracking, s.now, 0⟩ }
              link := replied 0x02 tag body (queuedReply (u8 7)) [] s.link })
      ∧ (s.sheet.length < s.sheet.committed + a →
        exec (.swath tag a (Chans.all 0) (Chans.all 0)) s
          = .next { s with
              sheet := { s.sheet with phase := .faulted, fault := some .overrun }
              link := replied 0x02 tag body (refusedReply .overrun) [eventNotice .sheet 6 (code .overrun)] s.link })

/-- SHEET_CLOSE accepted while the last swath moves, with spit drops of one channel: the converted volume is debited to the serviced
tally and credited to the waste estimate, and the close is recorded; the sheet goes on when the move has ended. -/
def Obligations.SheetCloseCreditsItsSpits : Prop :=
  ∀ (s : State) (tag drops : Nat) (ch : Chan) (t : WasteRec), s.hears tag = true → s.media.content ≠ .fault →
    s.sheet.phase = .swathing → s.sheet.close = none → s.sheet.abort = none → s.feed.move.isSome →
    s.sheet.chans.get ch = true → drops ≠ 0 → s.ample ch drops →
    s.station.waste.tank = some t → s.station.waste.level = .normal →
    let v := (drops * (s.supply.params.get ch).drop + (chanRec s ch).residue) / 10000
    (t.w + v) * 10 < t.capacity * 9 → t.w + v < t.written + 1000000 →
    let spit := (Chans.all 0).set ch drops
    exec (.sheetClose tag (Chans.all 0) spit) s
      = .next { s with
          sheet := { s.sheet with close := some ⟨tag, 0⟩ }
          pump := { s.pump with
            chans := s.pump.chans.set ch { chanRec s ch with
              residue := (drops * (s.supply.params.get ch).drop + (chanRec s ch).residue) % 10000
              e := (chanRec s ch).e - v
              serviced := (chanRec s ch).serviced + v } }
          station := { s.station with
            waste := { s.station.waste with tank := some { t with w := t.w + v } }
            wet := s.station.wet.set ch ⟨s.now, false⟩ }
          link := replied 0x03 tag (.sheetClose (Chans.all 0) spit) (startedReply 0) [] s.link }

/-- SHEET_ABORT without ink. While a swath moves and one waits, the waiting one is DISCARDED, the close under way ends ABORTED, and the
abort waits for the move. On a FAULTED sheet that has fed nothing since the last cut the sheet ends at once, REJECTED, uncut
and uncounted, and the path is IDLE again. What the record of an ended sheet keeps is log entry 4; that the
OP_DONE of the aborted close and of the uncut abort carry the stack count is log entry 62. -/
def Obligations.SheetAbortDiscardsAndEnds : Prop :=
  ∀ (s : State) (tag : Nat), s.hears tag = true → s.media.content ≠ .fault → s.sheet.abort = none → s.sheet.openTag = none →
    let body : Body := .sheetAbort (Chans.all 0) (Chans.all 0)
    (∀ (e f : Swath) (c : CloseRec), s.sheet.phase = .swathing → s.sheet.queue = [e, f] → e.inFlight = true →
        f.inFlight = false → e.tag ≠ f.tag → s.sheet.close = some c → s.feed.move.isSome →
        exec (.sheetAbort tag (Chans.all 0) (Chans.all 0)) s
          = .next { s with
              sheet := { s.sheet with queue := [e], close := none, abort := some (.tagged tag) }
              link := replied 0x04 tag body (startedReply 0)
                [.completion 0x62 f.tag (code .discarded ++ code .ok ++ u32 0 ++ u32 0 ++ absent 4 ++ s32 0 ++ u8 7),
                 opDoneNotice 0x03 c.tag .aborted (u8 s.media.stack)] s.link })
      ∧ (s.sheet.phase = .faulted → s.sheet.queue = [] → s.sheet.close = none → s.sheet.fed = false → s.feed.move = none →
        s.media.cut = none → s.media.owner = .sheet → s.media.ejecting = none → s.media.switch = none →
        exec (.sheetAbort tag (Chans.all 0) (Chans.all 0)) s
          = .next { s with
              sheet := { s.sheet with
                phase := .none, openTag := none, close := none, abort := none, fault := none, dryEnd := none, roomWait := false }
              media := { s.media with owner := .idle }
              link := replied 0x04 tag body (startedReply 0)
                [opDoneNotice 0x04 tag .rejected (u8 s.media.stack)] s.link })

/-- The trailing list after an append is the run of most recent records that R59 names: a part of the list from its newest end on, never
empty, of at most 64 records, in which the records after the oldest cover less than 300,000 µm; and where older records were
removed, it covers 300,000 µm or holds 64 records. It is empty when a sheet is opened, and the dry time takes its zone and its
ink from the sums over it. -/
def Obligations.TrailingListIsTheShortestRun : Prop :=
  (∀ (l : List Trail) (t : Trail), ∃ older newest, l ++ [t] = older ++ newest ∧ addTrail t l = newest
      ∧ newest ≠ [] ∧ newest.length ≤ 64 ∧ (newest.tail.map Trail.advance).sum < 300000
      ∧ (older ≠ [] → 300000 ≤ (newest.map Trail.advance).sum ∨ newest.length = 64))
    ∧ (∀ (q : OpenReq) (w : Work), (beginSheet q w).sheet.trailing = [])
    ∧ ∀ (base coeff width : Nat) (l : List Trail),
      let zone := (l.map Trail.advance).sum
      dryTime base coeff width l
        = min 600000 (base
          + (if zone = 0 then 0 else min 10000 ((l.map Trail.ink).sum * 100000000 / (width * zone))) * coeff)

/-- The last count of the last tail move: the tail and the last-pass ink join the trailing list, and the sheet dries for the base time
plus the ink density, in nL/cm² and at most 10,000, times the coefficient, at most 600,000 ms. -/
def Obligations.TailEndsInDrying : Prop :=
  ∀ (s : State) (m : Move) (sl : Slot) (prof : Profile) (width : Nat) (c : CloseRec) (x : Nat), s.running = true →
    s.feed.move = some m → m.ask = ⟨.sheet, .sheet, true, s.sheet.tailLeft, .tail⟩ → m.tracked = false →
    m.seen + 1 = m.commanded → 1 ≤ s.sheet.tailLeft → s.feed.again = none → threadedSlot s.media = some sl →
    slotProfile s sl = some prof → (s.media.rolls.get sl).measured = some width →
    s.sheet.phase = .tail → s.sheet.abort = none → s.sheet.close = some c →
    let a := s.sheet.tailLeft
    let trailing := addTrail ⟨s.sheet.tailFed + a, c.ink⟩ s.sheet.trailing
    let zone := (trailing.map Trail.advance).sum
    let d := if zone = 0 then 0 else min 10000 ((trailing.map Trail.ink).sum * 100000000 / (width * zone))
    let dry := min 600000 (prof.baseDry + d * prof.dryCoeff)
    dry ≠ 0 →
    exec (.encoderCount x) s
      = .next { s with
          feed := { s.feed with move := none }
          media := { s.media with
            rolls := s.media.rolls.set sl { s.media.rolls.get sl with
              remaining := (s.media.rolls.get sl).remaining.map (· - a) } }
          sheet := { s.sheet with
            phase := .drying, tailLeft := 0, tailFed := s.sheet.tailFed + a, trailing := trailing, fed := true
            dryEnd := some (s.now + dry) }
          link := told [eventNotice .sheet 1 (u32 dry)] s.link }

/-! ## Bays, ink acceptance and the module bus (Chapter 4) -/

/-- An entry matches an ink code in a channel exactly when it is enabled, the channel is in its set, and the code agrees with the code
value in every bit whose mask bit is 0; and the verdict is reject when a REJECT entry matches or no ACCEPT entry does, and
otherwise accept with the lowest-indexed ACCEPT entry that matches. -/
def Obligations.VerdictFollowsTheTable : Prop :=
  (∀ (e : Accept) (c : Nat) (ch : Chan), entryMatches e c ch = true ↔
      e.enabled = true ∧ e.chans.get ch = true ∧ ∀ i, e.mask.testBit i = false → c.testBit i = e.code.testBit i)
    ∧ (∀ (table : List Accept) (c : Nat) (ch : Chan), verdict table c ch = none ↔
        (∃ e ∈ table, e.kind = .reject ∧ entryMatches e c ch = true)
          ∨ ∀ e ∈ table, e.kind = .accept → entryMatches e c ch = false)
    ∧ ∀ (table : List Accept) (c i : Nat) (ch : Chan), verdict table c ch = some i ↔
        (∀ e ∈ table, e.kind = .reject → entryMatches e c ch = false)
          ∧ (∃ e, table[i]? = some e ∧ e.kind = .accept ∧ entryMatches e c ch = true)
          ∧ ∀ j e, j < i → table[j]? = some e → e.kind = .accept → entryMatches e c ch = false

/-- ACCEPT_SET writes the entry with its parameters clamped (Table 4-4) and flags each one changed. With no bay to be judged nothing else
changes. Which flags the reply carries and their order are the model's (log entry 12). -/
def Obligations.AcceptSetWritesTheEntry : Prop :=
  ∀ (s : State) (tag i : Nat) (f : AcceptFields) (enabled : Bool) (kind : AcceptKind) (set : Chans Bool), s.hears tag = true →
    i ≤ 15 → f.enabled = (if enabled then 1 else 0) → f.kind = (if kind = .accept then 0 else 1) →
    chanSetOf f.chans = some set →
    (∀ b, (bayRec s.supply b).state ≠ .active ∧ (bayRec s.supply b).state ≠ .standby
      ∧ (bayRec s.supply b).state ≠ .rejected) →
    s.supply.supplied = Chans.all false →
    let p : Params :=
      ⟨clampNat 10 400 f.drop, clampNat 50 200 f.purge, clampNat 5000 120000 f.keepWet, clampNat 0 3600 f.settle⟩
    exec (.acceptSet tag i f) s
      = .next { s with
          supply := { s.supply with accepts := s.supply.accepts.set i ⟨enabled, kind, f.code, f.mask, set, p⟩ }
          link := replied 0x10 tag (.acceptSet i f)
            (okReply (flag (p.drop ≠ f.drop) ++ flag (p.purge ≠ f.purge) ++ flag (p.keepWet ≠ f.keepWet)
              ++ flag (p.settle ≠ f.settle))) [] s.link }

/-- The re-evaluation after an ACCEPT_SET judges a channel's bays against the table: an ACTIVE, STANDBY or REJECTED bay with a verdict
reject is REJECTED without a matched entry; with a verdict accept it carries the entry named, and a REJECTED one is again in
use; VACANT, READING, SPENT and FAULT bays are left, and no other channel's bays are touched. -/
def Obligations.ReevaluationJudgesTheChannel : Prop :=
  ∀ (w : Work) (ch : Chan), let t := reevaluate ch w
    (∀ b : Bay, b.chan ≠ ch → bayRec t.supply b = bayRec w.supply b)
      ∧ ∀ l : Letter,
        let old := bayRec w.supply ⟨ch, l⟩
        let new := bayRec t.supply ⟨ch, l⟩
        (old.state = .vacant ∨ old.state = .reading ∨ old.state = .spent ∨ old.state = .fault → new = old)
          ∧ ∀ c, old.cart = some c → old.state = .active ∨ old.state = .standby ∨ old.state = .rejected →
            new.cart = some c ∧ new.entry = verdict w.supply.accepts c.ink ch
              ∧ (verdict w.supply.accepts c.ink ch = none → new.state = .rejected)
              ∧ (∀ i, verdict w.supply.accepts c.ink ch = some i → new.state = .active ∨ new.state = .standby)
              ∧ (∀ i, verdict w.supply.accepts c.ink ch = some i → old.state = .active → new.state = .active)

/-- BAY_SELECT of a STANDBY bay while the pump is not granted to its channel: the bays change places, the toggle is reported, the
parameters of the new bay's entry are taken, and the remaining volume of the other bay is written back. Of the ACTIVE bay
it is answered OK and changes nothing; while the pump works for the channel it is refused BUSY. -/
def Obligations.BaySelectSwapsTheBays : Prop :=
  ∀ (s : State) (tag : Nat) (ch : Chan) (l : Letter), s.hears tag = true →
    let body : Body := .baySelect ch.num l.num
    ((bayRec s.supply ⟨ch, l⟩).state = .active →
        exec (.baySelect tag ch.num l.num) s = .next { s with link := replied 0x12 tag body (okReply []) [] s.link })
      ∧ ((bayRec s.supply ⟨ch, l⟩).state = .standby → opOn s.pump ch = true →
        exec (.baySelect tag ch.num l.num) s = .next { s with link := replied 0x12 tag body (refusedReply .busy) [] s.link })
      ∧ ∀ (i : Nat) (e : Accept) (old : Cart), (bayRec s.supply ⟨ch, l⟩).state = .standby →
        (bayRec s.supply ⟨ch, l⟩).entry = some i → s.supply.accepts[i]? = some e →
        (bayRec s.supply ⟨ch, l.other⟩).state = .active → (bayRec s.supply ⟨ch, l.other⟩).cart = some old →
        opOn s.pump ch = false → s.supply.supplied.get ch = true →
        e.params.keepWet = (s.supply.params.get ch).keepWet → e.params.settle ≠ 0 →
        let both := (((s.supply.bays.get ch).set l.other { bayRec s.supply ⟨ch, l.other⟩ with state := .standby }).set l
          { bayRec s.supply ⟨ch, l⟩ with state := .active })
        exec (.baySelect tag ch.num l.num) s
          = .next { s with
              supply := { s.supply with
                bays := s.supply.bays.set ch both
                params := s.supply.params.set ch e.params
                bus := busJoin ⟨.bay ⟨ch, l.other⟩, .write old.remaining, false⟩ s.supply.bus
                busStart := if s.supply.bus.isEmpty then s.now else s.supply.busStart }
              link := replied 0x12 tag body (okReply [])
                [eventNotice .supply 1 (u8 ch.num ++ bayBytes ⟨ch, l.other⟩ ++ bayBytes ⟨ch, l⟩)] s.link }

/-- The presence switches. BAY_INSERTED on a VACANT bay makes it READING and places its read; on any other bay it changes nothing.
BAY_REMOVED of a bay that is neither VACANT nor ACTIVE makes it VACANT with an empty record and drops its operations; of a
VACANT one it changes nothing. Of the ACTIVE bay it does the same and tells a pump operation that draws from it; the selection then
makes a STANDBY partner with the same parameters ACTIVE, or leaves the channel STARVED (R74, R81, R83). TANK_INSERTED and TANK_REMOVED do the same for the tank, whose removal also takes W, C_w and
last written away and makes the level NONE, but leaves the overflow tally. That the tank is named by absent bytes and STARVED by 1 is log entry 12,
that an insertion of a bay or tank already in place has no effect log entry 23. -/
def Obligations.SwitchesFillAndEmptyTheBays : Prop :=
  ∀ (s : State), s.running = true →
    let dropped (u : Supply) (x : Target) : Supply := { u with
      bus := u.bus.filter (fun o => o.target ≠ x)
      busStart := match u.bus with
        | o :: _ => if o.target = x then s.now else u.busStart
        | [] => u.busStart }
    (∀ b : Bay,
        ((bayRec s.supply b).state = .vacant → (∀ o ∈ s.supply.bus, o.target ≠ .bay b) →
            exec (.bayInserted b) s
              = .next { s with
                  supply := { s.supply with
                    bays := s.supply.bays.set b.chan
                      ((s.supply.bays.get b.chan).set b.letter { bayRec s.supply b with state := .reading })
                    bus := s.supply.bus ++ [⟨.bay b, .read, false⟩]
                    busStart := if s.supply.bus.isEmpty then s.now else s.supply.busStart }
                  link := told [eventNotice .supply 0 (bayBytes b ++ u8 1)] s.link })
          ∧ ((bayRec s.supply b).state ≠ .vacant → exec (.bayInserted b) s = .next s)
          ∧ ((bayRec s.supply b).state ≠ .vacant → (bayRec s.supply b).state ≠ .active →
            exec (.bayRemoved b) s
              = .next { s with
                  supply := dropped { s.supply with
                    bays := s.supply.bays.set b.chan ((s.supply.bays.get b.chan).set b.letter BayRec.vacant) } (.bay b)
                  link := told [eventNotice .supply 0 (bayBytes b ++ u8 0)] s.link })
          ∧ ((bayRec s.supply b).state = .active → s.supply.supplied.get b.chan = true →
            let partner : Bay := ⟨b.chan, b.letter.other⟩
            let p := bayRec s.supply partner
            let told' : Pump := { s.pump with
              op := s.pump.op.map (fun o => if o.bay = b then { o with bayGone := true, changed := true } else o) }
            let emptied := (s.supply.bays.get b.chan).set b.letter BayRec.vacant
            let gone : Notice := eventNotice .supply 0 (bayBytes b ++ u8 0)
            (p.state = .standby → p.entry.bind (fun i => (s.supply.accepts[i]?).map Accept.params)
                  = some (s.supply.params.get b.chan) →
                exec (.bayRemoved b) s
                  = .next { s with
                      supply := dropped { s.supply with
                        bays := s.supply.bays.set b.chan (emptied.set b.letter.other { p with state := .active }) } (.bay b)
                      pump := told'
                      link := told [gone, eventNotice .supply 1 (u8 b.chan.num ++ bayBytes b ++ bayBytes partner)] s.link })
              ∧ (p.state ≠ .standby → p.state ≠ .active → s.sheet.phase = .none → s.sheet.abort = none →
                s.station.service = none →
                exec (.bayRemoved b) s
                  = .next { s with
                      supply := dropped { s.supply with
                        bays := s.supply.bays.set b.chan emptied, supplied := s.supply.supplied.set b.chan false } (.bay b)
                      pump := told'
                      link := told [gone, eventNotice .supply 2 (u8 b.chan.num ++ u8 1)] s.link }))
          ∧ ((bayRec s.supply b).state = .vacant → exec (.bayRemoved b) s = .next s))
      ∧ (s.supply.tank.state = .absent → (∀ o ∈ s.supply.bus, o.target ≠ .tank) →
          exec .tankInserted s
            = .next { s with
                supply := { s.supply with
                  tank := { s.supply.tank with state := .reading }
                  bus := s.supply.bus ++ [⟨.tank, .read, false⟩]
                  busStart := if s.supply.bus.isEmpty then s.now else s.supply.busStart }
                link := told [eventNotice .supply 0 (absent 2 ++ u8 1)] s.link })
      ∧ (s.supply.tank.state ≠ .absent →
          exec .tankInserted s = .next s
            ∧ exec .tankRemoved s
              = .next { s with
                  supply := dropped { s.supply with tank := ⟨.absent, 0, []⟩ } .tank
                  station := { s.station with waste := ⟨none, s.station.waste.overflow, .none⟩ }
                  link := told [eventNotice .supply 0 (absent 2 ++ u8 0)] s.link })
      ∧ (s.supply.tank.state = .absent → exec .tankRemoved s = .next s)

/-- MODULE_READ_COMPLETE at the end of a bay's read, 20 ms after its start. Without a usable answer the bay is FAULT with reason MEMORY and
without a record. With a possible record of at least one stroke that the table accepts, the bay is STANDBY when its partner
is ACTIVE, and ACTIVE otherwise; the channel is then SUPPLIED. Before that time the answer is not taken. The kept copy of the
memory is log entry 24, the byte that stands for SUPPLIED in the notice log entry 12. -/
def Obligations.ReadPlacesTheCartridge : Prop :=
  ∀ (s : State) (b : Bay) (startUp : Bool) (rest : List BusOp) (answer : Option (List Byte)), s.running = true →
    s.supply.bus = ⟨.bay b, .read, startUp⟩ :: rest → (bayRec s.supply b).state = .reading →
    let r := bayRec s.supply b
    let placed (x : BayRec) : Supply := { s.supply with
      bays := s.supply.bays.set b.chan ((s.supply.bays.get b.chan).set b.letter x), bus := rest, busStart := s.now }
    (s.now < s.supply.busStart + 20 → exec (.moduleReadComplete answer) s = .next s)
      ∧ (s.supply.busStart + 20 ≤ s.now →
        (answer.bind cartOf = none → activeLetter s.supply b.chan = none → s.supply.supplied.get b.chan = false →
            exec (.moduleReadComplete answer) s
              = .next { s with
                  supply := placed { r with state := .fault, cart := none, entry := none, fault := some .memory }
                  link := told [eventNotice .supply 0 (bayBytes b ++ u8 6 ++ code .memory)] s.link })
          ∧ ∀ (bs : List Byte) (c : Cart) (i : Nat) (e : Accept), answer = some bs → cartOf bs = some c →
            50000000 ≤ c.capacity → c.capacity ≤ 1000000000 → c.remaining ≤ c.capacity → 40000 ≤ c.remaining →
            verdict s.supply.accepts c.ink b.chan = some i → s.supply.accepts[i]? = some e →
            (activeLetter s.supply b.chan = some b.letter.other → s.supply.supplied.get b.chan = true →
                activeParams s.supply b.chan = some (s.supply.params.get b.chan) →
                exec (.moduleReadComplete answer) s
                  = .next { s with
                      supply := placed { r with state := .standby, cart := some c, entry := some i, image := bs }
                      link := told [eventNotice .supply 0 (bayBytes b ++ u8 3)] s.link })
              ∧ (activeLetter s.supply b.chan = none → s.supply.supplied.get b.chan = false →
                e.params = s.supply.params.get b.chan → e.params.settle = 0 → 12000000 ≤ (chanRec s b.chan).e →
                s.sheet.phase = .none → s.sheet.abort = none → s.station.service = none →
                exec (.moduleReadComplete answer) s
                  = .next { s with
                      supply := { placed { r with state := .active, cart := some c, entry := some i, image := bs } with
                        supplied := s.supply.supplied.set b.chan true }
                      link := told
                        [eventNotice .supply 0 (bayBytes b ++ u8 2), eventNotice .supply 2 (u8 b.chan.num ++ u8 0)] s.link }))

/-- MODULE_READ_COMPLETE at the end of the tank's read: a good record makes the tank PRESENT and hands C_w and the content, clamped to it, to
the waste estimate, whose level is set anew, with its SERVICE_EVENT where it becomes NEAR_FULL or FULL or leaves them (R133); a bad one makes it FAULT, without W. The tank's name in the notice is log entry 12, the
kept copy of the memory log entry 24, the order of the two notices log entry 6. -/
def Obligations.TankReadGivesTheWaste : Prop :=
  ∀ (s : State) (startUp : Bool) (rest : List BusOp) (answer : Option (List Byte)), s.running = true →
    s.supply.bus = ⟨.tank, .read, startUp⟩ :: rest → s.supply.tank.state = .reading → s.supply.busStart + 20 ≤ s.now →
    (answer.bind tankOf = none →
        exec (.moduleReadComplete answer) s
          = .next { s with
              supply := { s.supply with
                tank := { s.supply.tank with state := .fault }, bus := rest, busStart := s.now }
              station := { s.station with waste := ⟨none, s.station.waste.overflow, .none⟩ }
              link := told [eventNotice .supply 0 (absent 2 ++ u8 3), eventNotice .supply 7 []] s.link })
      ∧ ∀ (bs : List Byte) (capacity content : Nat), answer = some bs → tankOf bs = some (capacity, content) →
        50000000 ≤ capacity → capacity ≤ 500000000 →
        let w := min content capacity
        let old := s.station.waste.level
        let new := wasteLevelOf w capacity
        exec (.moduleReadComplete answer) s
          = .next { s with
              supply := { s.supply with
                tank := { s.supply.tank with state := .present, image := bs }, bus := rest, busStart := s.now }
              station := { s.station with waste := ⟨some ⟨w, capacity, w⟩, s.station.waste.overflow, new⟩ }
              link := told
                (eventNotice .supply 0 (absent 2 ++ u8 2)
                  :: (if new ≠ old ∧ (new ≠ .normal ∨ old = .nearFull ∨ old = .full) then
                    [eventNotice .service 1 (u8 new.num ++ u32 w ++ u32 capacity)] else [])) s.link }

/-- MODULE_WRITE_COMPLETE at the end of a bay's write, 12 ms after its start. Acknowledged, the memory holds the written value with its
checksum and the write attempts are 0. Not acknowledged for the first time, the attempts become 1 and the write is placed
again with the remaining volume as it then stands (log entry 43: once the next operation is the head). Not acknowledged again, a bay that is not ACTIVE is FAULT with reason
MEMORY, its write attempts left (log entry 22). Before that time nothing changes. The copy of the memory is log entry 24. -/
def Obligations.WriteIsAcknowledgedOrTriedAgain : Prop :=
  ∀ (s : State) (b : Bay) (v : Nat) (startUp acked : Bool) (rest : List BusOp) (c : Cart), s.running = true →
    s.supply.bus = ⟨.bay b, .write v, startUp⟩ :: rest → (bayRec s.supply b).cart = some c →
    let r := bayRec s.supply b
    let placed (x : BayRec) : Supply := { s.supply with
      bays := s.supply.bays.set b.chan ((s.supply.bays.get b.chan).set b.letter x), bus := rest, busStart := s.now }
    (s.now < s.supply.busStart + 12 → exec (.moduleWriteComplete acked) s = .next s)
      ∧ (s.supply.busStart + 12 ≤ s.now →
        exec (.moduleWriteComplete true) s
            = .next { s with supply := placed { r with attempts := 0, image := rewrite 18 6 v r.image } }
          ∧ (r.attempts = 0 →
            exec (.moduleWriteComplete false) s
              = .next { s with
                  supply := { placed { r with attempts := 1 } with bus := busJoin ⟨.bay b, .write c.remaining, false⟩ rest } })
          ∧ (r.attempts ≠ 0 → r.state ≠ .active →
            exec (.moduleWriteComplete false) s
              = .next { s with
                  supply := placed { r with state := .fault, cart := none, entry := none, fault := some .memory }
                  link := told [eventNotice .supply 0 (bayBytes b ++ u8 6 ++ code .memory)] s.link }))

/-- The module memories carry their records. A checksum is the low 8 bits of the sum of the bytes before it, and a record whose last byte
is another is no record. The 19 bytes written for a cartridge record whose fields fit
them (the lot at most 8 characters without 0x00) read back as that record. A
write-back rewrites the four bytes of the remaining volume, or of the waste content, and the checksum, and no other byte;
the record then reads back with that volume and its other fields as they were. -/
def Obligations.CartridgeRecordReadsBack : Prop :=
  (∀ bs : List Byte, (checksum bs).toNat = (bs.map BitVec.toNat).sum % 256)
    ∧ (∀ (bs : List Byte) (x : Byte), x ≠ checksum bs → cartOf (bs ++ [x]) = none ∧ tankOf (bs ++ [x]) = none)
    ∧ (∀ c : Cart, c.ink < 65536 → c.capacity < 4294967296 → c.remaining < 4294967296 → c.lot.length ≤ 8 → textOf c.lot = c.lot →
        cartOf (cartBody c ++ [checksum (cartBody c)]) = some c)
    ∧ (∀ (image : List Byte) (c : Cart) (v : Nat), cartOf image = some c → v < 4294967296 →
        cartOf (rewrite 18 6 v image) = some { c with remaining := v }
          ∧ (rewrite 18 6 v image).take 6 = image.take 6 ∧ ((rewrite 18 6 v image).drop 10).take 8 = (image.drop 10).take 8)
    ∧ ∀ (image : List Byte) (capacity content v : Nat), tankOf image = some (capacity, content) → v < 4294967296 →
      tankOf (rewrite 16 4 v image) = some (capacity, v)
        ∧ (rewrite 16 4 v image).take 4 = image.take 4 ∧ ((rewrite 16 4 v image).drop 8).take 8 = (image.drop 8).take 8

/-! ## The sub-tanks and the pump (Chapter 5) -/

/-- TOP_UP of a SUPPLIED channel clears float-suspect. With the pump idle, the list empty and the FULL float inactive, its fill starts at
once from the ACTIVE bay with the stroke limit of R107; a fill of the channel already in flight takes the tag among its
waiters; of a STARVED channel the request is refused NO_INK. STIR_TIMER_DUE of a channel that is due starts its stir of 20
strokes in the same way; of a channel that is not due it has no effect. REQUEST_AGEING: at each further multiple of 2,000 ms of its
wait the channel's entry has its number decreased by 1, down to 0, and before that it is left; a follow-on does not age. While the
pump works for another channel, a TOP_UP makes an entry with its initial number, or merges into the channel's entry: the more urgent
kind, the lower number, the waiters joined, the wait kept (R104); while a stir of the channel is in flight it merges into the
follow-on in the same way. When a stir has ended its twentieth stroke, the arbiter grants the entry with the lowest number, and among
equals that of the lowest channel (R106). That a TOP_UP raises its request before the refill conditions are looked at is log entry 36; that the twentieth stroke
counts before a third missing one is log entry 17. -/
def Obligations.PumpRequestsStartAndAge : Prop :=
  (∀ (s : State) (ch : Chan), s.running = true →
    exec (.requestAgeing ch) s
      = .next { s with pump := { s.pump with
          list := s.pump.list.map (fun r =>
            if r.chan = ch ∧ r.made + 2000 * (r.aged + 1) ≤ s.now then { r with number := r.number - 1, aged := r.aged + 1 }
            else r) } })
  ∧ ∀ (s : State) (ch : Chan),
    let fresh (kind : PumpKind) (tags : List Nat) (l : Letter) (limit : Nat) : PumpOp :=
      ⟨ch, kind, tags, false, ⟨ch, l⟩, 1, limit, 0, false, 0, 0, s.now, .open, false, false⟩
    (∀ tag, s.hears tag = true →
        let trusted := s.pump.chans.set ch { s.pump.chans.get ch with suspect := false }
        (s.supply.supplied.get ch = false →
            exec (.topUp tag ch.num) s
              = .next { s with link := replied 0x13 tag (.topUp ch.num) (refusedReply .noInk) [] s.link })
          ∧ (∀ l, s.supply.supplied.get ch = true → s.pump.op = none → s.pump.list = [] →
            activeLetter s.supply ch = some l → (chanRec s ch).full = false →
            exec (.topUp tag ch.num) s
              = .next { s with
                  pump := { s.pump with
                    chans := trusted
                    op := some (fresh .topUp [tag] l ((20000000 - (chanRec s ch).e + 39999) / 40000 + 25))
                    valves := s.pump.valves.set ch .fill }
                  link := replied 0x13 tag (.topUp ch.num) (startedReply ch.num) [] s.link })
          ∧ (∀ o, s.supply.supplied.get ch = true → s.pump.op = some o → o.chan = ch → o.kind ≠ .stir →
            exec (.topUp tag ch.num) s
              = .next { s with
                  pump := { s.pump with chans := trusted, op := some { o with tags := o.tags ++ [tag] } }
                  link := replied 0x13 tag (.topUp ch.num) (startedReply ch.num) [] s.link })
          ∧ (∀ o, s.supply.supplied.get ch = true → s.pump.op = some o →
            let more (k : PumpKind) : PumpKind := if k = .prePurge then .prePurge else .topUp
            let joins (p : Pump) : Prop :=
              exec (.topUp tag ch.num) s
                = .next { s with pump := p, link := replied 0x13 tag (.topUp ch.num) (startedReply ch.num) [] s.link }
            (o.chan ≠ ch → entryOf s.pump ch = none →
                joins { s.pump with
                  chans := trusted, list := s.pump.list ++ [⟨ch, .topUp, s.conf.nTopUp, s.now, 0, [tag], false⟩] })
              ∧ (o.chan ≠ ch → entryOf s.pump ch ≠ none →
                joins { s.pump with
                  chans := trusted
                  list := s.pump.list.map (fun r =>
                    if r.chan = ch then
                      { r with kind := more r.kind, number := min r.number s.conf.nTopUp, tags := r.tags ++ [tag] }
                    else r) })
              ∧ (o.chan = ch → o.kind = .stir →
                joins { s.pump with
                  chans := s.pump.chans.set ch { s.pump.chans.get ch with
                    suspect := false
                    follow := match (s.pump.chans.get ch).follow with
                      | none => some ⟨.topUp, s.conf.nTopUp, [tag], false⟩
                      | some f => some ⟨more f.kind, min f.number s.conf.nTopUp, f.tags ++ [tag], f.service⟩ } })))
      ∧ (∀ (o : PumpOp) (r : PumpReq) (l : Letter), s.running = true → s.pump.op = some o → o.chan = ch → o.kind = .stir →
        o.count = o.limit → o.changed = false → o.window ≠ .open → o.strokeStart + 200 ≤ s.now →
        (chanRec s ch).follow = none → 12000000 ≤ (chanRec s ch).e → entryOf s.pump ch = none → r ∈ s.pump.list →
        (∀ x ∈ s.pump.list, x = r ∨ r.number < x.number ∨ (r.number = x.number ∧ r.chan.num < x.chan.num)) →
        s.supply.supplied.get r.chan = true → activeLetter s.supply r.chan = some l →
        r.kind = .stir ∨ (chanRec s r.chan).full = false →
        let limit := if r.kind = .stir then 20 else (20000000 - (chanRec s r.chan).e + 39999) / 40000 + 25
        exec .strokeEnd s
          = .next { s with pump := { s.pump with
              chans := s.pump.chans.set ch { s.pump.chans.get ch with stirSince := some s.now }
              list := s.pump.list.filter (fun x => x.chan ≠ r.chan)
              op := some ⟨r.chan, r.kind, r.tags, r.service, ⟨r.chan, l⟩, 1, limit, 0, false, 0, 0, s.now, .open, false, false⟩
              valves := (s.pump.valves.set ch .closed).set r.chan (if r.kind = .stir then .circulate else .fill) } })
      ∧ (s.running = true →
        (stirWanted s ch = false → exec (.stirTimerDue ch) s = .next s)
          ∧ (∀ l, stirWanted s ch = true → s.pump.op = none → s.pump.list = [] → activeLetter s.supply ch = some l →
            exec (.stirTimerDue ch) s
              = .next { s with
                  pump := { s.pump with op := some (fresh .stir [] l 20), valves := s.pump.valves.set ch .circulate } }))

/-- The strokes of a fill. FLOW_PULSE in an open window adds 40,000 nL to drawn and to E, with the excess above 20,000,000 taken from
reconcile, and charges the bay drawn from, whichever stroke the pulse comes from (log entry 47); DRY and the ink hold then follow E,
with their notices; a stir's pulse only marks its window; at any other time a pulse has no effect. PULSE_WINDOW_END from 150 ms on makes a
stroke without a pulse a missing one. STROKE_END from 200 ms on starts the next stroke while FULL has not come, the bay has not
changed, the limit is not reached and fewer than three strokes in a row are missing. Before their times, and with the pump
idle, neither has any effect. At the end of a stroke the fill ends OK once FULL has come, whatever else has; else it goes on from a
new ACTIVE bay with a new limit and counts of 0, or ends NO_SUPPLY when its channel is STARVED; else it ends FILL_FAULT at its limit,
with float-suspect set; else after three missing strokes the bay's no-flow makes it SPENT with at most a twentieth left, FAULT
otherwise, and the fill goes on from a STANDBY partner, or ends NO_SUPPLY (R109 to R112; where several fall together, log entries 16
and 46; the byte of STARVED log entry 12). An ended fill closes its valve, leaves the pump idle with nothing waiting, sets the stir timer to 0, clears the charged
marks with a write-back of each bay marked, answers each waiting tag with the strokes pulsed, the nL drawn and E, and gives its
notice unless it is OK (R113). -/
def Obligations.StrokesFillTheTank : Prop :=
  ∀ (s : State), s.running = true →
    (s.pump.op = none → exec .flowPulse s = .next s ∧ exec .pulseWindowEnd s = .next s ∧ exec .strokeEnd s = .next s)
      ∧ ∀ (o : PumpOp), s.pump.op = some o →
        let with' (x : PumpOp) : State := { s with pump := { s.pump with op := some x } }
        (o.window ≠ .open → exec .flowPulse s = .next s)
          ∧ (s.now < o.strokeStart + 150 → exec .pulseWindowEnd s = .next s)
          ∧ (s.now < o.strokeStart + 200 → exec .strokeEnd s = .next s)
          ∧ (o.window = .open → o.strokeStart + 150 ≤ s.now →
            exec .pulseWindowEnd s = .next (with' { o with window := .missed, missing := o.missing + 1 }))
          ∧ (o.window ≠ .open → o.strokeStart + 200 ≤ s.now → o.fullCame = false → o.changed = false → o.count ≠ o.limit →
            o.missing < 3 →
            exec .strokeEnd s = .next (with' { o with count := o.count + 1, strokeStart := s.now, window := .open }))
          ∧ (∀ c : Cart, o.window = .open → o.kind ≠ .stir → o.bayGone = false → (bayRec s.supply o.bay).cart = some c →
            (chanRec s o.chan).hold = false → (chanRec s o.chan).dry = false → 2500000 ≤ (chanRec s o.chan).e →
            let r := chanRec s o.chan
            let b := bayRec s.supply o.bay
            exec .flowPulse s
              = .next { s with
                  pump := { s.pump with
                    chans := s.pump.chans.set o.chan { r with
                      drawn := r.drawn + 40000, e := min (r.e + 40000) 20000000
                      reconcile := r.reconcile - ((r.e + 40000 - 20000000 : Nat) : Int) }
                    op := some { o with window := .pulsed, missing := 0, pulsed := o.pulsed + 1, drawn := o.drawn + 40000 } }
                  supply := { s.supply with
                    bays := s.supply.bays.set o.bay.chan ((s.supply.bays.get o.bay.chan).set o.bay.letter
                      { b with cart := some { c with remaining := c.remaining - 40000 }, charged := true }) } })
          ∧ (o.window = .open → o.kind = .stir → exec .flowPulse s = .next (with' { o with window := .pulsed, missing := 0 }))
          ∧ (o.window = .open → o.kind ≠ .stir → o.bayGone = true → s.sheet.phase = .none → s.sheet.abort = none →
            s.station.service = none →
            let r := chanRec s o.chan
            let e := min (r.e + 40000) 20000000
            let dry := if 2500000 < e then false else r.dry
            let hold := if e < 2500000 then true else if 4000000 ≤ e then false else r.hold
            exec .flowPulse s
              = .next { s with
                  pump := { s.pump with
                    chans := s.pump.chans.set o.chan { r with
                      drawn := r.drawn + 40000, e := e, reconcile := r.reconcile - ((r.e + 40000 - 20000000 : Nat) : Int)
                      dry := dry, hold := hold }
                    op := some { o with window := .pulsed, missing := 0, pulsed := o.pulsed + 1, drawn := o.drawn + 40000 } }
                  link := told
                    ((if dry = r.dry then [] else [eventNotice .supply 3 (u8 o.chan.num ++ u8 0)])
                      ++ if hold = r.hold then [] else [eventNotice .supply 4 (u8 o.chan.num ++ u8 (if hold then 1 else 0))])
                    s.link })
          ∧ (o.kind ≠ .stir → o.window ≠ .open → o.strokeStart + 200 ≤ s.now → s.pump.list = [] → s.station.service = none →
            s.sheet.phase = .none → s.sheet.abort = none →
            let ch := o.chan
            let r := chanRec s ch
            let ended (t : State) (outcome : Code) (suspect : Bool) (first : List Notice) : Prop :=
              t.pump = { s.pump with
                  op := none, valves := s.pump.valves.set ch .closed
                  chans := s.pump.chans.set ch { r with stirSince := some s.now, suspect := suspect } }
                ∧ t.link = told (first
                  ++ o.tags.map (fun tag =>
                    opDoneNotice 0x13 tag outcome (u8 ch.num ++ u16 o.pulsed ++ u32 o.drawn ++ u32 r.e))
                  ++ (if outcome = .ok then [] else [eventNotice .supply 5 (u8 ch.num ++ u8 o.kind.num ++ code outcome)])) s.link
                ∧ (∀ l, (bayRec t.supply ⟨ch, l⟩).charged = false
                  ∧ ∀ c, (bayRec s.supply ⟨ch, l⟩).cart = some c → (bayRec s.supply ⟨ch, l⟩).charged = true →
                    ⟨.bay ⟨ch, l⟩, .write c.remaining, false⟩ ∈ t.supply.bus)
                ∧ t = { s with pump := t.pump, link := t.link, supply := t.supply }
            let onward (p : Pump) (l : Letter) : Pump := { p with
              op := some { o with
                bay := ⟨ch, l⟩, limit := (20000000 - r.e + 39999) / 40000 + 25, count := 1, missing := 0, changed := false
                bayGone := false, strokeStart := s.now, window := .open } }
            (o.fullCame = true → 12000000 ≤ r.e → ∃ t, exec .strokeEnd s = .next t ∧ ended t .ok r.suspect [])
              ∧ (∀ l, o.fullCame = false → o.changed = true → activeLetter s.supply ch = some l →
                exec .strokeEnd s = .next { s with pump := onward s.pump l })
              ∧ (o.fullCame = false → o.changed = true → activeLetter s.supply ch = none → s.supply.supplied.get ch = false →
                ∃ t, exec .strokeEnd s = .next t ∧ ended t .noSupply r.suspect [])
              ∧ (o.fullCame = false → o.changed = false → o.count = o.limit →
                ∃ t, exec .strokeEnd s = .next t ∧ ended t .fillFault true [])
              ∧ (∀ (l : Letter) (b : BayRec) (c : Cart), o.fullCame = false → o.changed = false → o.count ≠ o.limit →
                3 ≤ o.missing → o.bay = ⟨ch, l⟩ → bayRec s.supply o.bay = b → b.state = .active → b.cart = some c →
                s.supply.supplied.get ch = true →
                let spent : Prop := c.remaining * 20 ≤ c.capacity
                let left : Notice :=
                  eventNotice .supply 0 (bayBytes o.bay ++ (if c.remaining * 20 ≤ c.capacity then u8 4 else u8 6 ++ code .noFlow))
                let gone (t : State) (charged : Bool) : Prop :=
                  (spent → bayRec t.supply o.bay = { b with state := .spent, entry := none, charged := charged })
                    ∧ (¬spent → bayRec t.supply o.bay
                      = { b with state := .fault, entry := none, fault := some .noFlow, charged := charged })
                    ∧ ⟨.bay o.bay, .write c.remaining, false⟩ ∈ t.supply.bus
                ((bayRec s.supply ⟨ch, l.other⟩).state = .standby →
                    (bayRec s.supply ⟨ch, l.other⟩).entry.bind (fun i => (s.supply.accepts[i]?).map Accept.params)
                      = some (s.supply.params.get ch) →
                    ∃ t, exec .strokeEnd s = .next t ∧ gone t b.charged ∧ t.pump = onward s.pump l.other
                      ∧ bayRec t.supply ⟨ch, l.other⟩ = { bayRec s.supply ⟨ch, l.other⟩ with state := .active }
                      ∧ t.supply.supplied = s.supply.supplied
                      ∧ t.link = told
                        [left, eventNotice .supply 1 (u8 ch.num ++ bayBytes o.bay ++ bayBytes ⟨ch, l.other⟩)] s.link
                      ∧ t = { s with pump := t.pump, link := t.link, supply := t.supply })
                  ∧ ((bayRec s.supply ⟨ch, l.other⟩).state ≠ .standby → (bayRec s.supply ⟨ch, l.other⟩).state ≠ .active →
                    ∃ t, exec .strokeEnd s = .next t ∧ gone t false ∧ t.supply.supplied = s.supply.supplied.set ch false
                      ∧ ended t .noSupply r.suspect [left, eventNotice .supply 2 (u8 ch.num ++ u8 1)])))

/-- FLOAT_CHANGE. FULL becoming active sets E to 19,000,000 and clears float-suspect, LOW becoming active sets it to 4,000,000; the
difference goes to reconcile. Both clear DRY and the ink hold, DRY first (log entry 15), with their notices. A float that was active
already (log entry 23), or becomes inactive, only has its level recorded. (No fill of the channel is in flight for FULL, and no refill is
raised at LOW, by the hypotheses.) -/
def Obligations.FloatsOverwriteTheEstimate : Prop :=
  ∀ (s : State) (ch : Chan), s.running = true → s.sheet.phase = .none → s.sheet.abort = none → s.station.service = none →
    let c := chanRec s ch
    let with' (x : Channel) (ns : List Notice) : State := { s with
      pump := { s.pump with chans := s.pump.chans.set ch x }, link := told ns s.link }
    let cleared : List Notice :=
      (if c.dry then [eventNotice .supply 3 (u8 ch.num ++ u8 0)] else [])
        ++ (if c.hold then [eventNotice .supply 4 (u8 ch.num ++ u8 0)] else [])
    let marked (mark : Nat) : Channel :=
      { c with e := mark, reconcile := c.reconcile + ((mark : Int) - (c.e : Int)), dry := false, hold := false }
    (exec (.floatChange ch .full false) s = .next (with' { c with full := false } []))
      ∧ (exec (.floatChange ch .low false) s = .next (with' { c with low := false } []))
      ∧ (c.full = true → exec (.floatChange ch .full true) s = .next s)
      ∧ (c.low = true → exec (.floatChange ch .low true) s = .next s)
      ∧ (c.full = false → opOn s.pump ch = false →
        exec (.floatChange ch .full true) s
          = .next (with' { marked 19000000 with full := true, suspect := false } cleared))
      ∧ (c.low = false → s.supply.supplied.get ch = false ∨ c.suspect = true ∨ opOn s.pump ch = true →
        exec (.floatChange ch .low true) s = .next (with' { marked 4000000 with low := true } cleared))

/-- The conversion of drops and its debit. With T = drops × drop volume + drop residue, the volume is T / 10,000 and the new residue the
rest; in the same event E falls by the volume, down to 0, the debit's tally grows by it, and a shortfall goes to reconcile and
sets DRY. A count of 0 changes nothing, and taking new parameters leaves the residue. So over any run of debits of a
channel, each with its own tally and drop count, the volumes times 10,000, plus the residue left, equal the drops times the
drop volume, plus the residue before; and the residue stays below 10,000. -/
def Obligations.DropsLoseNothing : Prop :=
  (∀ (w : Work) (t : Tally) (ch : Chan) (drops : Nat),
      let c := chanRec w.toState ch
      let total := drops * (w.supply.params.get ch).drop + c.residue
      let v := total / 10000
      let d := debitDrops t ch drops w
      let after := chanRec d.2.toState ch
      (drops = 0 → d = (0, w))
        ∧ (drops ≠ 0 → d.1 = v ∧ after.residue = total % 10000 ∧ after.e = c.e - v
          ∧ after.printed = c.printed + (if t = .printed then v else 0)
          ∧ after.serviced = c.serviced + (if t = .serviced then v else 0)
          ∧ after.reconcile = c.reconcile + ((v - c.e : Nat) : Int) ∧ (c.e < v → after.dry = true)))
    ∧ (∀ (w : Work) (ch other : Chan),
      (chanRec (takeParams ch w).toState other).residue = (chanRec w.toState other).residue)
    ∧ ∀ (w : Work) (ch : Chan) (debits : List (Tally × Nat)),
      let run := debits.foldl
        (fun (x : Nat × Work) d => (x.1 + (debitDrops d.1 ch d.2 x.2).1, (debitDrops d.1 ch d.2 x.2).2)) (0, w)
      run.1 * 10000 + (chanRec run.2.toState ch).residue
          = (debits.map Prod.snd).sum * (w.supply.params.get ch).drop + (chanRec w.toState ch).residue
        ∧ ((chanRec w.toState ch).residue < 10000 → (chanRec run.2.toState ch).residue < 10000)

/-! ## The carriage, the sled and the waste (Chapter 6, 7.1) -/

/-- UNCAP and CAP are decided by the carriage record line by line: BUSY under a claim, a move, a suction run or SERVICE_MOVE;
CARRIAGE_NOT_PARKED when RELEASED; STARTED with a motion of the sled, or joining the same motion, its tag among the
waiters (that CAP joins a raising that a reset has started is log entry 48); BUSY against the opposite motion; OK when the carriage is
already there. -/
def Obligations.UncapAndCapFollowTheirTables : Prop :=
  ∀ (s : State) (tag : Nat), s.hears tag = true →
    let c := s.station.car
    let busy := c.claims ≠ ⟨false, false, false⟩ ∨ c.move ≠ none ∨ c.suction ≠ none ∨ c.state = .serviceMove
    let uncaps (x : Carriage) (r : Reply) : Prop :=
      exec (.uncap tag) s
        = .next { s with station := { s.station with car := x }, link := replied 0x18 tag .uncap r [] s.link }
    let caps (x : Carriage) (r : Reply) : Prop :=
      exec (.cap tag) s = .next { s with station := { s.station with car := x }, link := replied 0x19 tag .cap r [] s.link }
    let waits (sled : Sled) : Carriage := { c with sled := sled, tags := c.tags ++ [tag], idleSince := none }
    (busy → uncaps c (refusedReply .busy) ∧ caps c (refusedReply .busy))
      ∧ (¬busy →
        (c.state = .released → uncaps c (refusedReply .carriageNotParked) ∧ caps c (refusedReply .carriageNotParked))
          ∧ (c.state = .capped → c.sled = .still →
            uncaps (waits (.lowering s.now)) (startedReply 0) ∧ caps c (okReply []))
          ∧ (∀ t, c.state = .capped → c.sled = .lowering t → uncaps (waits c.sled) (startedReply 0) ∧ caps c (refusedReply .busy))
          ∧ (∀ t, c.state = .open → c.sled = .raising t → uncaps c (refusedReply .busy) ∧ caps (waits c.sled) (startedReply 0))
          ∧ (c.state = .open → c.sled = .still → uncaps c (okReply []) ∧ caps (waits (.raising s.now)) (startedReply 0)))

/-- RELEASE and PARK. RELEASE is BUSY under a claim, a cut hold, a move, a sled motion or SERVICE_MOVE; otherwise OPEN becomes RELEASED,
RELEASED stays, and CAPPED is BAD_STATE. PARK of a RELEASED carriage that the home sensor sees makes it OPEN, here with
nothing waiting for it; one that it does not see is NOT_AT_HOME; in any other state nothing changes. What the sensor sees is an operand
(log entry 7). -/
def Obligations.ReleaseAndParkHandTheCarriage : Prop :=
  ∀ (s : State) (tag : Nat) (home : Bool), s.hears tag = true →
    let c := s.station.car
    let busy := c.claims ≠ ⟨false, false, false⟩ ∨ c.hold ≠ .none ∨ c.move ≠ none ∨ c.sled ≠ .still ∨ c.state = .serviceMove
    let releases (x : Carriage) (r : Reply) : Prop :=
      exec (.release tag) s
        = .next { s with station := { s.station with car := x }, link := replied 0x1A tag .release r [] s.link }
    let parks (x : Carriage) (r : Reply) : Prop :=
      exec (.park tag home) s
        = .next { s with
            station := { s.station with car := { x with home := home } }, link := replied 0x1B tag .park r [] s.link }
    (busy → releases c (refusedReply .busy))
      ∧ (¬busy → c.state = .open → releases { c with state := .released, idleSince := none } (okReply []))
      ∧ (¬busy → c.state = .released → releases c (okReply []))
      ∧ (¬busy → c.state = .capped → releases c (refusedReply .badState))
      ∧ (c.state ≠ .released → parks c (okReply []))
      ∧ (c.state = .released → home = false → parks c (refusedReply .notAtHome))
      ∧ (c.state = .released → home = true → c.hold ≠ .waiting → c.move = none → s.media.switch = none →
        parks (({ c with state := .open } : Carriage).timed s.now) (okReply []))

/-- The end of a sled motion, with no carriage move and no service to wait for it. CAP_DOWN_COMPLETE ends a lowering in OPEN and
CAP_UP_COMPLETE a raising in CAPPED, OK; every wet clock is then 0. SLED_TIMEOUT from 800 ms on ends either in the state
it stands in, CAP_FAULT, and a raising for which nobody waits reports its fault. Each waiting tag receives OP_DONE with the
carriage state. A report that belongs to no motion has no effect. AUTO_CAP starts a raising without a waiter when the idle
time has reached the auto-cap delay, and has no effect otherwise. -/
def Obligations.SledMotionsEnd : Prop :=
  ∀ (s : State), s.running = true → s.media.switch = none →
    let c := s.station.car
    let ends (kind : Nat) (st : CarState) (wet : Chans Wet) (outcome : Code) (ns : List Notice) : State := { s with
      station := { s.station with
        car := ({ c with state := st, sled := .still, tags := [], serviceWaits := false } : Carriage).timed s.now, wet := wet }
      link := told (c.tags.map (fun t => opDoneNotice kind t outcome (u8 st.num)) ++ ns) s.link }
    (c.sled = .still → exec .capDownComplete s = .next s ∧ exec .capUpComplete s = .next s ∧ exec .sledTimeout s = .next s)
      ∧ (c.move = none → c.hold ≠ .waiting → c.serviceWaits = false →
        (∀ t, c.sled = .lowering t → c.state = .capped →
            exec .capDownComplete s = .next (ends 0x18 .open (Chans.all ⟨s.now, false⟩) .ok [])
              ∧ exec .capUpComplete s = .next s
              ∧ (s.now < t + 800 → exec .sledTimeout s = .next s)
              ∧ (t + 800 ≤ s.now → exec .sledTimeout s = .next (ends 0x18 .capped s.station.wet .capFault [])))
          ∧ (∀ t, c.sled = .raising t → c.state = .open →
            exec .capUpComplete s = .next (ends 0x19 .capped (Chans.all ⟨s.now, false⟩) .ok [])
              ∧ exec .capDownComplete s = .next s
              ∧ (s.now < t + 800 → exec .sledTimeout s = .next s)
              ∧ (t + 800 ≤ s.now →
                exec .sledTimeout s
                  = .next (ends 0x19 .open s.station.wet .capFault
                      (if c.tags = [] then [eventNotice .service 0 []] else [])))))
      ∧ (∀ t, c.idleSince = some t → t + s.conf.autoCap ≤ s.now →
        exec .autoCap s
          = .next { s with station := { s.station with car := { c with sled := .raising s.now, idleSince := none } } })
      ∧ (∀ t, c.idleSince = some t → s.now < t + s.conf.autoCap → exec .autoCap s = .next s)
      ∧ (c.idleSince = none → exec .autoCap s = .next s)

/-- The action of a carriage move ends and its return begins: WIPE_COMPLETE ends a wipe, WIDTH_SCAN_PASS_END a width scan with the
distance between the first and the last edge as its width, and ACTION_DEADLINE from 1,500 ms (a wipe) or 3,000 ms (a scan)
on ends it with WIPE_FAULT or CAP_FAULT. PATTERN_LEG_END turns a check pass to its return leg and restarts the wet clock of
the row's channel. CARRIAGE_SENSOR_READING, with no calibration under way, is the next reading of a width scan, whose edges lie between
readings on either side of 128, or the next sample of a return leg: the 1,037th ends the pass, that of row 1 the action, and after
that of row 0 the second pass starts with its debit of 40,960 drops, added to the check's pattern ink (R128, R158). A report that
belongs to no such action has no effect. -/
def Obligations.ActionsEndAndTheReturnBegins : Prop :=
  ∀ (s : State), s.running = true →
    (s.station.car.move = none →
        exec .wipeComplete s = .next s ∧ exec .widthScanPassEnd s = .next s ∧ exec .actionDeadline s = .next s
          ∧ exec .patternLegEnd s = .next s)
      ∧ ∀ (m : CarMove) (t : Nat), s.station.car.move = some m → m.phase = .action t → s.station.car.idleSince = none →
        let with' (x : CarMove) : State := { s with
          station := { s.station with car := { s.station.car with move := some x } } }
        let back (fault : Option Code) : CarMove := { m with phase := .returning s.now, fault := fault }
        (m.kind = .wipe →
            exec .wipeComplete s = .next (with' (back none))
              ∧ (s.now < t + 1500 → exec .actionDeadline s = .next s)
              ∧ (t + 1500 ≤ s.now → exec .actionDeadline s = .next (with' (back (some .wipeFault)))))
          ∧ (m.kind ≠ .wipe → exec .wipeComplete s = .next s
              ∧ (s.now < t + 3000 → exec .actionDeadline s = .next s)
              ∧ (t + 3000 ≤ s.now → exec .actionDeadline s = .next (with' (back (some .capFault)))))
          ∧ (m.kind = .widthScan →
            exec .widthScanPassEnd s = .next (with' { back none with
              width := match m.widths.firstEdge, m.widths.lastEdge with
                | some a, some b => b - a
                | _, _ => 0 }))
          ∧ (m.kind ≠ .widthScan → exec .widthScanPassEnd s = .next s)
          ∧ (∀ h, m.kind = .checkScan h →
            (m.scan.outward = false → exec .patternLegEnd s = .next s)
              ∧ (m.scan.outward = true →
                exec .patternLegEnd s
                  = .next { s with
                      station := { s.station with
                        car := { s.station.car with move := some { m with scan := { m.scan with outward := false } } }
                        wet := s.station.wet.set (h.chan m.scan.row) ⟨s.now, false⟩ } }))
          ∧ ∀ (d : Nat), (∀ c u, s.checker.check = some c → c.step ≠ .calibOn u ∧ c.step ≠ .calibOff u) →
            let samples := d :: m.scan.samples
            (m.kind = .wipe ∨ (∃ h, m.kind = .checkScan h ∧ m.scan.outward = true) → exec (.carriageSensorReading d) s = .next s)
              ∧ (m.kind = .widthScan →
                let pos := 100 * m.widths.count
                let edge := m.widths.last.any (fun l => decide (l < 128) != decide (d < 128))
                exec (.carriageSensorReading d) s
                  = .next (with' { m with widths := ⟨m.widths.count + 1, some d,
                      if edge then some (m.widths.firstEdge.getD pos) else m.widths.firstEdge,
                      if edge then some pos else m.widths.lastEdge⟩ }))
              ∧ ∀ h, m.kind = .checkScan h → m.scan.outward = false →
                (samples.length < 1037 →
                    exec (.carriageSensorReading d) s = .next (with' { m with scan := { m.scan with samples := samples } }))
                  ∧ (1037 ≤ samples.length → m.scan.row = .r1 →
                    exec (.carriageSensorReading d) s
                      = .next (with' { back none with scan := { m.scan with samples := [], done1 := some samples.reverse } }))
                  ∧ (∀ c, 1037 ≤ samples.length → m.scan.row = .r0 → s.checker.check = some c → s.ample (h.chan .r1) 40960 →
                    let ch := h.chan .r1
                    let r := chanRec s ch
                    let total := 40960 * (s.supply.params.get ch).drop + r.residue
                    let next := with'
                      { m with phase := .action s.now, scan := ⟨.r1, true, [], some samples.reverse, none⟩ }
                    exec (.carriageSensorReading d) s
                      = .next { next with
                          pump := { s.pump with chans := s.pump.chans.set ch { r with
                            e := r.e - total / 10000, printed := r.printed + total / 10000, residue := total % 10000 } }
                          checker := { s.checker with
                            check := some { c with ink := c.ink.set ch (c.ink.get ch + total / 10000) } } })

/-- HOME_REPORT and RETURN_TIMEOUT. The return that a mechanism reset makes: seen at home, the carriage is OPEN and a raising starts
with no waiter; from 2,000 ms on without home, it is RELEASED and a cap fault is reported. The return of the wipe that a
level 1 service of one head ends with: seen at home after a good wipe, the head is completed, its wet clocks restart, its
CLEAN_DUE is cleared, W is written back, the claim is given up and the service ends OK with the carriage OPEN. With no
return in progress neither has any effect, and before its time the timeout has none. -/
def Obligations.ReturnsEnd : Prop :=
  ∀ (s : State), s.running = true → s.media.switch = none →
    let c := s.station.car
    (c.resetReturn = none → c.move = none → exec .homeReport s = .next s ∧ exec .returnTimeout s = .next s)
      ∧ (∀ t, c.resetReturn = some t → c.state = .serviceMove → c.move = none → c.hold = .none → c.sled = .still →
        exec .homeReport s
            = .next { s with station := { s.station with
                car := { c with state := .open, sled := .raising s.now, resetReturn := none, idleSince := none, home := true } } }
          ∧ (s.now < t + 2000 → exec .returnTimeout s = .next s)
          ∧ (t + 2000 ≤ s.now →
            exec .returnTimeout s
              = .next { s with
                  station := { s.station with
                    car := { c with state := .released, resetReturn := none, idleSince := none, home := false } }
                  link := told [eventNotice .service 0 []] s.link }))
      ∧ ∀ (m : CarMove) (t tag : Nat) (v : Service) (x : WasteRec), c.resetReturn = none → c.move = some m →
        m.phase = .returning t → m.fault = none → m.requester = .service → m.kind = .wipe → c.state = .serviceMove →
        c.hold = .none → c.sled = .still → c.claims = ⟨false, false, true⟩ → c.suction = none →
        s.station.service = some v → v.by' = .host tag → v.level = 1 → v.mask = (Heads.all false).set v.head true →
        v.step = .wipe → v.moveAgain = false → v.completed = [] → s.station.waste.tank = some x → s.supply.tank.state = .present →
        s.checker.check = none → s.media.seq = none →
        exec .homeReport s
          = .next { s with
              supply := { s.supply with
                bus := busJoin ⟨.tank, .write x.w, false⟩ s.supply.bus
                busStart := if s.supply.bus.isEmpty then s.now else s.supply.busStart }
              station := { s.station with
                car := { c with
                  state := .open, claims := ⟨false, false, false⟩, move := none, home := true, idleSince := some s.now }
                waste := { s.station.waste with tank := some { x with written := x.w } }
                wet := (s.station.wet.set (v.head.chan .r0) ⟨s.now, false⟩).set (v.head.chan .r1) ⟨s.now, false⟩
                cleanDue := s.station.cleanDue.set v.head false
                service := none }
              link := told
                ((if s.station.cleanDue.get v.head then [eventNotice .service 3 (u8 v.head.num ++ u8 0)] else [])
                  ++ [opDoneNotice 0x1C tag .ok
                    (u8 1 ++ u8 (headByte v.mask) ++ u8 (headByte v.mask) ++ absent 1 ++ u8 1
                      ++ (forMask v.mask v.serviced.get).toList.flatMap u32)]) s.link }

/-- SUCTION_COMPLETE ends the run of a level 2 service OK, and the uncap step then lowers the sled. SUCTION_TIMEOUT when 3,000 ms and a
millisecond for each begun 1,000 nL have passed ends the run and the service SUCTION_FAULT: W is written back, the claim is
given up and OP_DONE names the head and the heads completed; before that time it has no effect, and neither has a report
without a run. SPIT_DUE_LIMIT sets the
channel's SPIT_DUE with its notice when the wet clock is beyond the keep-wet time and the flag is clear, CLEAN_DUE_LIMIT
then sets CLEAN_DUE of its head when the clock is beyond four times that time; otherwise neither has any effect. -/
def Obligations.SuctionEndsAndClocksComeDue : Prop :=
  ∀ (s : State), s.running = true →
    (s.station.car.suction = none → exec .suctionComplete s = .next s ∧ exec .suctionTimeout s = .next s)
      ∧ (∀ u, s.station.car.suction = some u → s.now < u.start + 3000 + (u.volume + 999) / 1000 →
        exec .suctionTimeout s = .next s)
      ∧ (∀ (u : Suction) (v : Service), s.station.car.suction = some u → s.station.service = some v → v.step = .suction →
        v.level = 2 → s.station.car.state = .capped → s.station.car.sled = .still →
        exec .suctionComplete s
          = .next { s with station := { s.station with
              car := { s.station.car with
                suction := none, sled := .lowering s.now, serviceWaits := true, idleSince := none }
              service := some { v with
                step := .uncap, waitEnd := none, ownMotion := true, moveAgain := false, spitEnd := none } } })
      ∧ (∀ (u : Suction) (v : Service) (tag : Nat) (x : WasteRec), s.station.car.suction = some u →
        u.start + 3000 + (u.volume + 999) / 1000 ≤ s.now → s.station.service = some v → v.step = .suction →
        v.by' = .host tag → s.station.waste.tank = some x → s.supply.tank.state = .present → s.media.switch = none →
        s.station.car.state = .capped → s.station.car.hold ≠ .waiting → s.station.car.move = none →
        exec .suctionTimeout s
          = .next { s with
              supply := { s.supply with
                bus := busJoin ⟨.tank, .write x.w, false⟩ s.supply.bus
                busStart := if s.supply.bus.isEmpty then s.now else s.supply.busStart }
              station := { s.station with
                car := { s.station.car with
                  claims := { s.station.car.claims with service := false }, suction := none, idleSince := none }
                waste := { s.station.waste with tank := some { x with written := x.w } }
                service := none }
              link := told
                [opDoneNotice 0x1C tag .suctionFault
                  (u8 v.level ++ u8 (headByte v.mask) ++ u8 (headByte (headMaskOf v.completed)) ++ u8 v.head.num ++ u8 0
                    ++ (forMask v.mask v.serviced.get).toList.flatMap u32)] s.link })
      ∧ ∀ ch : Chan,
        let clock := wetClock s ch
        let keep := (s.supply.params.get ch).keepWet
        let x := s.station.wet.get ch
        let flagged (st : Station) : Station := { st with wet := st.wet.set ch { x with spitDue := true } }
        let spit : Notice := eventNotice .service 2 (u8 ch.num ++ u32 clock)
        (keep < clock → x.spitDue = false →
            exec (.spitDueLimit ch) s = .next { s with station := flagged s.station, link := told [spit] s.link })
          ∧ (clock ≤ keep ∨ x.spitDue = true → exec (.spitDueLimit ch) s = .next s)
          ∧ (4 * keep < clock → x.spitDue = true → s.station.cleanDue.get ch.head = false →
            exec (.cleanDueLimit ch) s
              = .next { s with
                  station := { s.station with cleanDue := s.station.cleanDue.set ch.head true }
                  link := told [eventNotice .service 3 (u8 ch.head.num ++ u8 1)] s.link })
          ∧ (clock ≤ keep ∨ x.spitDue = true → clock ≤ 4 * keep ∨ s.station.cleanDue.get ch.head = true →
            exec (.cleanDueLimit ch) s = .next s)

/-! ## Services (Chapter 7) -/

/-- SERVICE of valid heads and level is refused by the first failing step of R140. One that passes is taken: the reply is STARTED, the
claim is taken, the record is made with its purge volumes fixed, and the first step of the lowest head starts. At level 1
from CAPPED the sled is lowered, at level 2 or 3 from OPEN it is raised, the service waiting for it. At level 2 or 3 from CAPPED, with
both channels of the head amply covered, the cap step and the purge precondition end at once and the suction starts: each channel is
debited its purge volume, the total is credited to the waste estimate, whose level is reported as R133 says, and W is written back once it stands 1,000,000 nL above what
was last written (R145 to R147, R132, R134). -/
def Obligations.ServiceIsCheckedAndTaken : Prop :=
  ∀ (s : State) (tag heads level : Nat) (mask : Heads Bool) (h : Head) (rest : List Head), s.hears tag = true →
    headSetOf heads = some mask → mask.members = h :: rest → 1 ≤ level → level ≤ 3 →
    let c := s.station.car
    let planned := (allChans.map (fun ch => if mask.get ch.head then
      ((204800 * (s.supply.params.get ch).drop + 9999) / 10000)
        + (if level = 2 then 4000 else if level = 3 then 12000 else 0) * (s.supply.params.get ch).purge else 0)).sum
    let refused (reason : Code) : Prop :=
      exec (.service tag heads level) s
        = .next { s with link := replied 0x1C tag (.service heads level) (refusedReply reason) [] s.link }
    let record (step : ServiceStep) : Service :=
      ⟨.host tag, level, mask,
        forMask mask (fun ch =>
          if level = 2 then 4000 * (s.supply.params.get ch).purge
          else if level = 3 then 12000 * (s.supply.params.get ch).purge else 0),
        h, step, [], none, Chans.all 0, true, false, none⟩
    let taken (sled : Sled) (step : ServiceStep) : Prop :=
      exec (.service tag heads level) s
        = .next { s with
            station := { s.station with
              car := { c with
                sled := sled, serviceWaits := true, claims := { c.claims with service := true }, idleSince := none }
              service := some (record step) }
            link := replied 0x1C tag (.service heads level) (startedReply heads) [] s.link }
    let parked' := c.state = .capped ∨ c.state = .open
    (¬parked' → refused .carriageNotParked)
      ∧ (parked' → c.claims ≠ ⟨false, false, false⟩ → refused .busy)
      ∧ (parked' → c.claims = ⟨false, false, false⟩ →
        (s.station.waste.tank = none → refused .noWasteTank)
          ∧ ∀ t, s.station.waste.tank = some t →
            (t.capacity - t.w < planned → refused .wasteFull)
              ∧ (planned ≤ t.capacity - t.w → 2 ≤ level → s.sheet.phase ≠ .none → refused .badState)
              ∧ (planned ≤ t.capacity - t.w → level = 1 → c.state = .capped → c.sled = .still → taken (.lowering s.now) .uncap)
              ∧ (planned ≤ t.capacity - t.w → 2 ≤ level → s.sheet.phase = .none → c.state = .open → c.sled = .still →
                taken (.raising s.now) .cap)
              ∧ (planned ≤ t.capacity - t.w → 2 ≤ level → s.sheet.phase = .none → s.sheet.abort = none → c.state = .capped →
                c.sled = .still → t.w ≤ t.capacity →
                let purge (ch : Chan) : Nat := (if level = 2 then 4000 else 12000) * (s.supply.params.get ch).purge
                let a := h.chan .r0
                let b := h.chan .r1
                let total := purge a + purge b
                (∀ ch, ch.head = h →
                  purge ch + 12000000 ≤ (chanRec s ch).e ∧ (chanRec s ch).dry = false ∧ (chanRec s ch).hold = false) →
                let debited (ch : Chan) : Channel :=
                  { chanRec s ch with e := (chanRec s ch).e - purge ch, serviced := (chanRec s ch).serviced + purge ch }
                let far := t.written + 1000000 ≤ t.w + total
                ∃ u, exec (.service tag heads level) s = .next u
                  ∧ u.pump = { s.pump with chans := (s.pump.chans.set a (debited a)).set b (debited b) }
                  ∧ u.station = { s.station with
                      car := { c with
                        claims := { c.claims with service := true }, idleSince := none, suction := some ⟨h, total, s.now⟩ }
                      service := some { record .suction with
                        ownMotion := false, serviced := ((Chans.all 0).set a (purge a)).set b (purge b) }
                      waste := { s.station.waste with
                        tank := some { t with w := t.w + total, written := if far then t.w + total else t.written }
                        level := wasteLevelOf (t.w + total) t.capacity } }
                  ∧ (far → s.supply.tank.state = .present → ⟨.tank, .write (t.w + total), false⟩ ∈ u.supply.bus)
                  ∧ (¬far → u.supply = s.supply)
                  ∧ (let old := s.station.waste.level
                    let new := wasteLevelOf (t.w + total) t.capacity
                    u.link = replied 0x1C tag (.service heads level) (startedReply heads)
                      (if new ≠ old ∧ (new ≠ .normal ∨ old = .nearFull ∨ old = .full) then
                        [eventNotice .service 1 (u8 new.num ++ u32 (t.w + total) ++ u32 t.capacity)] else []) s.link)
                  ∧ u = { s with pump := u.pump, station := u.station, supply := u.supply, link := u.link }))

/-- The two waits of a service. PRE_PURGE_WAIT_END when wait end has passed ends a service of one head NO_INK: its waits are given up,
the requests stay, W is written back, the claim is given up and OP_DONE names the head. SPIT_FIRING_END when the 400 ms
have passed ends the spit step; at level 1 the wipe move then begins its action, the carriage being OPEN. Before their
times, and without a service, neither has any effect. -/
def Obligations.ServiceWaitsEnd : Prop :=
  ∀ (s : State), s.running = true →
    (s.station.service = none → exec .prePurgeWaitEnd s = .next s ∧ exec .spitFiringEnd s = .next s)
      ∧ ∀ v : Service, s.station.service = some v →
        (∀ t, v.waitEnd = some t → s.now < t → exec .prePurgeWaitEnd s = .next s)
          ∧ (∀ t, v.spitEnd = some t → s.now < t → exec .spitFiringEnd s = .next s)
          ∧ (∀ (t tag : Nat) (x : WasteRec), v.step = .precondition → v.waitEnd = some t → t ≤ s.now → v.by' = .host tag →
            v.mask = (Heads.all false).set v.head true → v.completed = [] →
            s.station.waste.tank = some x → s.supply.tank.state = .present → s.media.switch = none →
            s.station.car.state = .capped → s.station.car.hold ≠ .waiting → s.station.car.move = none →
            exec .prePurgeWaitEnd s
              = .next { s with
                  pump := { s.pump with
                    list := s.pump.list.map (fun r => { r with service := false })
                    op := s.pump.op.map (fun o => { o with service := false })
                    chans := s.pump.chans.map (fun c =>
                      { c with follow := c.follow.map (fun f => { f with service := false }) }) }
                  supply := { s.supply with
                    bus := busJoin ⟨.tank, .write x.w, false⟩ s.supply.bus
                    busStart := if s.supply.bus.isEmpty then s.now else s.supply.busStart }
                  station := { s.station with
                    car := { s.station.car with
                      claims := { s.station.car.claims with service := false }, idleSince := none }
                    waste := { s.station.waste with tank := some { x with written := x.w } }
                    service := none }
                  link := told
                    [opDoneNotice 0x1C tag .noInk
                      (u8 v.level ++ u8 (headByte v.mask) ++ u8 0 ++ u8 v.head.num ++ u8 0
                        ++ (forMask v.mask v.serviced.get).toList.flatMap u32)] s.link })
          ∧ (∀ t, v.step = .spit → v.spitEnd = some t → t ≤ s.now → v.level = 1 → s.station.car.state = .open →
            s.station.car.sled = .still → s.station.car.move = none → s.station.car.hold ≠ .granted →
            exec .spitFiringEnd s
              = .next { s with station := { s.station with
                  car := { s.station.car with
                    state := .serviceMove, idleSince := none
                    move := some { CarMove.fresh .service .wipe with phase := .action s.now, acted := true } }
                  service := some { v with
                    step := .wipe, waitEnd := none, ownMotion := false, moveAgain := false, spitEnd := none } } })

/-! ## The nozzle check (Chapter 8) -/

/-- NOZZLE_CHECK that passes its checks is taken: the reply is STARTED, the path is CHECK's, the check claim is taken, and the record
copies the thresholds, tolerances and AUTO_RECOVER of the configuration and asks for the first calibration reading.
CARRIAGE_SENSOR_READING then stores the LED-on reading and asks for the LED-off one; a pair within 40 and 200 starts the
check lead of 10,000 µm, any other pair ends the check SENSOR_FAULT, the path IDLE again. CALIBRATION_TIMEOUT from 100 ms
after the asking ends it in the same way, the missing reading absent; before that, and without a check, it has no effect. That a
missing LED-on reading ends the check at once is log entry 49. The absent bytes of the rows not reported and of the heads outside
the mask in the OP_DONE are log entry 12. -/
def Obligations.CheckIsTakenAndCalibrated : Prop :=
  (∀ (s : State) (tag heads : Nat) (mask : Heads Bool) (h : Head) (rest : List Head), s.hears tag = true →
      headSetOf heads = some mask → mask.members = h :: rest → checkRefusal mask s = none →
      exec (.nozzleCheck tag heads) s
        = .next { s with
            media := { s.media with owner := .check }
            station := { s.station with
              car := { s.station.car with claims := { s.station.car.claims with check := true }, idleSince := none } }
            checker := { s.checker with
              check := some
                ⟨tag, mask, s.conf.tw, s.conf.ts, s.conf.outTol, s.conf.weakTol, s.conf.autoRecover, h, none, .calibOn s.now, 0,
                 Heads.all (Rows.all ⟨none, none⟩), Chans.all 0, none, none, false, Heads.all 0, none, false, false, none⟩ }
            link := replied 0x1D tag (.nozzleCheck heads) (startedReply heads) [] s.link })
    ∧ ∀ (s : State), s.running = true →
      (s.checker.check = none → exec .calibrationTimeout s = .next s)
        ∧ ∀ (c : Check) (asked d : Nat), s.checker.check = some c →
          let fails (on' off : Option Nat) : State := { s with
            checker := { s.checker with check := none, calibOn := on', calibOff := off }
            media := { s.media with owner := .idle }
            station := { s.station with
              car := ({ s.station.car with claims := { s.station.car.claims with check := false } } : Carriage).timed s.now }
            link := told
              [opDoneNotice 0x1D c.tag .sensorFault
                (absent 4 ++ o16 on' ++ o16 off ++ (List.replicate 6 (u8 0 ++ absent 12)).flatten
                  ++ allHeads.flatMap (fun h =>
                    if c.mask.get h then u8 (s.checker.escalation.get h).num ++ u8 (c.rounds.get h) else absent 2)
                  ++ u32 0 ++ c.ink.toList.flatMap u32 ++ u8 2)] s.link }
          let fresh : Prop := c.fed = 0 ∧ c.fault = none ∧ c.rollEnded = false ∧ c.failSeen = none ∧ c.cutResult = none
            ∧ c.rows = Heads.all (Rows.all ⟨none, none⟩) ∧ s.media.owner = .check ∧ s.media.ejecting = none ∧ s.media.switch = none
          (c.step = .calibOn asked →
              exec (.carriageSensorReading d) s
                = .next { s with
                    checker := { s.checker with check := some { c with readOn := some d, step := .calibOff s.now } } })
            ∧ (c.step = .calibOn asked ∨ c.step = .calibOff asked → s.now < asked + 100 → exec .calibrationTimeout s = .next s)
            ∧ (fresh → c.step = .calibOn asked → asked + 100 ≤ s.now → exec .calibrationTimeout s = .next (fails none none))
            ∧ (∀ a, fresh → c.step = .calibOff asked → c.readOn = some a →
              (asked + 100 ≤ s.now → exec .calibrationTimeout s = .next (fails (some a) none))
                ∧ (40 < a ∨ d < 200 → exec (.carriageSensorReading d) s = .next (fails (some a) (some d)))
                ∧ ∀ (sl : Slot) (prof : Profile), a ≤ 40 → 200 ≤ d → s.feed.move = none → threadedSlot s.media = some sl →
                  slotProfile s sl = some prof →
                  let corr := clampInt (-20000) 20000 (prof.sProfile + s.feed.sHost + s.feed.sTrack)
                  let counts := forwardCounts 10000 s.feed.k corr s.feed.r
                  counts ≠ 0 → prof.tracking = false →
                  exec (.carriageSensorReading d) s
                    = .next { s with
                        checker := { s.checker with
                          check := some { c with step := .lead }, calibOn := some a, calibOff := some d }
                        feed := { s.feed with
                          r := newResidue 10000 s.feed.k corr s.feed.r
                          move := some ⟨⟨.check, .check, true, 10000, .checkLead⟩, counts, corr, false, s.now, 0⟩ } })

/-- The end of a check scan whose two passes were done: HOME_REPORT brings the carriage home, OPEN, and both rows are judged. A row with
a usable frame (lead-in and gap below Tw, closing bar at least Ts; R159) is VALID with the state of each nozzle by its slot sample
and the mask windows, its counts, and one check more up to 65,535; another keeps its states and counts and is STALE, or stays
UNCHECKED (R162). The check record's two lists gain each row's counts or reason, in place of an earlier one (log entry 50). The head's verdict then moves its escalation state as
Table 8-6 gives (R164, R165), with its SERVICE_EVENT where it changes, the first notice and but for a level 1 service's own the only one.
A failing head with AUTO_RECOVER on and 160,000 µm known
or possible on the roll gets its next round: refused without a waste tank, the check ends NO_WASTE_TANK; with room in the tank the
head is in ROUND_n and its service of level n runs (R166). Without a round, the pattern of the next head of the mask follows, or the
strip to the cutter (R168). No other row, head, window or calibration reading changes. -/
def Obligations.CheckScanIsJudged : Prop :=
  ∀ (s : State) (c : Check) (m : CarMove) (h : Head) (x0 x1 : List Nat) (u : Nat) (slot : Slot), s.running = true →
    s.station.car.resetReturn = none → s.station.car.move = some m → m.requester = .check → m.kind = .checkScan h →
    m.phase = .returning u → m.fault = none → m.scan.done0 = some x0 → m.scan.done1 = some x1 → x0.length = 1037 →
    x1.length = 1037 → s.station.car.hold = .none → s.station.car.sled = .still → s.station.car.claims = ⟨false, true, false⟩ →
    s.station.service = none → s.checker.check = some c → c.step = .scan → c.head = h → c.scanAgain = false → c.fault = none →
    c.rollEnded = false → 0 < c.fed → s.media.owner = .check → s.media.seq = none → s.media.content ≠ .fault →
    threadedSlot s.media = some slot → s.feed.move = none → Config.kMin ≤ s.feed.k → s.sheet.phase = .none →
    s.sheet.abort = none →
    let sample (r : Row) (n : Nat) : Nat := ((match r with | .r0 => x0 | .r1 => x1)[n]?).getD 0
    let clean (r : Row) (a b : Nat) : Prop := ∀ n, a ≤ n → n < b → sample r n < c.tw
    let usable (r : Row) : Prop := clean r 0 8 ∧ clean r 1032 1036 ∧ c.ts ≤ sample r 1036
    let old := s.checker.escalation.get h
    ∃ t c', exec .homeReport s = .next t ∧ t.checker.check = some c' ∧ t.station.car.state = .open ∧ t.station.car.move = none
      ∧ t.station.car.home = true ∧ t.checker.windows = s.checker.windows ∧ t.checker.calibOn = s.checker.calibOn
      ∧ t.checker.calibOff = s.checker.calibOff
      ∧ (∀ h' r, h' ≠ h → healthRow t h' r = healthRow s h' r ∧ (c'.rows.get h').get r = (c.rows.get h').get r)
      ∧ (∀ h', h' ≠ h → t.checker.escalation.get h' = s.checker.escalation.get h' ∧ c'.rounds.get h' = c.rounds.get h')
      ∧ (∀ r, usable r →
          let y := healthRow t h r
          y.status = .valid ∧ y.nozzles.length = 1024 ∧ y.checks = min 65535 ((healthRow s h r).checks + 1)
            ∧ (∀ n, n < 1024 → y.nozzles[n]? = some (nozzleState s.checker.windows h r c.tw c.ts n (sample r (8 + n))))
            ∧ y.counts = ⟨y.nozzles.count .unchecked, y.nozzles.count .good, y.nozzles.count .weak, y.nozzles.count .out,
              y.nozzles.count .masked⟩
            ∧ (c'.rows.get h).get r = { (c.rows.get h).get r with valid := some y.counts })
      ∧ (∀ r, ¬usable r →
          healthRow t h r
              = { healthRow s h r with status := if (healthRow s h r).status = .unchecked then .unchecked else .stale }
            ∧ (clean r 0 8 → ((c'.rows.get h).get r) = { (c.rows.get h).get r with voided := some .framing })
            ∧ (¬clean r 0 8 → ((c'.rows.get h).get r) = { (c.rows.get h).get r with voided := some .background }))
      ∧ (let new := t.checker.escalation.get h
        let fails (r : Row) : Prop :=
          usable r ∧ (c.outTol < (healthRow t h r).counts.out ∨ c.weakTol < (healthRow t h r).counts.weak)
        let failed := fails .r0 ∨ fails .r1
        let left := (s.media.rolls.get slot).remaining
        let asked (n : Nat) : Prop := failed ∧ c.autoRecover = true ∧ (∀ l, left = some l → 160000 ≤ l)
          ∧ ((n = 1 ∧ (old = .ok ∨ old = .attention)) ∨ (n = 2 ∧ old = .round1) ∨ (n = 3 ∧ old = .round2))
        let noRound := if old = .ok then .attention else old
        let alone := (Heads.all false).set h true
        (∃ more, t.link
              = told ((if new = old then [] else [eventNotice .service 4 (u8 h.num ++ u8 old.num ++ u8 new.num)]) ++ more) s.link
            ∧ ((∀ v, t.station.service = some v → v.level ≠ 1) → more = []))
        ∧ (failed ∨ usable .r0 ∨ usable .r1 ∨ new = old)
        ∧ (¬failed → usable .r0 ∨ usable .r1 → new = .ok)
        ∧ (failed → c.autoRecover = false → new = if old = .degraded then .degraded else .attention)
        ∧ (failed → c.autoRecover = true → old = .round3 ∨ old = .degraded → new = .degraded)
        ∧ (failed → c.autoRecover = true → ∀ l, left = some l → l < 160000 → old ≠ .round3 → new = noRound)
        ∧ (∀ n, asked n →
            (s.station.waste.tank = none → new = noRound ∧ c'.fault = some .noWasteTank ∧ c'.step = .strip
                ∧ c'.rounds = c.rounds ∧ t.station.service = none)
              ∧ ∀ k, s.station.waste.tank = some k → plannedVolume s alone n ≤ k.capacity - k.w →
                new = (if n = 1 then .round1 else if n = 2 then .round2 else .round3) ∧ c'.step = .round ∧ c'.round = some n
                  ∧ c'.fault = none ∧ c'.rounds.get h = c.rounds.get h + 1
                  ∧ t.station.car.claims = ⟨false, true, true⟩
                  ∧ ∃ v, t.station.service = some v ∧ v.by' = .check ∧ v.level = n ∧ v.mask = alone ∧ v.head = h)
        ∧ ((∀ n, ¬asked n) → c'.round = none ∧ c'.fault = none ∧ c'.rounds = c.rounds ∧ t.station.service = none
            ∧ ((∀ h', c.mask.get h' = true → h'.num ≤ h.num) → c'.step = .strip)
            ∧ (∀ h', c.mask.get h' = true → h.num < h'.num → (∀ h'', c.mask.get h'' = true → h.num < h''.num → h'.num ≤ h''.num) →
                c'.step = .pattern ∧ c'.head = h')))

/-- The mask windows. A window matches nozzle n when n and its base agree in every one of the ten bits whose ignore bit is 0. A nozzle
that an enabled FORCE window of its head and row matches is classified from its sample, whatever MASK windows match it; one
matched by an enabled MASK window and no FORCE window is MASKED; any other is classified from its sample. MASK_SET writes
the window whole and changes no nozzle state, or is refused BAD_FIELD. -/
def Obligations.MaskWindowsDecideTheNozzles : Prop :=
  (∀ (x : MaskWindow) (n : Nat), n < 1024 → x.base < 1024 →
      (windowMatches x n = true ↔ ∀ i, i < 10 → x.ignore.testBit i = false → n.testBit i = x.base.testBit i))
    ∧ (∀ (ws : List MaskWindow) (h : Head) (r : Row) (tw ts n sample : Nat), tw + 10 ≤ ts →
      let hit (k : MaskKind) : Prop :=
        ∃ x ∈ ws, x.enabled = true ∧ x.kind = k ∧ x.head = h ∧ x.row = r ∧ windowMatches x n = true
      let state := nozzleState ws h r tw ts n sample
      (state = .masked ↔ hit .mask ∧ ¬hit .force)
        ∧ (state ≠ .masked → (state = .good ↔ ts ≤ sample) ∧ (state = .weak ↔ tw ≤ sample ∧ sample < ts)
          ∧ (state = .out ↔ sample < tw)))
    ∧ ∀ (s : State) (tag i : Nat) (f : MaskFields), s.hears tag = true →
      (∀ (enabled : Bool) (k : MaskKind) (h : Head) (r : Row), f.enabled = (if enabled then 1 else 0) →
          f.kind = (if k = .mask then 0 else 1) → f.head = h.num → f.row = r.num → i ≤ 15 → f.base ≤ 1023 → f.ignore ≤ 1023 →
          exec (.maskSet tag i f) s
            = .next { s with
                checker := { s.checker with windows := s.checker.windows.set i ⟨enabled, k, h, r, f.base, f.ignore⟩ }
                link := replied 0x1E tag (.maskSet i f) (okReply []) [] s.link })
        ∧ (15 < i ∨ 1 < f.enabled ∨ 1 < f.kind ∨ 2 < f.head ∨ 1 < f.row ∨ 1023 < f.base ∨ 1023 < f.ignore →
          exec (.maskSet tag i f) s
            = .next { s with link := replied 0x1E tag (.maskSet i f) (refusedReply .badField) [] s.link })

/-! ## What every step keeps -/

/-- The state after reset, which is the power-on that log entry 1 names, satisfies every invariant below. -/
def Obligations.ResetSatisfiesTheInvariants : Prop :=
  State.reset.inkOk ∧ State.reset.feed.sound ∧ State.reset.station.waste.sound ∧ State.reset.conf.sound
    ∧ State.reset.pump.sound ∧ State.reset.cutOk ∧ State.reset.linkOk

/-- Every step keeps the accounts and the ranges: every change of E goes to a tally, so that E = E0 + drawn − printed − serviced +
reconcile with E within 0..20,000,000 and the drop residue below 10,000; R lies below 10^12, the trims within their limits
and the move in flight within Table 1-3; W lies within 0..C_w with the level of R133; every parameter of Table 10-2 in its
range. -/
def Obligations.StepKeepsTheAccounts : Prop :=
  (∀ s t : State, s.inkOk → step s = .next t → t.inkOk)
    ∧ (∀ s t : State, s.feed.sound → step s = .next t → t.feed.sound)
    ∧ (∀ s t : State, s.station.waste.sound → step s = .next t → t.station.waste.sound)
    ∧ ∀ s t : State, s.conf.sound → step s = .next t → t.conf.sound

/-- Every step keeps the pump's order: the request list holds at most one entry for a channel and none for the channel granted; at most
one valve is open, that of the granted channel, in the position its operation needs; and only the channel of a stir in
flight has a follow-on. -/
def Obligations.StepKeepsOneGrant : Prop := ∀ s t : State, s.pump.sound → step s = .next t → t.pump.sound

/-- Every step keeps the cut safe: the cutter runs only under a granted hold, and under a granted hold the carriage is CAPPED or OPEN
with no move in flight; a reset's return is alone with the carriage; the idle time counts only while R124 says so. -/
def Obligations.StepKeepsTheCutSafe : Prop := ∀ s t : State, s.cutOk → step s = .next t → t.cutOk

/-- Every step keeps the link's promises: at most four received frames and 16 outstanding operations wait, the outstanding tags are
distinct, and the transmit queue always has room for the completion of every outstanding operation, so that no reply and no
completion ever waits for a slot. -/
def Obligations.StepKeepsRoomForCompletions : Prop := ∀ s t : State, s.linkOk → step s = .next t → t.linkOk
end

