-- ==== Sys2Proof/Laws/State.lean ====
section
/-! SUPPORT. One lemma per field per update: what each named update of the state under an event (Machine/Ops.lean and the record
updates of the blocks) leaves in every field. Generated; all true by unfolding. -/

namespace Sys2Proof.Machine

open Sys2Proof

variable (w : Work) (s : State)

/-! ## The start of an event -/

@[simp] theorem Work.of_now : (Work.of s).now = s.now := rfl
@[simp] theorem Work.of_phase : (Work.of s).phase = s.phase := rfl
@[simp] theorem Work.of_conf : (Work.of s).conf = s.conf := rfl
@[simp] theorem Work.of_feed : (Work.of s).feed = s.feed := rfl
@[simp] theorem Work.of_media : (Work.of s).media = s.media := rfl
@[simp] theorem Work.of_sheet : (Work.of s).sheet = s.sheet := rfl
@[simp] theorem Work.of_supply : (Work.of s).supply = s.supply := rfl
@[simp] theorem Work.of_pump : (Work.of s).pump = s.pump := rfl
@[simp] theorem Work.of_station : (Work.of s).station = s.station := rfl
@[simp] theorem Work.of_checker : (Work.of s).checker = s.checker := rfl
@[simp] theorem Work.of_link : (Work.of s).link = s.link := rfl
@[simp] theorem Work.of_pending : (Work.of s).pending = s.pending := rfl
@[simp] theorem Work.of_toState : (Work.of s).toState = s := rfl
@[simp] theorem Work.of_agenda : (Work.of s).agenda = [] := rfl
@[simp] theorem Work.of_outbox : (Work.of s).outbox = [] := rfl
@[simp] theorem Work.of_reply : (Work.of s).reply = none := rfl
@[simp] theorem Work.of_atOnce : (Work.of s).atOnce = [] := rfl

/-! ## post -/

@[simp] theorem post_now (r : Report) : (post r w).now = w.now := rfl
@[simp] theorem post_phase (r : Report) : (post r w).phase = w.phase := rfl
@[simp] theorem post_conf (r : Report) : (post r w).conf = w.conf := rfl
@[simp] theorem post_feed (r : Report) : (post r w).feed = w.feed := rfl
@[simp] theorem post_media (r : Report) : (post r w).media = w.media := rfl
@[simp] theorem post_sheet (r : Report) : (post r w).sheet = w.sheet := rfl
@[simp] theorem post_supply (r : Report) : (post r w).supply = w.supply := rfl
@[simp] theorem post_pump (r : Report) : (post r w).pump = w.pump := rfl
@[simp] theorem post_station (r : Report) : (post r w).station = w.station := rfl
@[simp] theorem post_checker (r : Report) : (post r w).checker = w.checker := rfl
@[simp] theorem post_link (r : Report) : (post r w).link = w.link := rfl
@[simp] theorem post_pending (r : Report) : (post r w).pending = w.pending := rfl
@[simp] theorem post_agenda (r : Report) : (post r w).agenda = w.agenda ++ [r] := rfl
@[simp] theorem post_outbox (r : Report) : (post r w).outbox = w.outbox := rfl
@[simp] theorem post_reply (r : Report) : (post r w).reply = w.reply := rfl
@[simp] theorem post_atOnce (r : Report) : (post r w).atOnce = w.atOnce := rfl
@[simp] theorem post_toState (r : Report) : (post r w).toState = w.toState := rfl

/-! ## give -/

@[simp] theorem give_now (n : Notice) : (give n w).now = w.now := rfl
@[simp] theorem give_phase (n : Notice) : (give n w).phase = w.phase := rfl
@[simp] theorem give_conf (n : Notice) : (give n w).conf = w.conf := rfl
@[simp] theorem give_feed (n : Notice) : (give n w).feed = w.feed := rfl
@[simp] theorem give_media (n : Notice) : (give n w).media = w.media := rfl
@[simp] theorem give_sheet (n : Notice) : (give n w).sheet = w.sheet := rfl
@[simp] theorem give_supply (n : Notice) : (give n w).supply = w.supply := rfl
@[simp] theorem give_pump (n : Notice) : (give n w).pump = w.pump := rfl
@[simp] theorem give_station (n : Notice) : (give n w).station = w.station := rfl
@[simp] theorem give_checker (n : Notice) : (give n w).checker = w.checker := rfl
@[simp] theorem give_link (n : Notice) : (give n w).link = w.link := rfl
@[simp] theorem give_pending (n : Notice) : (give n w).pending = w.pending := rfl
@[simp] theorem give_agenda (n : Notice) : (give n w).agenda = w.agenda := rfl
@[simp] theorem give_outbox (n : Notice) : (give n w).outbox = w.outbox ++ [n] := rfl
@[simp] theorem give_reply (n : Notice) : (give n w).reply = w.reply := rfl
@[simp] theorem give_atOnce (n : Notice) : (give n w).atOnce = w.atOnce := rfl
@[simp] theorem give_toState (n : Notice) : (give n w).toState = w.toState := rfl

/-! ## event -/

@[simp] theorem event_now (cat : Category) (k : Nat) (items : List Byte) : (event cat k items w).now = w.now := rfl
@[simp] theorem event_phase (cat : Category) (k : Nat) (items : List Byte) : (event cat k items w).phase = w.phase := rfl
@[simp] theorem event_conf (cat : Category) (k : Nat) (items : List Byte) : (event cat k items w).conf = w.conf := rfl
@[simp] theorem event_feed (cat : Category) (k : Nat) (items : List Byte) : (event cat k items w).feed = w.feed := rfl
@[simp] theorem event_media (cat : Category) (k : Nat) (items : List Byte) : (event cat k items w).media = w.media := rfl
@[simp] theorem event_sheet (cat : Category) (k : Nat) (items : List Byte) : (event cat k items w).sheet = w.sheet := rfl
@[simp] theorem event_supply (cat : Category) (k : Nat) (items : List Byte) : (event cat k items w).supply = w.supply := rfl
@[simp] theorem event_pump (cat : Category) (k : Nat) (items : List Byte) : (event cat k items w).pump = w.pump := rfl
@[simp] theorem event_station (cat : Category) (k : Nat) (items : List Byte) : (event cat k items w).station = w.station := rfl
@[simp] theorem event_checker (cat : Category) (k : Nat) (items : List Byte) : (event cat k items w).checker = w.checker := rfl
@[simp] theorem event_link (cat : Category) (k : Nat) (items : List Byte) : (event cat k items w).link = w.link := rfl
@[simp] theorem event_pending (cat : Category) (k : Nat) (items : List Byte) : (event cat k items w).pending = w.pending := rfl
@[simp] theorem event_agenda (cat : Category) (k : Nat) (items : List Byte) : (event cat k items w).agenda = w.agenda := rfl
@[simp] theorem event_outbox (cat : Category) (k : Nat) (items : List Byte) : (event cat k items w).outbox = w.outbox ++ [eventNotice cat k items] := rfl
@[simp] theorem event_reply (cat : Category) (k : Nat) (items : List Byte) : (event cat k items w).reply = w.reply := rfl
@[simp] theorem event_atOnce (cat : Category) (k : Nat) (items : List Byte) : (event cat k items w).atOnce = w.atOnce := rfl
@[simp] theorem event_toState (cat : Category) (k : Nat) (items : List Byte) : (event cat k items w).toState = w.toState := rfl

/-! ## opDone -/

@[simp] theorem opDone_now (k tag : Nat) (o : Code) (d : List Byte) : (opDone k tag o d w).now = w.now := rfl
@[simp] theorem opDone_phase (k tag : Nat) (o : Code) (d : List Byte) : (opDone k tag o d w).phase = w.phase := rfl
@[simp] theorem opDone_conf (k tag : Nat) (o : Code) (d : List Byte) : (opDone k tag o d w).conf = w.conf := rfl
@[simp] theorem opDone_feed (k tag : Nat) (o : Code) (d : List Byte) : (opDone k tag o d w).feed = w.feed := rfl
@[simp] theorem opDone_media (k tag : Nat) (o : Code) (d : List Byte) : (opDone k tag o d w).media = w.media := rfl
@[simp] theorem opDone_sheet (k tag : Nat) (o : Code) (d : List Byte) : (opDone k tag o d w).sheet = w.sheet := rfl
@[simp] theorem opDone_supply (k tag : Nat) (o : Code) (d : List Byte) : (opDone k tag o d w).supply = w.supply := rfl
@[simp] theorem opDone_pump (k tag : Nat) (o : Code) (d : List Byte) : (opDone k tag o d w).pump = w.pump := rfl
@[simp] theorem opDone_station (k tag : Nat) (o : Code) (d : List Byte) : (opDone k tag o d w).station = w.station := rfl
@[simp] theorem opDone_checker (k tag : Nat) (o : Code) (d : List Byte) : (opDone k tag o d w).checker = w.checker := rfl
@[simp] theorem opDone_link (k tag : Nat) (o : Code) (d : List Byte) : (opDone k tag o d w).link = w.link := rfl
@[simp] theorem opDone_pending (k tag : Nat) (o : Code) (d : List Byte) : (opDone k tag o d w).pending = w.pending := rfl
@[simp] theorem opDone_agenda (k tag : Nat) (o : Code) (d : List Byte) : (opDone k tag o d w).agenda = w.agenda := rfl
@[simp] theorem opDone_outbox (k tag : Nat) (o : Code) (d : List Byte) : (opDone k tag o d w).outbox = w.outbox ++ [opDoneNotice k tag o d] := rfl
@[simp] theorem opDone_reply (k tag : Nat) (o : Code) (d : List Byte) : (opDone k tag o d w).reply = w.reply := rfl
@[simp] theorem opDone_atOnce (k tag : Nat) (o : Code) (d : List Byte) : (opDone k tag o d w).atOnce = w.atOnce := rfl
@[simp] theorem opDone_toState (k tag : Nat) (o : Code) (d : List Byte) : (opDone k tag o d w).toState = w.toState := rfl

/-! ## answerWith -/

@[simp] theorem answerWith_now (a : Answer) (c : Code) (items : List Byte) (j : Nat) : (answerWith a c items j w).now = w.now := rfl
@[simp] theorem answerWith_phase (a : Answer) (c : Code) (items : List Byte) (j : Nat) : (answerWith a c items j w).phase = w.phase := rfl
@[simp] theorem answerWith_conf (a : Answer) (c : Code) (items : List Byte) (j : Nat) : (answerWith a c items j w).conf = w.conf := rfl
@[simp] theorem answerWith_feed (a : Answer) (c : Code) (items : List Byte) (j : Nat) : (answerWith a c items j w).feed = w.feed := rfl
@[simp] theorem answerWith_media (a : Answer) (c : Code) (items : List Byte) (j : Nat) : (answerWith a c items j w).media = w.media := rfl
@[simp] theorem answerWith_sheet (a : Answer) (c : Code) (items : List Byte) (j : Nat) : (answerWith a c items j w).sheet = w.sheet := rfl
@[simp] theorem answerWith_supply (a : Answer) (c : Code) (items : List Byte) (j : Nat) : (answerWith a c items j w).supply = w.supply := rfl
@[simp] theorem answerWith_pump (a : Answer) (c : Code) (items : List Byte) (j : Nat) : (answerWith a c items j w).pump = w.pump := rfl
@[simp] theorem answerWith_station (a : Answer) (c : Code) (items : List Byte) (j : Nat) : (answerWith a c items j w).station = w.station := rfl
@[simp] theorem answerWith_checker (a : Answer) (c : Code) (items : List Byte) (j : Nat) : (answerWith a c items j w).checker = w.checker := rfl
@[simp] theorem answerWith_link (a : Answer) (c : Code) (items : List Byte) (j : Nat) : (answerWith a c items j w).link = w.link := rfl
@[simp] theorem answerWith_pending (a : Answer) (c : Code) (items : List Byte) (j : Nat) : (answerWith a c items j w).pending = w.pending := rfl
@[simp] theorem answerWith_agenda (a : Answer) (c : Code) (items : List Byte) (j : Nat) : (answerWith a c items j w).agenda = w.agenda := rfl
@[simp] theorem answerWith_outbox (a : Answer) (c : Code) (items : List Byte) (j : Nat) : (answerWith a c items j w).outbox = w.outbox := rfl
@[simp] theorem answerWith_reply (a : Answer) (c : Code) (items : List Byte) (j : Nat) : (answerWith a c items j w).reply = some ⟨a, c, items, j⟩ := rfl
@[simp] theorem answerWith_atOnce (a : Answer) (c : Code) (items : List Byte) (j : Nat) : (answerWith a c items j w).atOnce = w.atOnce := rfl
@[simp] theorem answerWith_toState (a : Answer) (c : Code) (items : List Byte) (j : Nat) : (answerWith a c items j w).toState = w.toState := rfl

/-! ## refuse -/

@[simp] theorem refuse_now (c : Code) : (refuse c w).now = w.now := rfl
@[simp] theorem refuse_phase (c : Code) : (refuse c w).phase = w.phase := rfl
@[simp] theorem refuse_conf (c : Code) : (refuse c w).conf = w.conf := rfl
@[simp] theorem refuse_feed (c : Code) : (refuse c w).feed = w.feed := rfl
@[simp] theorem refuse_media (c : Code) : (refuse c w).media = w.media := rfl
@[simp] theorem refuse_sheet (c : Code) : (refuse c w).sheet = w.sheet := rfl
@[simp] theorem refuse_supply (c : Code) : (refuse c w).supply = w.supply := rfl
@[simp] theorem refuse_pump (c : Code) : (refuse c w).pump = w.pump := rfl
@[simp] theorem refuse_station (c : Code) : (refuse c w).station = w.station := rfl
@[simp] theorem refuse_checker (c : Code) : (refuse c w).checker = w.checker := rfl
@[simp] theorem refuse_link (c : Code) : (refuse c w).link = w.link := rfl
@[simp] theorem refuse_pending (c : Code) : (refuse c w).pending = w.pending := rfl
@[simp] theorem refuse_agenda (c : Code) : (refuse c w).agenda = w.agenda := rfl
@[simp] theorem refuse_outbox (c : Code) : (refuse c w).outbox = w.outbox := rfl
@[simp] theorem refuse_reply (c : Code) : (refuse c w).reply = some (refusedReply c) := rfl
@[simp] theorem refuse_atOnce (c : Code) : (refuse c w).atOnce = w.atOnce := rfl
@[simp] theorem refuse_toState (c : Code) : (refuse c w).toState = w.toState := rfl

/-! ## okWith -/

@[simp] theorem okWith_now (items : List Byte) : (okWith items w).now = w.now := rfl
@[simp] theorem okWith_phase (items : List Byte) : (okWith items w).phase = w.phase := rfl
@[simp] theorem okWith_conf (items : List Byte) : (okWith items w).conf = w.conf := rfl
@[simp] theorem okWith_feed (items : List Byte) : (okWith items w).feed = w.feed := rfl
@[simp] theorem okWith_media (items : List Byte) : (okWith items w).media = w.media := rfl
@[simp] theorem okWith_sheet (items : List Byte) : (okWith items w).sheet = w.sheet := rfl
@[simp] theorem okWith_supply (items : List Byte) : (okWith items w).supply = w.supply := rfl
@[simp] theorem okWith_pump (items : List Byte) : (okWith items w).pump = w.pump := rfl
@[simp] theorem okWith_station (items : List Byte) : (okWith items w).station = w.station := rfl
@[simp] theorem okWith_checker (items : List Byte) : (okWith items w).checker = w.checker := rfl
@[simp] theorem okWith_link (items : List Byte) : (okWith items w).link = w.link := rfl
@[simp] theorem okWith_pending (items : List Byte) : (okWith items w).pending = w.pending := rfl
@[simp] theorem okWith_agenda (items : List Byte) : (okWith items w).agenda = w.agenda := rfl
@[simp] theorem okWith_outbox (items : List Byte) : (okWith items w).outbox = w.outbox := rfl
@[simp] theorem okWith_reply (items : List Byte) : (okWith items w).reply = some (okReply items) := rfl
@[simp] theorem okWith_atOnce (items : List Byte) : (okWith items w).atOnce = w.atOnce := rfl
@[simp] theorem okWith_toState (items : List Byte) : (okWith items w).toState = w.toState := rfl

/-! ## started -/

@[simp] theorem started_now (j : Nat) : (started j w).now = w.now := rfl
@[simp] theorem started_phase (j : Nat) : (started j w).phase = w.phase := rfl
@[simp] theorem started_conf (j : Nat) : (started j w).conf = w.conf := rfl
@[simp] theorem started_feed (j : Nat) : (started j w).feed = w.feed := rfl
@[simp] theorem started_media (j : Nat) : (started j w).media = w.media := rfl
@[simp] theorem started_sheet (j : Nat) : (started j w).sheet = w.sheet := rfl
@[simp] theorem started_supply (j : Nat) : (started j w).supply = w.supply := rfl
@[simp] theorem started_pump (j : Nat) : (started j w).pump = w.pump := rfl
@[simp] theorem started_station (j : Nat) : (started j w).station = w.station := rfl
@[simp] theorem started_checker (j : Nat) : (started j w).checker = w.checker := rfl
@[simp] theorem started_link (j : Nat) : (started j w).link = w.link := rfl
@[simp] theorem started_pending (j : Nat) : (started j w).pending = w.pending := rfl
@[simp] theorem started_agenda (j : Nat) : (started j w).agenda = w.agenda := rfl
@[simp] theorem started_outbox (j : Nat) : (started j w).outbox = w.outbox := rfl
@[simp] theorem started_reply (j : Nat) : (started j w).reply = some (startedReply j) := rfl
@[simp] theorem started_atOnce (j : Nat) : (started j w).atOnce = w.atOnce := rfl
@[simp] theorem started_toState (j : Nat) : (started j w).toState = w.toState := rfl

/-! ## waitReply -/

@[simp] theorem waitReply_now : (waitReply w).now = w.now := rfl
@[simp] theorem waitReply_phase : (waitReply w).phase = w.phase := rfl
@[simp] theorem waitReply_conf : (waitReply w).conf = w.conf := rfl
@[simp] theorem waitReply_feed : (waitReply w).feed = w.feed := rfl
@[simp] theorem waitReply_media : (waitReply w).media = w.media := rfl
@[simp] theorem waitReply_sheet : (waitReply w).sheet = w.sheet := rfl
@[simp] theorem waitReply_supply : (waitReply w).supply = w.supply := rfl
@[simp] theorem waitReply_pump : (waitReply w).pump = w.pump := rfl
@[simp] theorem waitReply_station : (waitReply w).station = w.station := rfl
@[simp] theorem waitReply_checker : (waitReply w).checker = w.checker := rfl
@[simp] theorem waitReply_link : (waitReply w).link = w.link := rfl
@[simp] theorem waitReply_pending : (waitReply w).pending = w.pending := rfl
@[simp] theorem waitReply_agenda : (waitReply w).agenda = w.agenda := rfl
@[simp] theorem waitReply_outbox : (waitReply w).outbox = w.outbox := rfl
@[simp] theorem waitReply_reply : (waitReply w).reply = some ⟨.wait, .ok, [], 0⟩ := rfl
@[simp] theorem waitReply_atOnce : (waitReply w).atOnce = w.atOnce := rfl
@[simp] theorem waitReply_toState : (waitReply w).toState = w.toState := rfl

/-! ## setSupply -/

@[simp] theorem setSupply_now (f : Supply → Supply) : (setSupply f w).now = w.now := rfl
@[simp] theorem setSupply_phase (f : Supply → Supply) : (setSupply f w).phase = w.phase := rfl
@[simp] theorem setSupply_conf (f : Supply → Supply) : (setSupply f w).conf = w.conf := rfl
@[simp] theorem setSupply_feed (f : Supply → Supply) : (setSupply f w).feed = w.feed := rfl
@[simp] theorem setSupply_media (f : Supply → Supply) : (setSupply f w).media = w.media := rfl
@[simp] theorem setSupply_sheet (f : Supply → Supply) : (setSupply f w).sheet = w.sheet := rfl
@[simp] theorem setSupply_supply (f : Supply → Supply) : (setSupply f w).supply = f w.supply := rfl
@[simp] theorem setSupply_pump (f : Supply → Supply) : (setSupply f w).pump = w.pump := rfl
@[simp] theorem setSupply_station (f : Supply → Supply) : (setSupply f w).station = w.station := rfl
@[simp] theorem setSupply_checker (f : Supply → Supply) : (setSupply f w).checker = w.checker := rfl
@[simp] theorem setSupply_link (f : Supply → Supply) : (setSupply f w).link = w.link := rfl
@[simp] theorem setSupply_pending (f : Supply → Supply) : (setSupply f w).pending = w.pending := rfl
@[simp] theorem setSupply_agenda (f : Supply → Supply) : (setSupply f w).agenda = w.agenda := rfl
@[simp] theorem setSupply_outbox (f : Supply → Supply) : (setSupply f w).outbox = w.outbox := rfl
@[simp] theorem setSupply_reply (f : Supply → Supply) : (setSupply f w).reply = w.reply := rfl
@[simp] theorem setSupply_atOnce (f : Supply → Supply) : (setSupply f w).atOnce = w.atOnce := rfl

/-! ## setBay -/

@[simp] theorem setBay_now (b : Bay) (r : BayRec) : (setBay b r w).now = w.now := rfl
@[simp] theorem setBay_phase (b : Bay) (r : BayRec) : (setBay b r w).phase = w.phase := rfl
@[simp] theorem setBay_conf (b : Bay) (r : BayRec) : (setBay b r w).conf = w.conf := rfl
@[simp] theorem setBay_feed (b : Bay) (r : BayRec) : (setBay b r w).feed = w.feed := rfl
@[simp] theorem setBay_media (b : Bay) (r : BayRec) : (setBay b r w).media = w.media := rfl
@[simp] theorem setBay_sheet (b : Bay) (r : BayRec) : (setBay b r w).sheet = w.sheet := rfl
@[simp] theorem setBay_supply (b : Bay) (r : BayRec) : (setBay b r w).supply = { w.supply with bays := w.supply.bays.set b.chan ((w.supply.bays.get b.chan).set b.letter r) } := rfl
@[simp] theorem setBay_pump (b : Bay) (r : BayRec) : (setBay b r w).pump = w.pump := rfl
@[simp] theorem setBay_station (b : Bay) (r : BayRec) : (setBay b r w).station = w.station := rfl
@[simp] theorem setBay_checker (b : Bay) (r : BayRec) : (setBay b r w).checker = w.checker := rfl
@[simp] theorem setBay_link (b : Bay) (r : BayRec) : (setBay b r w).link = w.link := rfl
@[simp] theorem setBay_pending (b : Bay) (r : BayRec) : (setBay b r w).pending = w.pending := rfl
@[simp] theorem setBay_agenda (b : Bay) (r : BayRec) : (setBay b r w).agenda = w.agenda := rfl
@[simp] theorem setBay_outbox (b : Bay) (r : BayRec) : (setBay b r w).outbox = w.outbox := rfl
@[simp] theorem setBay_reply (b : Bay) (r : BayRec) : (setBay b r w).reply = w.reply := rfl
@[simp] theorem setBay_atOnce (b : Bay) (r : BayRec) : (setBay b r w).atOnce = w.atOnce := rfl

/-! ## setTank -/

@[simp] theorem setTank_now (f : Tank → Tank) : (setTank f w).now = w.now := rfl
@[simp] theorem setTank_phase (f : Tank → Tank) : (setTank f w).phase = w.phase := rfl
@[simp] theorem setTank_conf (f : Tank → Tank) : (setTank f w).conf = w.conf := rfl
@[simp] theorem setTank_feed (f : Tank → Tank) : (setTank f w).feed = w.feed := rfl
@[simp] theorem setTank_media (f : Tank → Tank) : (setTank f w).media = w.media := rfl
@[simp] theorem setTank_sheet (f : Tank → Tank) : (setTank f w).sheet = w.sheet := rfl
@[simp] theorem setTank_supply (f : Tank → Tank) : (setTank f w).supply = { w.supply with tank := f w.supply.tank } := rfl
@[simp] theorem setTank_pump (f : Tank → Tank) : (setTank f w).pump = w.pump := rfl
@[simp] theorem setTank_station (f : Tank → Tank) : (setTank f w).station = w.station := rfl
@[simp] theorem setTank_checker (f : Tank → Tank) : (setTank f w).checker = w.checker := rfl
@[simp] theorem setTank_link (f : Tank → Tank) : (setTank f w).link = w.link := rfl
@[simp] theorem setTank_pending (f : Tank → Tank) : (setTank f w).pending = w.pending := rfl
@[simp] theorem setTank_agenda (f : Tank → Tank) : (setTank f w).agenda = w.agenda := rfl
@[simp] theorem setTank_outbox (f : Tank → Tank) : (setTank f w).outbox = w.outbox := rfl
@[simp] theorem setTank_reply (f : Tank → Tank) : (setTank f w).reply = w.reply := rfl
@[simp] theorem setTank_atOnce (f : Tank → Tank) : (setTank f w).atOnce = w.atOnce := rfl

/-! ## modPump -/

@[simp] theorem modPump_now (f : Pump → Pump) : (modPump f w).now = w.now := rfl
@[simp] theorem modPump_phase (f : Pump → Pump) : (modPump f w).phase = w.phase := rfl
@[simp] theorem modPump_conf (f : Pump → Pump) : (modPump f w).conf = w.conf := rfl
@[simp] theorem modPump_feed (f : Pump → Pump) : (modPump f w).feed = w.feed := rfl
@[simp] theorem modPump_media (f : Pump → Pump) : (modPump f w).media = w.media := rfl
@[simp] theorem modPump_sheet (f : Pump → Pump) : (modPump f w).sheet = w.sheet := rfl
@[simp] theorem modPump_supply (f : Pump → Pump) : (modPump f w).supply = w.supply := rfl
@[simp] theorem modPump_pump (f : Pump → Pump) : (modPump f w).pump = f w.pump := rfl
@[simp] theorem modPump_station (f : Pump → Pump) : (modPump f w).station = w.station := rfl
@[simp] theorem modPump_checker (f : Pump → Pump) : (modPump f w).checker = w.checker := rfl
@[simp] theorem modPump_link (f : Pump → Pump) : (modPump f w).link = w.link := rfl
@[simp] theorem modPump_pending (f : Pump → Pump) : (modPump f w).pending = w.pending := rfl
@[simp] theorem modPump_agenda (f : Pump → Pump) : (modPump f w).agenda = w.agenda := rfl
@[simp] theorem modPump_outbox (f : Pump → Pump) : (modPump f w).outbox = w.outbox := rfl
@[simp] theorem modPump_reply (f : Pump → Pump) : (modPump f w).reply = w.reply := rfl
@[simp] theorem modPump_atOnce (f : Pump → Pump) : (modPump f w).atOnce = w.atOnce := rfl

/-! ## modChan -/

@[simp] theorem modChan_now (ch : Chan) (f : Channel → Channel) : (modChan ch f w).now = w.now := rfl
@[simp] theorem modChan_phase (ch : Chan) (f : Channel → Channel) : (modChan ch f w).phase = w.phase := rfl
@[simp] theorem modChan_conf (ch : Chan) (f : Channel → Channel) : (modChan ch f w).conf = w.conf := rfl
@[simp] theorem modChan_feed (ch : Chan) (f : Channel → Channel) : (modChan ch f w).feed = w.feed := rfl
@[simp] theorem modChan_media (ch : Chan) (f : Channel → Channel) : (modChan ch f w).media = w.media := rfl
@[simp] theorem modChan_sheet (ch : Chan) (f : Channel → Channel) : (modChan ch f w).sheet = w.sheet := rfl
@[simp] theorem modChan_supply (ch : Chan) (f : Channel → Channel) : (modChan ch f w).supply = w.supply := rfl
@[simp] theorem modChan_pump (ch : Chan) (f : Channel → Channel) : (modChan ch f w).pump = { w.pump with chans := w.pump.chans.set ch (f (w.pump.chans.get ch)) } := rfl
@[simp] theorem modChan_station (ch : Chan) (f : Channel → Channel) : (modChan ch f w).station = w.station := rfl
@[simp] theorem modChan_checker (ch : Chan) (f : Channel → Channel) : (modChan ch f w).checker = w.checker := rfl
@[simp] theorem modChan_link (ch : Chan) (f : Channel → Channel) : (modChan ch f w).link = w.link := rfl
@[simp] theorem modChan_pending (ch : Chan) (f : Channel → Channel) : (modChan ch f w).pending = w.pending := rfl
@[simp] theorem modChan_agenda (ch : Chan) (f : Channel → Channel) : (modChan ch f w).agenda = w.agenda := rfl
@[simp] theorem modChan_outbox (ch : Chan) (f : Channel → Channel) : (modChan ch f w).outbox = w.outbox := rfl
@[simp] theorem modChan_reply (ch : Chan) (f : Channel → Channel) : (modChan ch f w).reply = w.reply := rfl
@[simp] theorem modChan_atOnce (ch : Chan) (f : Channel → Channel) : (modChan ch f w).atOnce = w.atOnce := rfl

/-! ## setOp -/

@[simp] theorem setOp_now (op : Option PumpOp) : (setOp op w).now = w.now := rfl
@[simp] theorem setOp_phase (op : Option PumpOp) : (setOp op w).phase = w.phase := rfl
@[simp] theorem setOp_conf (op : Option PumpOp) : (setOp op w).conf = w.conf := rfl
@[simp] theorem setOp_feed (op : Option PumpOp) : (setOp op w).feed = w.feed := rfl
@[simp] theorem setOp_media (op : Option PumpOp) : (setOp op w).media = w.media := rfl
@[simp] theorem setOp_sheet (op : Option PumpOp) : (setOp op w).sheet = w.sheet := rfl
@[simp] theorem setOp_supply (op : Option PumpOp) : (setOp op w).supply = w.supply := rfl
@[simp] theorem setOp_pump (op : Option PumpOp) : (setOp op w).pump = { w.pump with op := op } := rfl
@[simp] theorem setOp_station (op : Option PumpOp) : (setOp op w).station = w.station := rfl
@[simp] theorem setOp_checker (op : Option PumpOp) : (setOp op w).checker = w.checker := rfl
@[simp] theorem setOp_link (op : Option PumpOp) : (setOp op w).link = w.link := rfl
@[simp] theorem setOp_pending (op : Option PumpOp) : (setOp op w).pending = w.pending := rfl
@[simp] theorem setOp_agenda (op : Option PumpOp) : (setOp op w).agenda = w.agenda := rfl
@[simp] theorem setOp_outbox (op : Option PumpOp) : (setOp op w).outbox = w.outbox := rfl
@[simp] theorem setOp_reply (op : Option PumpOp) : (setOp op w).reply = w.reply := rfl
@[simp] theorem setOp_atOnce (op : Option PumpOp) : (setOp op w).atOnce = w.atOnce := rfl

/-! ## setValve -/

@[simp] theorem setValve_now (ch : Chan) (v : Valve) : (setValve ch v w).now = w.now := rfl
@[simp] theorem setValve_phase (ch : Chan) (v : Valve) : (setValve ch v w).phase = w.phase := rfl
@[simp] theorem setValve_conf (ch : Chan) (v : Valve) : (setValve ch v w).conf = w.conf := rfl
@[simp] theorem setValve_feed (ch : Chan) (v : Valve) : (setValve ch v w).feed = w.feed := rfl
@[simp] theorem setValve_media (ch : Chan) (v : Valve) : (setValve ch v w).media = w.media := rfl
@[simp] theorem setValve_sheet (ch : Chan) (v : Valve) : (setValve ch v w).sheet = w.sheet := rfl
@[simp] theorem setValve_supply (ch : Chan) (v : Valve) : (setValve ch v w).supply = w.supply := rfl
@[simp] theorem setValve_pump (ch : Chan) (v : Valve) : (setValve ch v w).pump = { w.pump with valves := w.pump.valves.set ch v } := rfl
@[simp] theorem setValve_station (ch : Chan) (v : Valve) : (setValve ch v w).station = w.station := rfl
@[simp] theorem setValve_checker (ch : Chan) (v : Valve) : (setValve ch v w).checker = w.checker := rfl
@[simp] theorem setValve_link (ch : Chan) (v : Valve) : (setValve ch v w).link = w.link := rfl
@[simp] theorem setValve_pending (ch : Chan) (v : Valve) : (setValve ch v w).pending = w.pending := rfl
@[simp] theorem setValve_agenda (ch : Chan) (v : Valve) : (setValve ch v w).agenda = w.agenda := rfl
@[simp] theorem setValve_outbox (ch : Chan) (v : Valve) : (setValve ch v w).outbox = w.outbox := rfl
@[simp] theorem setValve_reply (ch : Chan) (v : Valve) : (setValve ch v w).reply = w.reply := rfl
@[simp] theorem setValve_atOnce (ch : Chan) (v : Valve) : (setValve ch v w).atOnce = w.atOnce := rfl

/-! ## setStation -/

@[simp] theorem setStation_now (f : Station → Station) : (setStation f w).now = w.now := rfl
@[simp] theorem setStation_phase (f : Station → Station) : (setStation f w).phase = w.phase := rfl
@[simp] theorem setStation_conf (f : Station → Station) : (setStation f w).conf = w.conf := rfl
@[simp] theorem setStation_feed (f : Station → Station) : (setStation f w).feed = w.feed := rfl
@[simp] theorem setStation_media (f : Station → Station) : (setStation f w).media = w.media := rfl
@[simp] theorem setStation_sheet (f : Station → Station) : (setStation f w).sheet = w.sheet := rfl
@[simp] theorem setStation_supply (f : Station → Station) : (setStation f w).supply = w.supply := rfl
@[simp] theorem setStation_pump (f : Station → Station) : (setStation f w).pump = w.pump := rfl
@[simp] theorem setStation_station (f : Station → Station) : (setStation f w).station = f w.station := rfl
@[simp] theorem setStation_checker (f : Station → Station) : (setStation f w).checker = w.checker := rfl
@[simp] theorem setStation_link (f : Station → Station) : (setStation f w).link = w.link := rfl
@[simp] theorem setStation_pending (f : Station → Station) : (setStation f w).pending = w.pending := rfl
@[simp] theorem setStation_agenda (f : Station → Station) : (setStation f w).agenda = w.agenda := rfl
@[simp] theorem setStation_outbox (f : Station → Station) : (setStation f w).outbox = w.outbox := rfl
@[simp] theorem setStation_reply (f : Station → Station) : (setStation f w).reply = w.reply := rfl
@[simp] theorem setStation_atOnce (f : Station → Station) : (setStation f w).atOnce = w.atOnce := rfl

/-! ## modCar -/

@[simp] theorem modCar_now (f : Carriage → Carriage) : (modCar f w).now = w.now := rfl
@[simp] theorem modCar_phase (f : Carriage → Carriage) : (modCar f w).phase = w.phase := rfl
@[simp] theorem modCar_conf (f : Carriage → Carriage) : (modCar f w).conf = w.conf := rfl
@[simp] theorem modCar_feed (f : Carriage → Carriage) : (modCar f w).feed = w.feed := rfl
@[simp] theorem modCar_media (f : Carriage → Carriage) : (modCar f w).media = w.media := rfl
@[simp] theorem modCar_sheet (f : Carriage → Carriage) : (modCar f w).sheet = w.sheet := rfl
@[simp] theorem modCar_supply (f : Carriage → Carriage) : (modCar f w).supply = w.supply := rfl
@[simp] theorem modCar_pump (f : Carriage → Carriage) : (modCar f w).pump = w.pump := rfl
@[simp] theorem modCar_station (f : Carriage → Carriage) : (modCar f w).station = { w.station with car := (f w.station.car).timed w.now } := rfl
@[simp] theorem modCar_checker (f : Carriage → Carriage) : (modCar f w).checker = w.checker := rfl
@[simp] theorem modCar_link (f : Carriage → Carriage) : (modCar f w).link = w.link := rfl
@[simp] theorem modCar_pending (f : Carriage → Carriage) : (modCar f w).pending = w.pending := rfl
@[simp] theorem modCar_agenda (f : Carriage → Carriage) : (modCar f w).agenda = w.agenda := rfl
@[simp] theorem modCar_outbox (f : Carriage → Carriage) : (modCar f w).outbox = w.outbox := rfl
@[simp] theorem modCar_reply (f : Carriage → Carriage) : (modCar f w).reply = w.reply := rfl
@[simp] theorem modCar_atOnce (f : Carriage → Carriage) : (modCar f w).atOnce = w.atOnce := rfl

/-! ## modService -/

@[simp] theorem modService_now (f : Service → Service) : (modService f w).now = w.now := rfl
@[simp] theorem modService_phase (f : Service → Service) : (modService f w).phase = w.phase := rfl
@[simp] theorem modService_conf (f : Service → Service) : (modService f w).conf = w.conf := rfl
@[simp] theorem modService_feed (f : Service → Service) : (modService f w).feed = w.feed := rfl
@[simp] theorem modService_media (f : Service → Service) : (modService f w).media = w.media := rfl
@[simp] theorem modService_sheet (f : Service → Service) : (modService f w).sheet = w.sheet := rfl
@[simp] theorem modService_supply (f : Service → Service) : (modService f w).supply = w.supply := rfl
@[simp] theorem modService_pump (f : Service → Service) : (modService f w).pump = w.pump := rfl
@[simp] theorem modService_station (f : Service → Service) : (modService f w).station = { w.station with service := w.station.service.map f } := rfl
@[simp] theorem modService_checker (f : Service → Service) : (modService f w).checker = w.checker := rfl
@[simp] theorem modService_link (f : Service → Service) : (modService f w).link = w.link := rfl
@[simp] theorem modService_pending (f : Service → Service) : (modService f w).pending = w.pending := rfl
@[simp] theorem modService_agenda (f : Service → Service) : (modService f w).agenda = w.agenda := rfl
@[simp] theorem modService_outbox (f : Service → Service) : (modService f w).outbox = w.outbox := rfl
@[simp] theorem modService_reply (f : Service → Service) : (modService f w).reply = w.reply := rfl
@[simp] theorem modService_atOnce (f : Service → Service) : (modService f w).atOnce = w.atOnce := rfl

/-! ## modMedia -/

@[simp] theorem modMedia_now (f : Media → Media) : (modMedia f w).now = w.now := rfl
@[simp] theorem modMedia_phase (f : Media → Media) : (modMedia f w).phase = w.phase := rfl
@[simp] theorem modMedia_conf (f : Media → Media) : (modMedia f w).conf = w.conf := rfl
@[simp] theorem modMedia_feed (f : Media → Media) : (modMedia f w).feed = w.feed := rfl
@[simp] theorem modMedia_media (f : Media → Media) : (modMedia f w).media = f w.media := rfl
@[simp] theorem modMedia_sheet (f : Media → Media) : (modMedia f w).sheet = w.sheet := rfl
@[simp] theorem modMedia_supply (f : Media → Media) : (modMedia f w).supply = w.supply := rfl
@[simp] theorem modMedia_pump (f : Media → Media) : (modMedia f w).pump = w.pump := rfl
@[simp] theorem modMedia_station (f : Media → Media) : (modMedia f w).station = w.station := rfl
@[simp] theorem modMedia_checker (f : Media → Media) : (modMedia f w).checker = w.checker := rfl
@[simp] theorem modMedia_link (f : Media → Media) : (modMedia f w).link = w.link := rfl
@[simp] theorem modMedia_pending (f : Media → Media) : (modMedia f w).pending = w.pending := rfl
@[simp] theorem modMedia_agenda (f : Media → Media) : (modMedia f w).agenda = w.agenda := rfl
@[simp] theorem modMedia_outbox (f : Media → Media) : (modMedia f w).outbox = w.outbox := rfl
@[simp] theorem modMedia_reply (f : Media → Media) : (modMedia f w).reply = w.reply := rfl
@[simp] theorem modMedia_atOnce (f : Media → Media) : (modMedia f w).atOnce = w.atOnce := rfl

/-! ## modRoll -/

@[simp] theorem modRoll_now (slot : Slot) (f : Roll → Roll) : (modRoll slot f w).now = w.now := rfl
@[simp] theorem modRoll_phase (slot : Slot) (f : Roll → Roll) : (modRoll slot f w).phase = w.phase := rfl
@[simp] theorem modRoll_conf (slot : Slot) (f : Roll → Roll) : (modRoll slot f w).conf = w.conf := rfl
@[simp] theorem modRoll_feed (slot : Slot) (f : Roll → Roll) : (modRoll slot f w).feed = w.feed := rfl
@[simp] theorem modRoll_media (slot : Slot) (f : Roll → Roll) : (modRoll slot f w).media = { w.media with rolls := w.media.rolls.set slot (f (w.media.rolls.get slot)) } := rfl
@[simp] theorem modRoll_sheet (slot : Slot) (f : Roll → Roll) : (modRoll slot f w).sheet = w.sheet := rfl
@[simp] theorem modRoll_supply (slot : Slot) (f : Roll → Roll) : (modRoll slot f w).supply = w.supply := rfl
@[simp] theorem modRoll_pump (slot : Slot) (f : Roll → Roll) : (modRoll slot f w).pump = w.pump := rfl
@[simp] theorem modRoll_station (slot : Slot) (f : Roll → Roll) : (modRoll slot f w).station = w.station := rfl
@[simp] theorem modRoll_checker (slot : Slot) (f : Roll → Roll) : (modRoll slot f w).checker = w.checker := rfl
@[simp] theorem modRoll_link (slot : Slot) (f : Roll → Roll) : (modRoll slot f w).link = w.link := rfl
@[simp] theorem modRoll_pending (slot : Slot) (f : Roll → Roll) : (modRoll slot f w).pending = w.pending := rfl
@[simp] theorem modRoll_agenda (slot : Slot) (f : Roll → Roll) : (modRoll slot f w).agenda = w.agenda := rfl
@[simp] theorem modRoll_outbox (slot : Slot) (f : Roll → Roll) : (modRoll slot f w).outbox = w.outbox := rfl
@[simp] theorem modRoll_reply (slot : Slot) (f : Roll → Roll) : (modRoll slot f w).reply = w.reply := rfl
@[simp] theorem modRoll_atOnce (slot : Slot) (f : Roll → Roll) : (modRoll slot f w).atOnce = w.atOnce := rfl

/-! ## modSeq -/

@[simp] theorem modSeq_now (f : Sequence → Sequence) : (modSeq f w).now = w.now := rfl
@[simp] theorem modSeq_phase (f : Sequence → Sequence) : (modSeq f w).phase = w.phase := rfl
@[simp] theorem modSeq_conf (f : Sequence → Sequence) : (modSeq f w).conf = w.conf := rfl
@[simp] theorem modSeq_feed (f : Sequence → Sequence) : (modSeq f w).feed = w.feed := rfl
@[simp] theorem modSeq_media (f : Sequence → Sequence) : (modSeq f w).media = { w.media with seq := w.media.seq.map f } := rfl
@[simp] theorem modSeq_sheet (f : Sequence → Sequence) : (modSeq f w).sheet = w.sheet := rfl
@[simp] theorem modSeq_supply (f : Sequence → Sequence) : (modSeq f w).supply = w.supply := rfl
@[simp] theorem modSeq_pump (f : Sequence → Sequence) : (modSeq f w).pump = w.pump := rfl
@[simp] theorem modSeq_station (f : Sequence → Sequence) : (modSeq f w).station = w.station := rfl
@[simp] theorem modSeq_checker (f : Sequence → Sequence) : (modSeq f w).checker = w.checker := rfl
@[simp] theorem modSeq_link (f : Sequence → Sequence) : (modSeq f w).link = w.link := rfl
@[simp] theorem modSeq_pending (f : Sequence → Sequence) : (modSeq f w).pending = w.pending := rfl
@[simp] theorem modSeq_agenda (f : Sequence → Sequence) : (modSeq f w).agenda = w.agenda := rfl
@[simp] theorem modSeq_outbox (f : Sequence → Sequence) : (modSeq f w).outbox = w.outbox := rfl
@[simp] theorem modSeq_reply (f : Sequence → Sequence) : (modSeq f w).reply = w.reply := rfl
@[simp] theorem modSeq_atOnce (f : Sequence → Sequence) : (modSeq f w).atOnce = w.atOnce := rfl

/-! ## setOwner -/

@[simp] theorem setOwner_now (o : Owner) : (setOwner o w).now = w.now := rfl
@[simp] theorem setOwner_phase (o : Owner) : (setOwner o w).phase = w.phase := rfl
@[simp] theorem setOwner_conf (o : Owner) : (setOwner o w).conf = w.conf := rfl
@[simp] theorem setOwner_feed (o : Owner) : (setOwner o w).feed = w.feed := rfl
@[simp] theorem setOwner_media (o : Owner) : (setOwner o w).media = { w.media with owner := o } := rfl
@[simp] theorem setOwner_sheet (o : Owner) : (setOwner o w).sheet = w.sheet := rfl
@[simp] theorem setOwner_supply (o : Owner) : (setOwner o w).supply = w.supply := rfl
@[simp] theorem setOwner_pump (o : Owner) : (setOwner o w).pump = w.pump := rfl
@[simp] theorem setOwner_station (o : Owner) : (setOwner o w).station = w.station := rfl
@[simp] theorem setOwner_checker (o : Owner) : (setOwner o w).checker = w.checker := rfl
@[simp] theorem setOwner_link (o : Owner) : (setOwner o w).link = w.link := rfl
@[simp] theorem setOwner_pending (o : Owner) : (setOwner o w).pending = w.pending := rfl
@[simp] theorem setOwner_agenda (o : Owner) : (setOwner o w).agenda = w.agenda := rfl
@[simp] theorem setOwner_outbox (o : Owner) : (setOwner o w).outbox = w.outbox := rfl
@[simp] theorem setOwner_reply (o : Owner) : (setOwner o w).reply = w.reply := rfl
@[simp] theorem setOwner_atOnce (o : Owner) : (setOwner o w).atOnce = w.atOnce := rfl

/-! ## setContent -/

@[simp] theorem setContent_now (c : Content) : (setContent c w).now = w.now := rfl
@[simp] theorem setContent_phase (c : Content) : (setContent c w).phase = w.phase := rfl
@[simp] theorem setContent_conf (c : Content) : (setContent c w).conf = w.conf := rfl
@[simp] theorem setContent_feed (c : Content) : (setContent c w).feed = w.feed := rfl
@[simp] theorem setContent_media (c : Content) : (setContent c w).media = { w.media with content := c } := rfl
@[simp] theorem setContent_sheet (c : Content) : (setContent c w).sheet = w.sheet := rfl
@[simp] theorem setContent_supply (c : Content) : (setContent c w).supply = w.supply := rfl
@[simp] theorem setContent_pump (c : Content) : (setContent c w).pump = w.pump := rfl
@[simp] theorem setContent_station (c : Content) : (setContent c w).station = w.station := rfl
@[simp] theorem setContent_checker (c : Content) : (setContent c w).checker = w.checker := rfl
@[simp] theorem setContent_link (c : Content) : (setContent c w).link = w.link := rfl
@[simp] theorem setContent_pending (c : Content) : (setContent c w).pending = w.pending := rfl
@[simp] theorem setContent_agenda (c : Content) : (setContent c w).agenda = w.agenda := rfl
@[simp] theorem setContent_outbox (c : Content) : (setContent c w).outbox = w.outbox := rfl
@[simp] theorem setContent_reply (c : Content) : (setContent c w).reply = w.reply := rfl
@[simp] theorem setContent_atOnce (c : Content) : (setContent c w).atOnce = w.atOnce := rfl

/-! ## modSheet -/

@[simp] theorem modSheet_now (f : Sheet → Sheet) : (modSheet f w).now = w.now := rfl
@[simp] theorem modSheet_phase (f : Sheet → Sheet) : (modSheet f w).phase = w.phase := rfl
@[simp] theorem modSheet_conf (f : Sheet → Sheet) : (modSheet f w).conf = w.conf := rfl
@[simp] theorem modSheet_feed (f : Sheet → Sheet) : (modSheet f w).feed = w.feed := rfl
@[simp] theorem modSheet_media (f : Sheet → Sheet) : (modSheet f w).media = w.media := rfl
@[simp] theorem modSheet_sheet (f : Sheet → Sheet) : (modSheet f w).sheet = f w.sheet := rfl
@[simp] theorem modSheet_supply (f : Sheet → Sheet) : (modSheet f w).supply = w.supply := rfl
@[simp] theorem modSheet_pump (f : Sheet → Sheet) : (modSheet f w).pump = w.pump := rfl
@[simp] theorem modSheet_station (f : Sheet → Sheet) : (modSheet f w).station = w.station := rfl
@[simp] theorem modSheet_checker (f : Sheet → Sheet) : (modSheet f w).checker = w.checker := rfl
@[simp] theorem modSheet_link (f : Sheet → Sheet) : (modSheet f w).link = w.link := rfl
@[simp] theorem modSheet_pending (f : Sheet → Sheet) : (modSheet f w).pending = w.pending := rfl
@[simp] theorem modSheet_agenda (f : Sheet → Sheet) : (modSheet f w).agenda = w.agenda := rfl
@[simp] theorem modSheet_outbox (f : Sheet → Sheet) : (modSheet f w).outbox = w.outbox := rfl
@[simp] theorem modSheet_reply (f : Sheet → Sheet) : (modSheet f w).reply = w.reply := rfl
@[simp] theorem modSheet_atOnce (f : Sheet → Sheet) : (modSheet f w).atOnce = w.atOnce := rfl

/-! ## modChecker -/

@[simp] theorem modChecker_now (f : Checker → Checker) : (modChecker f w).now = w.now := rfl
@[simp] theorem modChecker_phase (f : Checker → Checker) : (modChecker f w).phase = w.phase := rfl
@[simp] theorem modChecker_conf (f : Checker → Checker) : (modChecker f w).conf = w.conf := rfl
@[simp] theorem modChecker_feed (f : Checker → Checker) : (modChecker f w).feed = w.feed := rfl
@[simp] theorem modChecker_media (f : Checker → Checker) : (modChecker f w).media = w.media := rfl
@[simp] theorem modChecker_sheet (f : Checker → Checker) : (modChecker f w).sheet = w.sheet := rfl
@[simp] theorem modChecker_supply (f : Checker → Checker) : (modChecker f w).supply = w.supply := rfl
@[simp] theorem modChecker_pump (f : Checker → Checker) : (modChecker f w).pump = w.pump := rfl
@[simp] theorem modChecker_station (f : Checker → Checker) : (modChecker f w).station = w.station := rfl
@[simp] theorem modChecker_checker (f : Checker → Checker) : (modChecker f w).checker = f w.checker := rfl
@[simp] theorem modChecker_link (f : Checker → Checker) : (modChecker f w).link = w.link := rfl
@[simp] theorem modChecker_pending (f : Checker → Checker) : (modChecker f w).pending = w.pending := rfl
@[simp] theorem modChecker_agenda (f : Checker → Checker) : (modChecker f w).agenda = w.agenda := rfl
@[simp] theorem modChecker_outbox (f : Checker → Checker) : (modChecker f w).outbox = w.outbox := rfl
@[simp] theorem modChecker_reply (f : Checker → Checker) : (modChecker f w).reply = w.reply := rfl
@[simp] theorem modChecker_atOnce (f : Checker → Checker) : (modChecker f w).atOnce = w.atOnce := rfl

/-! ## modCheck -/

@[simp] theorem modCheck_now (f : Check → Check) : (modCheck f w).now = w.now := rfl
@[simp] theorem modCheck_phase (f : Check → Check) : (modCheck f w).phase = w.phase := rfl
@[simp] theorem modCheck_conf (f : Check → Check) : (modCheck f w).conf = w.conf := rfl
@[simp] theorem modCheck_feed (f : Check → Check) : (modCheck f w).feed = w.feed := rfl
@[simp] theorem modCheck_media (f : Check → Check) : (modCheck f w).media = w.media := rfl
@[simp] theorem modCheck_sheet (f : Check → Check) : (modCheck f w).sheet = w.sheet := rfl
@[simp] theorem modCheck_supply (f : Check → Check) : (modCheck f w).supply = w.supply := rfl
@[simp] theorem modCheck_pump (f : Check → Check) : (modCheck f w).pump = w.pump := rfl
@[simp] theorem modCheck_station (f : Check → Check) : (modCheck f w).station = w.station := rfl
@[simp] theorem modCheck_checker (f : Check → Check) : (modCheck f w).checker = { w.checker with check := w.checker.check.map f } := rfl
@[simp] theorem modCheck_link (f : Check → Check) : (modCheck f w).link = w.link := rfl
@[simp] theorem modCheck_pending (f : Check → Check) : (modCheck f w).pending = w.pending := rfl
@[simp] theorem modCheck_agenda (f : Check → Check) : (modCheck f w).agenda = w.agenda := rfl
@[simp] theorem modCheck_outbox (f : Check → Check) : (modCheck f w).outbox = w.outbox := rfl
@[simp] theorem modCheck_reply (f : Check → Check) : (modCheck f w).reply = w.reply := rfl
@[simp] theorem modCheck_atOnce (f : Check → Check) : (modCheck f w).atOnce = w.atOnce := rfl

/-! ## Updates of a state -/

@[simp] theorem setLink_now (f : Link → Link) : (setLink f s).now = s.now := rfl
@[simp] theorem setLink_phase (f : Link → Link) : (setLink f s).phase = s.phase := rfl
@[simp] theorem setLink_conf (f : Link → Link) : (setLink f s).conf = s.conf := rfl
@[simp] theorem setLink_feed (f : Link → Link) : (setLink f s).feed = s.feed := rfl
@[simp] theorem setLink_media (f : Link → Link) : (setLink f s).media = s.media := rfl
@[simp] theorem setLink_sheet (f : Link → Link) : (setLink f s).sheet = s.sheet := rfl
@[simp] theorem setLink_supply (f : Link → Link) : (setLink f s).supply = s.supply := rfl
@[simp] theorem setLink_pump (f : Link → Link) : (setLink f s).pump = s.pump := rfl
@[simp] theorem setLink_station (f : Link → Link) : (setLink f s).station = s.station := rfl
@[simp] theorem setLink_checker (f : Link → Link) : (setLink f s).checker = s.checker := rfl
@[simp] theorem setLink_link (f : Link → Link) : (setLink f s).link = f s.link := rfl
@[simp] theorem setLink_pending (f : Link → Link) : (setLink f s).pending = s.pending := rfl
@[simp] theorem withHome_now (home : Bool) : (withHome home s).now = s.now := rfl
@[simp] theorem withHome_phase (home : Bool) : (withHome home s).phase = s.phase := rfl
@[simp] theorem withHome_conf (home : Bool) : (withHome home s).conf = s.conf := rfl
@[simp] theorem withHome_feed (home : Bool) : (withHome home s).feed = s.feed := rfl
@[simp] theorem withHome_media (home : Bool) : (withHome home s).media = s.media := rfl
@[simp] theorem withHome_sheet (home : Bool) : (withHome home s).sheet = s.sheet := rfl
@[simp] theorem withHome_supply (home : Bool) : (withHome home s).supply = s.supply := rfl
@[simp] theorem withHome_pump (home : Bool) : (withHome home s).pump = s.pump := rfl
@[simp] theorem withHome_station (home : Bool) : (withHome home s).station = { s.station with car := { s.station.car with home := home } } := rfl
@[simp] theorem withHome_checker (home : Bool) : (withHome home s).checker = s.checker := rfl
@[simp] theorem withHome_link (home : Bool) : (withHome home s).link = s.link := rfl
@[simp] theorem withHome_pending (home : Bool) : (withHome home s).pending = s.pending := rfl

/-! ## Conditions and lists -/

@[simp] theorem reached_iff (due now : Nat) : reached due now = true ↔ due ≤ now := by simp [reached]
@[simp] theorem reached_false_iff (due now : Nat) : reached due now = false ↔ now < due := by simp [reached]
@[simp] theorem when_true (f : Work → Work) : when true f w = f w := rfl
@[simp] theorem when_false (f : Work → Work) : when false f w = w := rfl
@[simp] theorem forEach_nil {α : Type} (f : α → Work → Work) : forEach [] f w = w := rfl
@[simp] theorem forEach_cons {α : Type} (x : α) (xs : List α) (f : α → Work → Work) :
    forEach (x :: xs) f w = forEach xs f (f x w) := rfl

/-! ## One of a fixed number of like things -/

variable {α : Type}

@[simp] theorem Chans.get_set_same (x : Chans α) (i : Chan) (v : α) : (x.set i v).get i = v := by cases i <;> rfl
theorem Chans.get_set_other (x : Chans α) {i j : Chan} (v : α) (h : j ≠ i) : (x.set i v).get j = x.get j := by
  cases i <;> cases j <;> first | rfl | exact absurd rfl h
theorem Chans.get_set (x : Chans α) (i j : Chan) (v : α) : (x.set i v).get j = if j = i then v else x.get j := by
  cases i <;> cases j <;> rfl
@[simp] theorem Chans.set_get (x : Chans α) (i : Chan) : x.set i (x.get i) = x := by cases i <;> rfl
@[simp] theorem Chans.set_set (x : Chans α) (i : Chan) (v v' : α) : (x.set i v).set i v' = x.set i v' := by
  cases i <;> rfl
@[simp] theorem Chans.get_all (v : α) (i : Chan) : (Chans.all v).get i = v := by cases i <;> rfl
@[simp] theorem Chans.get_map {β : Type} (f : α → β) (x : Chans α) (i : Chan) : (x.map f).get i = f (x.get i) := by
  cases i <;> rfl

@[simp] theorem Heads.get_set_same (x : Heads α) (i : Head) (v : α) : (x.set i v).get i = v := by cases i <;> rfl
theorem Heads.get_set (x : Heads α) (i j : Head) (v : α) : (x.set i v).get j = if j = i then v else x.get j := by
  cases i <;> cases j <;> rfl
@[simp] theorem Heads.set_get (x : Heads α) (i : Head) : x.set i (x.get i) = x := by cases i <;> rfl
@[simp] theorem Heads.get_all (v : α) (i : Head) : (Heads.all v).get i = v := by cases i <;> rfl

@[simp] theorem Rows.get_set_same (x : Rows α) (i : Row) (v : α) : (x.set i v).get i = v := by cases i <;> rfl
theorem Rows.get_set (x : Rows α) (i j : Row) (v : α) : (x.set i v).get j = if j = i then v else x.get j := by
  cases i <;> cases j <;> rfl
@[simp] theorem Rows.set_get (x : Rows α) (i : Row) : x.set i (x.get i) = x := by cases i <;> rfl

@[simp] theorem Slots.get_set_same (x : Slots α) (i : Slot) (v : α) : (x.set i v).get i = v := by cases i <;> rfl
theorem Slots.get_set (x : Slots α) (i j : Slot) (v : α) : (x.set i v).get j = if j = i then v else x.get j := by
  cases i <;> cases j <;> rfl
@[simp] theorem Slots.set_get (x : Slots α) (i : Slot) : x.set i (x.get i) = x := by cases i <;> rfl
@[simp] theorem Slots.get_other (x : Slots α) (i : Slot) (v : α) : (x.set i v).get i.other = x.get i.other := by
  cases i <;> rfl

@[simp] theorem Bays.get_set_same (x : Bays α) (i : Letter) (v : α) : (x.set i v).get i = v := by cases i <;> rfl
theorem Bays.get_set (x : Bays α) (i j : Letter) (v : α) : (x.set i v).get j = if j = i then v else x.get j := by
  cases i <;> cases j <;> rfl
@[simp] theorem Bays.set_get (x : Bays α) (i : Letter) : x.set i (x.get i) = x := by cases i <;> rfl
@[simp] theorem Bays.set_set (x : Bays α) (i : Letter) (v v' : α) : (x.set i v).set i v' = x.set i v' := by
  cases i <;> rfl

end Sys2Proof.Machine
end

