-- ==== Sys2Proof/Laws/Events.lean ====
section
/-! SUPPORT. How one event comes to its outcome: what `drain`, `occur`, `settle`, `ask` and `serve` answer, said once, so that a
later proof about a command speaks only of the block that handles it. -/

namespace Sys2Proof.Machine

open Sys2Proof

/-! ## Delivering reports -/

theorem drain_nil {w : Work} (n : Nat) (h : w.agenda = []) : drain n w = some w := by
  unfold drain; rw [h]

theorem drain_cons {w : Work} {r : Report} {rest : List Report} (n : Nat) (h : w.agenda = r :: rest) :
    drain (n + 1) w = drain n (deliver r { w with agenda := rest }) := by
  conv => lhs; unfold drain
  rw [h]

/-- Induction over the reports of an event: what holds of the work and is kept by every delivery holds at the event's end. -/
theorem drain_keeps {P : Work → Prop}
    (hd : ∀ (r : Report) (rest : List Report) (w : Work), w.agenda = r :: rest → P w → P (deliver r { w with agenda := rest }))
    (n : Nat) (w t : Work) (h : P w) (hn : drain n w = some t) : P t ∧ t.agenda = [] := by
  induction n generalizing w with
  | zero =>
    unfold drain at hn
    split at hn
    · rename_i ha; cases hn; exact ⟨h, ha⟩
    · exact absurd hn (by simp)
  | succ n ih =>
    unfold drain at hn
    split at hn
    · rename_i ha; cases hn; exact ⟨h, ha⟩
    · rename_i r rest ha
      exact ih _ (hd r rest w ha h) hn

/-! ## The end of an event -/

@[simp] theorem told_nil (l : Link) : told [] l = l := rfl

theorem told_cons (n : Notice) (ns : List Notice) (l : Link) : told (n :: ns) l = told ns (placeNotice n l) := rfl

theorem told_append (ns ms : List Notice) (l : Link) : told (ns ++ ms) l = told ms (told ns l) := by
  simp [told, List.foldl_append]

@[simp] theorem lookReady_ready {w : Work} (h : w.phase = .ready) : lookReady w = w := by simp [lookReady, h]

@[simp] theorem lookReady_storeFault {w : Work} (h : w.phase = .storeFault) : lookReady w = w := by simp [lookReady, h]

theorem close_ready {w : Work} (h : w.phase = .ready) : close w = { w.toState with link := told w.outbox w.link } := by
  simp [close, lookReady_ready h, flush, told]

theorem occur_ready {f : Work → Work} {s : State} {w : Work} (hs : s.phase = .ready)
    (hd : drain reportBound (f (Work.of s)) = some w) (hw : w.phase = .ready) :
    occur f s = .next { w.toState with link := told w.outbox w.link } := by
  have h : ¬ s.phase = .storeFault := by rw [hs]; decide
  simp [occur, h, hd, finish, close_ready hw]

theorem occur_storeFault {f : Work → Work} {s : State} (hs : s.phase = .storeFault) : occur f s = .next s := by
  simp [occur, hs]

/-- An event whose handling gives no report. -/
theorem occur_quiet {f : Work → Work} {s : State} (hs : s.phase = .ready) (ha : (f (Work.of s)).agenda = [])
    (hp : (f (Work.of s)).phase = .ready) :
    occur f s = .next { (f (Work.of s)).toState with link := told (f (Work.of s)).outbox (f (Work.of s)).link } :=
  occur_ready hs (drain_nil _ ha) hp

/-- What an event that answers a next state is made of. -/
theorem occur_next {f : Work → Work} {s t : State} (h : occur f s = .next t) :
    (s.phase = .storeFault ∧ t = s)
      ∨ (s.phase ≠ .storeFault ∧ ∃ w, drain reportBound (f (Work.of s)) = some w ∧ t = close w) := by
  unfold occur at h
  split at h
  · cases h; exact .inl ⟨‹_›, rfl⟩
  · cases hd : drain reportBound (f (Work.of s)) with
    | none => simp [hd, finish] at h
    | some w => simp only [hd, Option.map_some, finish] at h; cases h; exact .inr ⟨‹_›, w, rfl, rfl⟩

/-! ## Deciding a request -/

/-- What `hears` says, one by one. -/
theorem hears_parts {s : State} {tag : Nat} (h : s.hears tag = true) :
    s.phase = .ready ∧ s.link.buffer = [] ∧ mayDecide s.link = true ∧ tag ≠ 0 ∧ outstanding s.link tag = false
      ∧ s.link.table.length < Config.tableSlots := by
  simp only [State.hears, Bool.and_eq_true, decide_eq_true_eq, List.isEmpty_iff, bne_iff_ne, ne_eq,
    Bool.not_eq_true'] at h
  obtain ⟨⟨⟨⟨⟨h1, h2⟩, h3⟩, h4⟩, h5⟩, h6⟩ := h
  exact ⟨h1, h2, h3, h4, h5, h6⟩

/-- No entry of the table holds a tag that is not outstanding. -/
theorem find_not_outstanding {l : Link} {tag : Nat} (h : outstanding l tag = false) :
    l.table.find? (fun e => e.tag = tag) = none := by
  simp only [outstanding, List.any_eq_false, decide_eq_true_eq] at h
  simpa [List.find?_eq_none] using h

/-- A request that is heard passes every link check (Table 9-2). -/
theorem linkCheck_hears {s : State} {q : Request} (h : s.hears q.tag = true) (hu : q.body ≠ .unknownKind)
    (hb : q.body ≠ .badLength) : linkCheck q s = none := by
  obtain ⟨hp, -, -, ht, ho, hl⟩ := hears_parts h
  have : ¬ Config.tableSlots ≤ s.link.table.length := by omega
  simp [linkCheck, ht, hu, hb, hp, find_not_outstanding ho, this]

/-- A request that arrives at an empty buffer is decided alone. -/
theorem ask_decideOne {s : State} {q : Request} (hb : s.link.buffer = []) (hm : mayDecide s.link = true) :
    ask q s = finish (decideOne q s) := by
  have harr : setLink (arrive q) s = { s with link := { s.link with buffer := [q] } } := by
    simp [setLink, arrive, hb, Config.bufferSlots]
  have hm' : mayDecide ({ s.link with buffer := [q] }) = true := hm
  have hback : setLink (fun l => { l with buffer := [] }) { s with link := { s.link with buffer := [q] } } = s := by
    simp only [setLink]; rw [← hb]
  have h1 : serve { s with link := { s.link with buffer := [q] } }
      = finish ((decideOne q s).bind (decideAll 0)) := by
    simp only [serve, List.length_cons, List.length_nil, decideAll]
    rw [if_pos hm', hback]
  rw [ask, harr, h1]
  cases decideOne q s <;> rfl

theorem settle_ready {q : Request} {w : Work} {r : Reply} (hr : w.reply = some r) (hp : w.phase = .ready) :
    settle q w = { w.toState with link := told w.outbox (placeReply q r w.link) } := by
  simp only [settle, hr]
  rw [close_ready (by exact hp)]

/-- A heard request other than RESET: the block's decision, everything that follows from it, its reply, its notices. -/
theorem ask_routed {s : State} {q : Request} {w : Work} {r : Reply} (h : s.hears q.tag = true) (hu : q.body ≠ .unknownKind)
    (hb : q.body ≠ .badLength) (hx : q.body ≠ .reset) (hd : drain reportBound (route q (Work.of s)) = some w)
    (hr : w.reply = some r) (hp : w.phase = .ready) :
    ask q s = .next { w.toState with link := told w.outbox (placeReply q r w.link) } := by
  obtain ⟨-, hbuf, hm, -⟩ := hears_parts h
  rw [ask_decideOne hbuf hm, decideOne, linkCheck_hears h hu hb]
  simp only [hx, if_false, routed, hd, Option.map_some, finish, settle_ready hr hp]

/-- A heard request whose decision gives no report. -/
theorem ask_quiet {s : State} {q : Request} {r : Reply} (h : s.hears q.tag = true) (hu : q.body ≠ .unknownKind)
    (hb : q.body ≠ .badLength) (hx : q.body ≠ .reset) (ha : (route q (Work.of s)).agenda = [])
    (hr : (route q (Work.of s)).reply = some r) (hp : (route q (Work.of s)).phase = .ready) :
    ask q s = .next { (route q (Work.of s)).toState with
      link := told (route q (Work.of s)).outbox (placeReply q r (route q (Work.of s)).link) } :=
  ask_routed h hu hb hx (drain_nil _ ha) hr hp

/-- A request that a link check turns away: its reply is placed, and nothing else changes (R174). -/
theorem ask_turnedAway {s : State} {q : Request} {r : Reply} (hb : s.link.buffer = []) (hm : mayDecide s.link = true)
    (h : linkCheck q s = some r) : ask q s = .next (setLink (placeReply q r) s) := by
  rw [ask_decideOne hb hm, decideOne, h]; rfl

/-- An empty receive buffer leaves nothing to decide. -/
theorem serve_empty {s : State} (h : s.link.buffer = []) : serve s = .next s := by
  simp [serve, h, decideAll, finish]

end Sys2Proof.Machine
end

