-- ==== Sys2Proof/Laws/Feed.lean ====
section
/-! SUPPORT. The feed drive: what asking for a move, starting one and ending one can do (R1, R3, R4, R6, R8, R18), said once. -/

namespace Sys2Proof.Machine

open Sys2Proof

/-! ## Asking -/

theorem moveAnswer_taken {q : MoveAsk} {s : State} (hm : s.feed.move = none) (ho : q.owner = s.media.owner)
    (hi : s.media.owner ≠ .idle) (ha : allowed q.owner q.forward q.purpose = true) (hl : lengthOk q.purpose q.a = true) :
    moveAnswer q s = .taken := by
  simp [moveAnswer, hm, ho, hi, hl, ho ▸ ha]

/-- A request that R1 takes. -/
theorem askMove_taken {q : MoveAsk} {w : Work} (h : moveAnswer q w.toState = .taken) : askMove q w = startMove q w := by
  simp [askMove, h]

/-- A request while a move is in flight is kept and asked again. -/
theorem askMove_busy {q : MoveAsk} {w : Work} (h : w.feed.move.isSome = true) :
    askMove q w = { w with feed := { w.feed with again := some q } } := by
  simp [askMove, moveAnswer, h]

/-! ## Starting -/

/-- A forward move with counts to drive (R4, R6, R9). -/
theorem startMove_forward {q : MoveAsk} {w : Work} (hf : q.forward = true) (ha : q.a ≠ 0)
    (hc : forwardCounts q.a w.feed.k (totalS w.toState) w.feed.r ≠ 0) :
    startMove q w = { w with
      feed := { w.feed with
        r := newResidue q.a w.feed.k (totalS w.toState) w.feed.r
        move := some ⟨q, forwardCounts q.a w.feed.k (totalS w.toState) w.feed.r, totalS w.toState, trackingApplies q w.toState,
          w.now, 0⟩ } } := by
  simp [startMove, hf, ha, hc]

/-- A reverse move with counts to drive (R8). -/
theorem startMove_reverse {q : MoveAsk} {w : Work} (hf : q.forward = false) (hc : reverseCounts q.a w.feed.k ≠ 0) :
    startMove q w = { w with
      feed := { w.feed with move := some ⟨q, reverseCounts q.a w.feed.k, 0, false, w.now, 0⟩ } } := by
  simp [startMove, hf, hc]

/-! ## The correction -/

theorem pathProfile_of {s : State} {sl : Slot} (h : rollOnPath s.media = some sl) :
    pathProfile s = (s.media.rolls.get sl).profile.bind (profileAt s) := by
  simp only [pathProfile, h]; cases (s.media.rolls.get sl).profile <;> rfl

theorem totalS_of {s : State} {sl : Slot} (h : rollOnPath s.media = some sl) :
    totalS s = clampInt (-20000) 20000
      ((((s.media.rolls.get sl).profile.bind (profileAt s)).map Profile.sProfile).getD 0 + s.feed.sHost + s.feed.sTrack) := by
  simp only [totalS, sProfile, pathProfile_of h, Config.totalTrimLimit]
  cases (s.media.rolls.get sl).profile.bind (profileAt s) <;> rfl

theorem trackingApplies_none {q : MoveAsk} {s : State} (h : threadedSlot s.media = none) : trackingApplies q s = false := by
  simp [trackingApplies, h]

/-! ## The slot on the path -/

theorem threadedSlot_state {m : Media} {sl : Slot} (h : threadedSlot m = some sl) : (m.rolls.get sl).state = .threaded := by
  unfold threadedSlot at h
  split at h
  · cases h; assumption
  · split at h
    · cases h; assumption
    · cases h

/-- The THREADED slot depends on the two states alone. -/
theorem threadedSlot_congr {m n : Media} (h : ∀ sl, (m.rolls.get sl).state = (n.rolls.get sl).state) :
    threadedSlot m = threadedSlot n := by
  have h1 : m.rolls.s1.state = n.rolls.s1.state := h .s1
  have h2 : m.rolls.s2.state = n.rolls.s2.state := h .s2
  simp [threadedSlot, h1, h2]

/-- A record that keeps its state leaves the THREADED slot. -/
theorem threadedSlot_set {m n : Media} {sl : Slot} {r : Roll} (hn : n.rolls = m.rolls.set sl r)
    (hr : r.state = (m.rolls.get sl).state) : threadedSlot n = threadedSlot m := by
  apply threadedSlot_congr
  intro x; rw [hn, Slots.get_set]; split
  · subst_vars; exact hr
  · rfl

theorem rollOnPath_threaded {m : Media} {sl : Slot} (h : threadedSlot m = some sl) : rollOnPath m = some sl := by
  simp [rollOnPath, h]

theorem rollOnPath_seq {m : Media} {q : Sequence} (h : threadedSlot m = none) (hq : m.seq = some q)
    (hs : (q.step.isLoad || q.step.isEject) = true) : rollOnPath m = some q.slot := by
  simp only [rollOnPath, h, hq, hs, if_true]

/-- A number that names its slot. -/
@[simp] theorem Slot.ofNum_num (sl : Slot) : Slot.ofNum sl.num = some sl := by cases sl <;> rfl
@[simp] theorem Chan.ofNum_num (ch : Chan) : Chan.ofNum ch.num = some ch := by cases ch <;> rfl
@[simp] theorem Head.ofNum_num (h : Head) : Head.ofNum h.num = some h := by cases h <;> rfl
@[simp] theorem Row.ofNum_num (r : Row) : Row.ofNum r.num = some r := by cases r <;> rfl
@[simp] theorem Letter.ofNum_num (l : Letter) : Letter.ofNum l.num = some l := by cases l <;> rfl
@[simp] theorem Slot.other_ne (sl : Slot) : sl.other ≠ sl := by cases sl <;> decide
@[simp] theorem Slot.ne_other (sl : Slot) : sl ≠ sl.other := by cases sl <;> decide
@[simp] theorem Slot.other_other (sl : Slot) : sl.other.other = sl := by cases sl <;> rfl

end Sys2Proof.Machine
end

