-- ==== Sys2Proof/Laws/Pump.lean ====
section
/-! SUPPORT. The ink of a channel: when a change of E is heard by nobody, and what a debit then does (R94 to R100). -/

namespace Sys2Proof.Machine

open Sys2Proof

@[simp] theorem chanRec_modChan_same (ch : Chan) (f : Channel → Channel) (w : Work) :
    chanRec (modChan ch f w).toState ch = f (chanRec w.toState ch) := by
  simp [chanRec]

theorem chanRec_modChan (ch x : Chan) (f : Channel → Channel) (w : Work) :
    chanRec (modChan ch f w).toState x = if x = ch then f (chanRec w.toState ch) else chanRec w.toState x := by
  simp [chanRec, Chans.get_set]

/-- At or above the refill threshold nothing is raised (R100). -/
theorem lookRefill_full {ch : Chan} {w : Work} (h : Config.refillThreshold ≤ (chanRec w.toState ch).e) :
    lookRefill ch w = w := by
  have : ¬ (chanRec w.toState ch).e < Config.refillThreshold := by omega
  simp [lookRefill, refillWanted, this]

/-- A channel that is STARVED has nothing raised for it (R100, R103). -/
theorem lookRefill_starved {ch : Chan} {w : Work} (h : w.supply.supplied.get ch = false) : lookRefill ch w = w := by
  simp [lookRefill, refillWanted, h]

theorem lookStir_starved {ch : Chan} {w : Work} (h : w.supply.supplied.get ch = false) : lookStir ch w = w := by
  simp [lookStir, stirWanted, h]

/-- A channel with an operation in flight has no refill raised for it (R100). -/
theorem lookRefill_opOn {ch : Chan} {w : Work} (h : opOn w.pump ch = true) : lookRefill ch w = w := by
  simp [lookRefill, refillWanted, h]

theorem lookStir_opOn {ch : Chan} {w : Work} (h : opOn w.pump ch = true) : lookStir ch w = w := by
  simp [lookStir, stirWanted, h]

/-- A look at R103 is made at once when only looks at R103 are left in the event. -/
theorem stirLook_last {ch : Chan} {w : Work} (h : ∀ r ∈ w.agenda, r.isStirLook = true) : stirLook ch w = lookStir ch w := by
  have : w.agenda.filter (fun r => !r.isStirLook) = [] := by simpa [List.filter_eq_nil_iff] using h
  simp [stirLook, this]

/-- A look at R103 that is not the last changes nothing but the order of the reports. -/
theorem stirLook_waits {ch : Chan} {w : Work} (h : ∃ r ∈ w.agenda, r.isStirLook = false) :
    (stirLook ch w).toState = w.toState ∧ (stirLook ch w).outbox = w.outbox := by
  unfold stirLook
  split
  · rename_i hn
    obtain ⟨r, hr, hf⟩ := h
    have := List.filter_eq_nil_iff.mp hn r hr
    simp [hf] at this
  · exact ⟨rfl, rfl⟩

/-- A change of E that leaves the flags and raises nothing is heard by nobody (R96, R97, R100). -/
theorem levelChanged_quiet {ch : Chan} {w : Work} (hh : holdAfter (chanRec w.toState ch).e (chanRec w.toState ch).hold
      = (chanRec w.toState ch).hold) (hd : dryAfter (chanRec w.toState ch).e (chanRec w.toState ch).dry = (chanRec w.toState ch).dry)
    (hl : lookRefill ch w = w) : levelChanged ch false w = w := by
  simp [levelChanged, setDry, setHold, hd, hh, hl]

/-- A channel with neither ink hold nor DRY, at or above the print reserve, keeps both flags. -/
theorem flags_kept {c : Channel} (hh : c.hold = false) (hd : c.dry = false) (he : Config.printReserve ≤ c.e) :
    holdAfter c.e c.hold = c.hold ∧ dryAfter c.e c.dry = c.dry := by
  have : ¬ c.e < Config.printReserve := by omega
  simp [holdAfter, dryAfter, hh, hd, this]

/-- A debit of drops from a channel that stays well supplied: its volume, and the record it leaves (R94, R95). -/
theorem debitDrops_ample {t : Tally} {ch : Chan} {n : Nat} {w : Work} (hn : n ≠ 0) (h : w.toState.ample ch n) :
    debitDrops t ch n w
      = (dropVolume w.toState ch n,
         modChan ch (fun c => debitChannel t (dropVolume w.toState ch n) { c with residue := dropResidue w.toState ch n }) w) := by
  obtain ⟨h1, h2, h3⟩ := h hn
  simp only [debitDrops, debitVolume]
  congr 1
  by_cases hv : dropVolume w.toState ch n = 0
  · rw [if_pos hv]; simp [hv, debitChannel]
    cases t <;> rfl
  · rw [if_neg hv]
    have hle : ¬ (chanRec w.toState ch).e < dropVolume w.toState ch n := by omega
    have hle' : dropVolume w.toState ch n ≤ (chanRec w.toState ch).e := by omega
    have hc : chanRec (modChan ch (fun c => { c with residue := dropResidue w.toState ch n }) w).toState ch
        = { chanRec w.toState ch with residue := dropResidue w.toState ch n } := by simp
    rw [hc]
    have hflag : decide (({ chanRec w.toState ch with residue := dropResidue w.toState ch n } : Channel).e
        < dropVolume w.toState ch n) = false := by simp [hle'] 
    rw [hflag]
    have hmm : modChan ch (debitChannel t (dropVolume w.toState ch n))
        (modChan ch (fun c => { c with residue := dropResidue w.toState ch n }) w)
        = modChan ch (fun c => debitChannel t (dropVolume w.toState ch n) { c with residue := dropResidue w.toState ch n }) w := by
      simp [modChan, modPump]
    rw [hmm]
    set w' := modChan ch (fun c => debitChannel t (dropVolume w.toState ch n) { c with residue := dropResidue w.toState ch n }) w
    have he : (chanRec w'.toState ch).e = (chanRec w.toState ch).e - dropVolume w.toState ch n := by
      simp [w', debitChannel, hle']; cases t <;> rfl
    have hh : (chanRec w'.toState ch).hold = false := by
      simp [w', debitChannel, hle']; cases t <;> exact h3
    have hd : (chanRec w'.toState ch).dry = false := by
      simp [w', debitChannel, hle']; cases t <;> exact h2
    have hfl := flags_kept hh hd (by rw [he]; simp only [Config.printReserve, Config.refillThreshold] at *; omega)
    exact levelChanged_quiet hfl.1 hfl.2 (lookRefill_full (by rw [he]; omega))

end Sys2Proof.Machine
end

