-- ==== Sys2Proof/Tests/Slice0.lean ====
section
/-! SUPPORT. The model's own tests: the smoke test of well-formedness, values the spec works out, one step of some commands, and, for
each statement with hypotheses, concrete states and operands that meet them. -/

set_option maxRecDepth 4000

namespace Sys2Proof.Tests

open Sys2Proof Sys2Proof.Machine

/-! ## Small states -/

def onMedia (f : Media → Media) (s : State) : State := { s with media := f s.media }
def onSheet (f : Sheet → Sheet) (s : State) : State := { s with sheet := f s.sheet }
def onFeed (f : Feed → Feed) (s : State) : State := { s with feed := f s.feed }
def onPump (f : Pump → Pump) (s : State) : State := { s with pump := f s.pump }
def onSupply (f : Supply → Supply) (s : State) : State := { s with supply := f s.supply }
def onStation (f : Station → Station) (s : State) : State := { s with station := f s.station }
def onCar (f : Carriage → Carriage) (s : State) : State := onStation (fun t => { t with car := f t.car }) s
def onLink (f : Link → Link) (s : State) : State := { s with link := f s.link }
def onChecker (f : Checker → Checker) (s : State) : State := { s with checker := f s.checker }
def onConf (f : Conf → Conf) (s : State) : State := { s with conf := f s.conf }

/-- Five seconds after power-on, nothing in the printer. -/
def base : State := { State.reset with now := 5000 }

/-- A roll of the factory profile with 10 m left. -/
def roll (st : RollState) : Roll := ⟨st, some 0, some 914000, some 914000, some 10000000, false, none⟩

/-- Slot 1 THREADED, the path CLEAN. -/
def threaded : State :=
  onMedia (fun m => { m with rolls := ⟨roll .threaded, Roll.none⟩, content := .clean, present := ⟨true, false⟩ }) base

/-- The carriage OPEN, at rest. -/
def opened (s : State) : State := onCar (fun c => { c with state := .open }) s

/-- A PLAIN sheet of 1 m SWATHING on the threaded roll. -/
def swathing : State :=
  onSheet
    (fun _ => { Sheet.none with
      phase := .swathing, length := 1000000, chans := Chans.all true, margin := 5000, committed := 5000, fed := true })
    (onMedia (fun m => { m with owner := .sheet }) threaded)

/-- A move in flight. -/
def moving (q : MoveAsk) (commanded seen : Nat) (tracked : Bool) (s : State) : State :=
  onFeed (fun f => { f with move := some ⟨q, commanded, 0, tracked, 4000, seen⟩ }) s

/-- A cartridge of black ink. -/
def cart : Cart := ⟨0x1100, 200000000, 100000000, List.replicate 8 0x41⟩

/-- Channel 0 supplied from bay A, its sub-tank full. -/
def supplied : State :=
  onPump (fun p => { p with chans := Chans.all { Channel.powerOn true false with stirSince := some 5000 } })
    (onSupply
      (fun u => { u with
        bays := Chans.all ⟨⟨.active, some cart, some 0, none, 0, false, []⟩, BayRec.vacant⟩
        supplied := Chans.all true }) base)

/-- A tank of 200 ml, a fifth full. -/
def tanked (s : State) : State :=
  onStation (fun t => { t with waste := ⟨some ⟨40000000, 200000000, 39500000⟩, 0, .normal⟩ }) s

/-- The tank is PRESENT on the supply bay unit's side too. -/
def tankPresent (s : State) : State := onSupply (fun u => { u with tank := ⟨.present, 0, []⟩ }) s

/-- A swath of 20 mm, moving or waiting. -/
def swath (tag : Nat) (moves : Bool) : Swath := ⟨tag, 20000, 0, moves⟩

/-- Whether a step or a command answers a next state. -/
def runs : Host.Outcome State Fault Refusal → Bool
  | .next _ => true
  | .fault _ | .refused _ => false

/-- What a command leaves, read by `f`. -/
def leaves {α : Type} (c : Instr) (s : State) (f : State → α) : Option α :=
  match exec c s with
  | .next t => some (f t)
  | .fault _ | .refused _ => none

/-! ## Well-formedness: an ill-formed term for each check -/

def noDrops : Chans Nat := Chans.all 0
def bigDrops : Chans Nat := ⟨0, 0, 0, 0, 0, 4294967296⟩
def someProfile : ProfileFields := ⟨[], 0, 0, 0, 0, 0, 0, 0, 0⟩
def someAccept : AcceptFields := ⟨0, 0, 0, 0, 0, 0, 0, 0, 0⟩
def someMask : MaskFields := ⟨0, 0, 0, 0, 0, 0⟩

theorem test_wellFormed_accepts :
    Instr.wellFormed (.swath 255 4294967295 ⟨0, 0, 0, 0, 0, 4294967295⟩ noDrops) = true
      ∧ Instr.wellFormed (.feedTrimSet 1 (-2147483648)) = true ∧ Instr.wellFormed (.carriageSensorReading 255) = true := by
        decide

theorem test_wellFormed_refuses_tags :
    Instr.wellFormed (.uncap 256) = false ∧ Instr.wellFormed (.cap 256) = false ∧ Instr.wellFormed (.release 256) = false
      ∧ Instr.wellFormed (.park 256 true) = false ∧ Instr.wellFormed (.mediaUnload 256) = false
      ∧ Instr.wellFormed (.pathClear 256) = false ∧ Instr.wellFormed (.statusRead 256) = false
      ∧ Instr.wellFormed (.configRead 256) = false ∧ Instr.wellFormed (.reset 256 true) = false := by decide

theorem test_wellFormed_refuses_kinds :
    Instr.wellFormed (.unknownRequestKind 256 1) = false ∧ Instr.wellFormed (.unknownRequestKind 0x24 256) = false
      ∧ Instr.wellFormed (.unknownRequestKind 0x23 1) = false := by decide

theorem test_wellFormed_refuses_sheets :
    Instr.wellFormed (.sheetOpen 1 4294967296 1 0) = false ∧ Instr.wellFormed (.sheetOpen 1 1 256 0) = false
      ∧ Instr.wellFormed (.sheetOpen 1 1 1 256) = false ∧ Instr.wellFormed (.swath 1 4294967296 noDrops noDrops) = false
      ∧ Instr.wellFormed (.swath 1 1 bigDrops noDrops) = false ∧ Instr.wellFormed (.sheetClose 1 noDrops bigDrops) = false
      ∧ Instr.wellFormed (.sheetAbort 1 bigDrops noDrops) = false := by decide

theorem test_wellFormed_refuses_media :
    Instr.wellFormed (.mediaLoad 1 256 1 none 0) = false ∧ Instr.wellFormed (.mediaLoad 1 1 4294967296 none 0) = false
      ∧ Instr.wellFormed (.mediaLoad 1 1 1 (some 4294967295) 0) = false ∧ Instr.wellFormed (.mediaLoad 1 1 1 none 256) = false
      ∧ Instr.wellFormed (.rollSelect 1 256) = false ∧ Instr.wellFormed (.profileRead 1 256) = false
      ∧ Instr.wellFormed (.profileSet 256 0 someProfile) = false
      ∧ Instr.wellFormed (.profileSet 1 0 { someProfile with sProfile := 2147483648 }) = false
      ∧ Instr.wellFormed (.profileSet 1 0 { someProfile with skewLimit := 65536 }) = false
      ∧ Instr.wellFormed (.profileSet 1 0 { someProfile with margin := 4294967296 }) = false
      ∧ Instr.wellFormed (.feedTrimSet 1 2147483648) = false := by decide

theorem test_wellFormed_refuses_supply :
    Instr.wellFormed (.acceptSet 1 256 someAccept) = false ∧ Instr.wellFormed (.acceptSet 1 0
      { someAccept with code := 65536 }) = false
      ∧ Instr.wellFormed (.acceptRead 1 256) = false ∧ Instr.wellFormed (.baySelect 1 256 0) = false
      ∧ Instr.wellFormed (.baySelect 1 0 256) = false ∧ Instr.wellFormed (.topUp 1 256) = false
      ∧ Instr.wellFormed (.supplyRead 1 256) = false := by decide

theorem test_wellFormed_refuses_service :
    Instr.wellFormed (.service 1 256 1) = false ∧ Instr.wellFormed (.service 1 1 256) = false
      ∧ Instr.wellFormed (.nozzleCheck 1 256) = false ∧ Instr.wellFormed (.maskSet 1 256 someMask) = false
      ∧ Instr.wellFormed (.maskSet 1 0 { someMask with base := 65536 }) = false
      ∧ Instr.wellFormed (.healthRead 1 0 0 65536) = false ∧ Instr.wellFormed (.healthRead 1 256 0 0) = false
      ∧ Instr.wellFormed (.configSet 1 256 0) = false ∧ Instr.wellFormed (.configSet 1 1 (-2147483649)) = false
      ∧ Instr.wellFormed (.encoderCount 3100001) = false ∧ Instr.wellFormed (.carriageSensorReading 256) = false := by decide

/-! ## Values the spec works out -/

/-- R172: the CRC of "123456789" is 0x29B1. -/
theorem test_crc : crc [0x31, 0x32, 0x33, 0x34, 0x35, 0x36, 0x37, 0x38, 0x39] = 0x29B1 := by decide

/-- R188: text ends at its first 0x00 and is padded with 0x00, whatever stands after it. -/
theorem test_text_ends : text 4 [0x41, 0, 0x42] = [0x41, 0, 0, 0] ∧ text 2 [0x41, 0x42, 0x43] = [0x41, 0x42] := by decide

/-- R191: a new cartridge of ink 0x1100 and 200,000,000 nL with lot "A0000001" has the checksum 0x13. -/
theorem test_checksum :
    checksum (cartBody ⟨0x1100, 200000000, 200000000, [0x41, 0x30, 0x30, 0x30, 0x30, 0x30, 0x30, 0x31]⟩) = 0x13 := by decide

/-- Table 9-1: UNCAP with tag 5 has LEN 2, KIND 0x18 and TAG 5. -/
theorem test_uncap_body : (Frame.mk .reply 0x18 5 []).body = [0x02, 0x18, 0x05] := by decide

/-- Table 11-3: SHEET_OPEN carries length, channel set and class, least significant byte first. -/
theorem test_sheetOpen_request :
    requestOf 0x01 7 [0x88, 0x24, 0x12, 0x00, 0x05, 0x01] = ⟨0x01, 7, .sheetOpen 1189000 5 1⟩ := by decide

/-- R174 step 3: a payload of the wrong size has no fields. -/
theorem test_badLength : requestOf 0x18 7 [0x00] = ⟨0x18, 7, .badLength⟩ ∧ requestOf 0x24 7 [] = ⟨0x24, 7, .unknownKind⟩ := by
  decide

/-- Table 1-4: the first of six swaths of 25,400 µm with S = +1,250, and the sixth. -/
theorem test_six_swaths :
    forwardCounts 25400 318310 1250 0 = 8095 ∧ newResidue 25400 318310 1250 0 = 180342500000
      ∧ forwardCounts 25400 318310 1250 901712500000 = 8096 ∧ newResidue 25400 318310 1250 901712500000 = 82055000000 := by
        decide

/-- Table 1-6: the trim after M = 25,382, after M = 25,410, and its clamp. -/
theorem test_trim :
    trackAfter 0 25400 25382 = 88 ∧ trackAfter 0 25400 25410 = -49 ∧ trackAfter 4950 1000000 999200 = 5000
      ∧ trackAfter 5000 1000000 1000120 = 4985 := by decide

/-- Chapter 2: the travel of 50,640 counts, the skew window of 378 counts and the overrun of 50. -/
theorem test_travel :
    countTravel 318310 50640 = 159090 ∧ countTravel 318310 378 = 1187 ∧ countTravel 318310 50 = 157 := by decide

/-- Chapters 3 and 11: the dry times of the two worked sheets. -/
theorem test_dryTime :
    dryTime 5000 20 914400 (⟨20600, 18000⟩ :: List.replicate 11 ⟨25400, 148000⟩) = 17000
      ∧ dryTime 5000 20 914100 (⟨15600, 10000⟩ :: List.replicate 12 ⟨25400, 40000⟩) = 8340 := by decide

/-- Chapter 3: the tail record of 20,600 µm pushes the oldest swath out of the trailing list; that of 15,600 does not. -/
theorem test_trailing :
    (addTrail ⟨20600, 18000⟩ (List.replicate 12 ⟨25400, 148000⟩)).length = 12
      ∧ (addTrail ⟨15600, 10000⟩ (List.replicate 12 ⟨25400, 40000⟩)).length = 13 := by decide

/-- R107: a fill granted with E = 11,960,000 has a stroke limit of 226, one with 2,700,000 of 458. -/
theorem test_strokeLimit : strokeLimit 11960000 = 226 ∧ strokeLimit 2700000 = 458 := by decide

/-- Chapter 8: with MASK 512 to 527 and FORCE 520 to 523, nozzles 37, 515, 521, 800 and 801 of the worked row. -/
theorem test_windows :
    let ws : List MaskWindow := [⟨true, .mask, .h1, .r0, 512, 15⟩, ⟨true, .force, .h1, .r0, 520, 3⟩]
    nozzleState ws .h1 .r0 60 140 37 90 = .weak ∧ nozzleState ws .h1 .r0 60 140 515 10 = .masked
      ∧ nozzleState ws .h1 .r0 60 140 521 30 = .out ∧ nozzleState ws .h1 .r0 60 140 800 12 = .out
      ∧ nozzleState ws .h1 .r0 60 140 801 139 = .weak := by decide

/-- Chapter 4: the verdicts of the withdrawn lot, before and after entry 10 is written. -/
theorem test_verdict :
    verdict State.reset.supply.accepts 0x1234 .c1 = some 1
      ∧ verdict (State.reset.supply.accepts.set 10
        ⟨true, .reject, 0x1234, 0, ⟨true, true, false, false, false, false⟩, ⟨40, 100, 20000, 0⟩⟩)
          0x1234 .c1 = none
      ∧ verdict (State.reset.supply.accepts.set 10
        ⟨true, .reject, 0x1234, 0, ⟨true, true, false, false, false, false⟩, ⟨40, 100, 20000, 0⟩⟩)
          0x1250 .c1 = some 1 := by decide

/-! ## One command -/

/-- UNCAP from CAPPED lowers the sled, with its tag waiting and entered in the outstanding table. -/
theorem test_uncap :
    leaves (.uncap 5) base (fun t => (t.station.car.sled, t.station.car.tags, t.link.table))
      = some (.lowering 5000, [5], [⟨5, 0x18, 0⟩]) := by decide

/-- Chapter 11: 5,000 µm of margin at K = 318,310 are 1,591 counts, and R is 550,000,000,000. -/
theorem test_margin : forwardCounts 5000 318310 0 0 = 1591 ∧ newResidue 5000 318310 0 0 = 550000000000 := by decide

/-- Chapter 6: W = 199,900,000 credited with 250,000 is clamped to C_w, and 150,000 overflow. -/
theorem test_overflow :
    (credit 250000 (Work.of (onStation (fun t => { t with waste := ⟨some ⟨199900000, 200000000, 199400000⟩, 0, .nearFull⟩ })
      base))).station.waste
      = ⟨some ⟨200000000, 200000000, 199400000⟩, 150000, .full⟩ := by decide

/-- Chapter 5: with drop volume 45, 1,234,567 drops are 5,555 nL and leave 5,515; 1,000 more are 5 nL and leave 515. -/
theorem test_drops :
    let w := Work.of base
    (debitDrops .printed .c0 1234567 w).1 = 5555 ∧ (chanRec (debitDrops .printed .c0 1234567 w).2.toState .c0).residue = 5515
      ∧ (debitDrops .printed .c0 1000 (debitDrops .printed .c0 1234567 w).2).1 = 5
      ∧ (chanRec (debitDrops .printed .c0 1000 (debitDrops .printed .c0 1234567 w).2).2.toState .c0).residue = 515 := by
        decide

/-- A queued command is taken by the next step. -/
theorem test_step_front : runs (step { base with pending := [.uncap 5, .cap 6] }) = true := by decide


/-! ## States and operands that meet the hypotheses of the statements

One theorem for each statement of Sys2Proof/Certificates/Slice0/Obligations.lean that has hypotheses; where the statement has
several clauses, one conjunct for the hypotheses of each, at a boundary where it has one. The states are built from those
above. -/

/-! ### The step and the link -/

def a1 : State := { base with pending := [.uncap 5] }
def a2 : State := opened (onCar (fun c => { c with idleSince := some 0 }) { base with now := 30000 })
def a3 : State := { base with phase := .storeFault }
def a4 : State := onLink (fun l => { l with rx := ⟨.length, [], 4997⟩ }) base
def a5 : State := onLink (fun l => { l with changed := some ⟨true, false, false, true⟩ }) base
def a6 : State := onLink (fun l => { l with table := (List.range 16).map (fun i => ⟨i + 1, 0x18, 0⟩) }) base

theorem meets_StepRunsTheFrontCommand :
    (a1.pending = [Instr.uncap 5]) := by decide

theorem meets_EmptyQueueRunsTheTimebase :
    ((a2.pending = []))
      ∧ ((base.pending = []) ∧ (dueList base = [])
        ∧ (base.phase = StartPhase.storeFault ∨ base.phase = StartPhase.ready ∧ (base.pump.op.isSome = true ∨ base.pump.list =
          []))) := by decide

theorem meets_HuntGapAndSentFrames :
    ((base.link.rx.phase = RxPhase.hunt) ∧ (base.link.buffer = []))
      ∧ ((base.link.buffer = [])
        ∧ (base.link.queue = [{ cls := FrameClass.event, kind := 96, tag := 0, payload := readyOfEmpty : Frame }]))
      ∧ ((a5.link.buffer = [])
        ∧ (a5.link.queue = [{ cls := FrameClass.event, kind := 96, tag := 0, payload := readyOfEmpty : Frame }])) := by decide

theorem meets_LinkChecksTurnAway :
    ((base.link.buffer = []) ∧ (mayDecide base.link = true) ∧ (5 ≠ 0))
      ∧ ((base.link.buffer = []) ∧ (mayDecide base.link = true)
        ∧ ({ kind := 32, tag := 0, body := Body.statusRead : Request }.tag = 0))
      ∧ ((base.link.buffer = []) ∧ (mayDecide base.link = true)
        ∧ ({ kind := 48, tag := 5, body := Body.unknownKind : Request }.tag ≠ 0)
        ∧ ({ kind := 48, tag := 5, body := Body.unknownKind : Request }.body = Body.unknownKind))
      ∧ ((base.link.buffer = []) ∧ (mayDecide base.link = true)
        ∧ ({ kind := 32, tag := 5, body := Body.badLength : Request }.tag ≠ 0)
        ∧ ({ kind := 32, tag := 5, body := Body.badLength : Request }.body = Body.badLength))
      ∧ ((a3.link.buffer = []) ∧ (mayDecide a3.link = true)
        ∧ ({ kind := 24, tag := 5, body := Body.uncap : Request }.tag ≠ 0)
        ∧ ({ kind := 24, tag := 5, body := Body.uncap : Request }.body ≠ Body.unknownKind)
        ∧ ({ kind := 24, tag := 5, body := Body.uncap : Request }.body ≠ Body.badLength)
        ∧ (a3.phase ≠ StartPhase.ready)
        ∧ ({ kind := 24, tag := 5, body := Body.uncap : Request }.body ≠ Body.statusRead))
      ∧ ((a6.link.buffer = []) ∧ (mayDecide a6.link = true)
        ∧ ({ kind := 24, tag := 16, body := Body.uncap : Request }.tag ≠ 0)
        ∧ ({ kind := 24, tag := 16, body := Body.uncap : Request }.body ≠ Body.unknownKind)
        ∧ ({ kind := 24, tag := 16, body := Body.uncap : Request }.body ≠ Body.badLength)
        ∧ (a6.phase = StartPhase.ready ∨ { kind := 24, tag := 16, body := Body.uncap : Request }.body = Body.statusRead)
        ∧ (List.find? (fun e => decide (e.tag = { kind := 24, tag := 16, body := Body.uncap : Request }.tag)) a6.link.table =
          some { tag := 16, kind := 24, subject := 0 : Entry }))
      ∧ ((a6.link.buffer = []) ∧ (mayDecide a6.link = true)
        ∧ ({ kind := 24, tag := 17, body := Body.uncap : Request }.tag ≠ 0)
        ∧ ({ kind := 24, tag := 17, body := Body.uncap : Request }.body ≠ Body.unknownKind)
        ∧ ({ kind := 24, tag := 17, body := Body.uncap : Request }.body ≠ Body.badLength)
        ∧ (a6.phase = StartPhase.ready ∨ { kind := 24, tag := 17, body := Body.uncap : Request }.body = Body.statusRead)
        ∧ (List.find? (fun e => decide (e.tag = { kind := 24, tag := 17, body := Body.uncap : Request }.tag)) a6.link.table =
          none)
        ∧ (longCapable { kind := 24, tag := 17, body := Body.uncap : Request }.body = true)
        ∧ (16 ≤ a6.link.table.length)) := by decide

theorem meets_ReadsChangeNothing :
    ((base.hears 5 = true) ∧ (base.supply.accepts[15]? = some Accept.disabled))
      ∧ ((base.hears 5 = true) ∧ (7 ≤ 7))
      ∧ ((base.hears 5 = true) ∧ (1023 ≤ 1023)) := by decide

theorem meets_ConfigSetClamps :
    ((base.hears 5 = true) ∧ (1 = 0 ∨ 1 = 1) ∧ (1 = 1 ∨ base.media.switch = none))
      ∧ ((base.hears 5 = true) ∧ (0 = 0 ∨ 0 = 1) ∧ (0 = 1 ∨ base.media.switch = none))
      ∧ ((base.hears 5 = true) ∧ (base.station.car.idleSince = none))
      ∧ ((base.hears 5 = true) ∧ (base.media.stack < base.conf.stackLimit))
      ∧ ((base.hears 5 = true) ∧ (clampInt 20 200 (-1) + 10 ≤ ↑base.conf.ts)) := by decide

/-! ### The feed drive -/

def b1m : Move := ⟨⟨.sheet, .sheet, true, 20000, .swath⟩, 6000, 0, true, 4000, 5999⟩
def b1 : State := onSheet (fun x => { x with queue := [swath 7 true] }) (moving ⟨.sheet, .sheet, true, 20000, .swath⟩ 6000
    5999 true swathing)
def b2 : State := onSheet (fun x => { x with phase := .opening, openTag := some 7, fed := false }) (moving
    ⟨.sheet, .sheet, true, 5000, .leadingMargin⟩ 1591 0 true swathing)
def b2m : Move := ⟨⟨.sheet, .sheet, true, 5000, .leadingMargin⟩, 1591, 0, true, 4000, 0⟩
def b3m : Move := { b2m with seen := 800 }
def b3 : State := onFeed (fun f => { f with move := some b3m }) b2
def b4 : State := { b2 with now := 4029 }

theorem meets_FeedTrimSetStoresTheClampedTrim :
    (base.hears 5 = true) := by decide

theorem meets_TrackedSwathIsJudged :
    ((b1.running = true) ∧ (b1.feed.move = some b1m)
        ∧ (b1m.ask =
          { owner := Owner.sheet, requester := Block.sheet, forward := true, a := (swath 7 true).advance, purpose := Purpose.swath : MoveAsk })
        ∧ (b1m.tracked = true) ∧ (b1m.seen + 1 = b1m.commanded) ∧ (1 ≤ (swath 7 true).advance)
        ∧ (b1.feed.again = none) ∧ (threadedSlot b1.media = some Slot.s1) ∧ (b1.sheet.phase = SheetPhase.swathing)
        ∧ (b1.sheet.abort = none) ∧ (b1.sheet.close = none) ∧ (b1.sheet.openTag = none)
        ∧ (b1.sheet.queue = [swath 7 true])
        ∧ ((((swath 7 true).advance : Int) - 19600).natAbs ≤ max 300 ((swath 7 true).advance / 50)))
      ∧ ((b1.running = true) ∧ (b1.feed.move = some b1m)
        ∧ (b1m.ask =
          { owner := Owner.sheet, requester := Block.sheet, forward := true, a := (swath 7 true).advance, purpose := Purpose.swath : MoveAsk })
        ∧ (b1m.tracked = true) ∧ (b1m.seen + 1 = b1m.commanded) ∧ (1 ≤ (swath 7 true).advance)
        ∧ (b1.feed.again = none) ∧ (threadedSlot b1.media = some Slot.s1) ∧ (b1.sheet.phase = SheetPhase.swathing)
        ∧ (b1.sheet.abort = none) ∧ (b1.sheet.close = none) ∧ (b1.sheet.openTag = none)
        ∧ (b1.sheet.queue = [swath 7 true])
        ∧ (max 300 ((swath 7 true).advance / 50) < (((swath 7 true).advance : Int) - 20401).natAbs)) := by decide

theorem meets_CountsAndDeadlinesRunTheMove :
    ((b2.running = true) ∧ (b2.feed.move = some b2m) ∧ (b2m.ask.owner = Owner.sheet)
        ∧ (b2m.ask.requester = Block.sheet) ∧ (b2m.ask.forward = true) ∧ (b2m.ask.purpose = Purpose.leadingMargin)
        ∧ (1 ≤ b2m.ask.a) ∧ (b2.feed.again = none) ∧ (threadedSlot b2.media = some Slot.s1)
        ∧ (b2.sheet.phase = SheetPhase.opening) ∧ (b2.sheet.abort = none) ∧ (b2.sheet.close = none)
        ∧ (b2.sheet.openTag = some 7) ∧ (b2.sheet.queue = []) ∧ (b2m.seen = 0) ∧ (b2m.start + 30 ≤ b2.now))
      ∧ ((b3.running = true) ∧ (b3.feed.move = some b3m) ∧ (b3m.ask.owner = Owner.sheet)
        ∧ (b3m.ask.requester = Block.sheet) ∧ (b3m.ask.forward = true) ∧ (b3m.ask.purpose = Purpose.leadingMargin)
        ∧ (1 ≤ b3m.ask.a) ∧ (b3.feed.again = none) ∧ (threadedSlot b3.media = some Slot.s1)
        ∧ (b3.sheet.phase = SheetPhase.opening) ∧ (b3.sheet.abort = none) ∧ (b3.sheet.close = none)
        ∧ (b3.sheet.openTag = some 7) ∧ (b3.sheet.queue = []) ∧ (b3m.start + 60 + (b3m.commanded + 99) / 100 ≤ b3.now))
      ∧ ((b3.running = true) ∧ (b3.feed.move = some b3m) ∧ (b3m.seen ≠ 0 ∨ b3.now < b3m.start + 30))
      ∧ ((b4.running = true) ∧ (b4.feed.move = some b2m) ∧ (b2m.seen ≠ 0 ∨ b4.now < b2m.start + 30))
      ∧ ((b4.running = true) ∧ (b4.feed.move = some b2m) ∧ (b4.now < b2m.start + 60 + (b2m.commanded + 99) / 100))
      ∧ ((b3.running = true) ∧ (b3.feed.move = some b3m) ∧ (b3m.seen + 1 < b3m.commanded))
      ∧ ((base.running = true) ∧ (base.feed.move = none)) := by decide

/-! ### The media path -/

def c1 : State := onMedia (fun m => { m with rolls := ⟨roll .standby, Roll.none⟩, present := ⟨true, false⟩ }) base
def c2 : State := onMedia (fun m => { m with rolls := ⟨roll .threaded, roll .standby⟩, present := ⟨true, true⟩ }) threaded
def cf : ProfileFields := ⟨[0x41, 0x42], -20000, 100, 1, 130000, 501, 200001, 60000, 100001⟩
def c3 : State := onMedia (fun m => { m with content := .fault, rolls := ⟨roll .fault, roll .ended⟩, ejecting := some .s2 })
    threaded
def c4 : State := onSheet (fun x => { x with phase := .faulted, fault := some .cutterJam }) (onMedia (fun m =>
    { m with content := .fault }) swathing)
def c5 : State := onSheet (fun x => { x with queue := [swath 7 false] }) (moving ⟨.sheet, .sheet, true, 20000, .swath⟩ 6000
    5999 true swathing)
def c6q : Sequence := ⟨.load, .edgeSearch, some 5, .s1, none, 0, none, .left, none, 0, none, none, none, false⟩
def c6m : Move := ⟨⟨.loading, .media, true, 400000, .edgeSearch⟩, 127324, 0, false, 4000, 50000⟩
def c6 : State := onFeed (fun f => { f with move := some c6m }) (onMedia (fun m =>
    { m with owner := .loading, seq := some c6q }) c1)
def c7q : Sequence := { c6q with c1 := some 49000 }
def c7 : State := onMedia (fun m => { m with seq := some c7q }) c6
def c8q : Sequence := ⟨.eject, .ejectFirst, none, .s1, none, 0, none, .left, none, 0, none, none, none, false⟩
def c8m : Move := ⟨⟨.unloading, .media, true, 700000, .ejection⟩, 222817, 0, false, 4000, 50000⟩
def c8 : State := onFeed (fun f => { f with move := some c8m }) (onMedia (fun m =>
    { m with rolls := ⟨roll .ended, Roll.none⟩, owner := .unloading, seq := some c8q, content := .clean, entry := ⟨true, false⟩, ejecting := some .s1 }) base)
def c9 : State := onSheet (fun x => { x with phase := .cutting, close := some ⟨8, 100⟩ }) (onCar (fun c =>
    { c with hold := .granted }) (onMedia (fun m => { m with cut := some ⟨.sheet, .sheet, some 2500⟩ }) swathing))
def c9b : State := { c9 with now := 4999 }
def c10 : State := onSheet (fun x => { x with phase := .ejecting, close := some ⟨8, 100⟩ }) (onMedia (fun m =>
    { m with exitWatch := some 1000, stack := 200 }) swathing)
def c10b : State := { c10 with now := 4999 }
def c11 : State := onSheet (fun x => { x with phase := .drying, dryEnd := some 5000, close := some ⟨8, 100⟩ }) swathing
def c11b : State := { c11 with now := 4999 }
def c11c : State := onMedia (fun m => { m with stack := 50 }) c11
def c12 : State := onSheet (fun x => { x with phase := .cutWait, roomWait := true, dryEnd := none, close := some ⟨8, 100⟩ })
    c11c

/-- The carriage RELEASED, and in a move that lowers the sled first. -/
def c12d : State := onCar (fun c => { c with state := .released }) c12
def c11m : State := onCar (fun c =>
    { c with state := .capped, sled := .lowering 4900, move := some { CarMove.fresh .service .wipe with phase := .lowering } }) c11

/-- The worked load of Chapter 2 on slot 2, after its edge search; `freshRoll` and the profile decide the trim. -/
def c16q (st : MediaStep) (measured : Option Nat) : Sequence :=
  ⟨.load, st, some 9, .s2, none, 159090, some 50212, .right, some 50590, 50640, measured, none, none, false⟩
def c16 (freshRoll : Bool) (st : MediaStep) (measured : Option Nat) : State :=
  onCar (fun c => { c with claims := ⟨true, false, false⟩, state := .open })
    (onLink (fun l => { l with table := [⟨9, 0x08, 2⟩] })
      (onMedia (fun m => { m with
        rolls := ⟨Roll.none, { roll .standby with fresh := freshRoll, measured := none }⟩, present := ⟨false, true⟩
        owner := .loading, seq := some (c16q st measured) }) base))
def c16w : CarMove := { CarMove.fresh .media .widthScan with phase := .returning 4000, acted := true, width := 917000 }
def c16scan : State := onCar (fun c => { c with state := .serviceMove, move := some c16w }) (c16 true .widthScan none)
def c16m : Move := ⟨⟨.loading, .media, true, 169843, .leadTrim⟩, 54062, 0, false, 4000, 54061⟩
def c16trim (freshRoll : Bool) : State :=
  onFeed (fun f => { f with move := some c16m, sTrack := 55 })
    (onMedia (fun m => { m with profiles := some { Store.normal.profile0 with rethreadTrim := 0 } :: List.replicate 7 none })
      (c16 freshRoll .leadTrim (some 917000)))
def c16cut : State :=
  onCar (fun c => { c with hold := .granted })
    (onMedia (fun m => { m with cut := some ⟨.loading, .scrap, some 4000⟩ }) (c16 true .trimCut (some 917000)))

theorem meets_MediaLoadRunsToItsEnd :
    ((c1.hears 5 = true) ∧ (279000 ≤ 279000) ∧ (279000 ≤ 1118000) ∧ (profileAt c1 0 = some Store.normal.profile0)
        ∧ (c1.media.content ≠ Content.fault) ∧ (c1.media.owner = Owner.idle) ∧ (c1.media.ejecting = none)
        ∧ (threadedSlot c1.media = none) ∧ ((c1.media.rolls.get Slot.s1).state = RollState.standby)
        ∧ (parked c1 = true) ∧ (c1.feed.move = none)
        ∧ (forwardCounts 400000 c1.feed.k (clampInt (-20000) 20000 (Store.normal.profile0.sProfile + c1.feed.sHost +
          c1.feed.sTrack)) c1.feed.r ≠ 0)) := by decide

theorem meets_MediaLoadRunsToItsEnd_parts :
    (c16scan.running = true ∧ c16scan.media.seq = some (c16q .widthScan none) ∧ c16scan.media.owner = .loading
        ∧ c16scan.media.ejecting = none ∧ c16scan.media.switch = none ∧ threadedSlot c16scan.media = none
        ∧ slotProfile c16scan .s2 = some Store.normal.profile0 ∧ c16scan.station.car.resetReturn = none
        ∧ c16scan.station.car.move = some c16w ∧ c16scan.station.car.hold = .none ∧ c16scan.station.car.sled = .still
        ∧ c16scan.station.car.claims.media = true ∧ c16scan.station.service = none ∧ c16scan.checker.check = none
        ∧ c16scan.media.rolls.s2.declared = some 914000 ∧ c16scan.media.rolls.s2.state = .standby ∧ c16w.width ≤ 914000 + 3000
        ∧ c16scan.feed.move = none ∧ c16scan.station.car.state = .serviceMove)
      ∧ ((c16trim false).running = true ∧ (c16trim false).feed.move = some c16m ∧ (c16trim false).feed.again = none
        ∧ (c16trim false).media.rolls.s2.fresh = false ∧ c16m.seen + 1 = c16m.commanded
        ∧ (c16trim true).media.rolls.s2.fresh = true ∧ (c16trim true).media.content ≠ .fault ∧ (c16trim true).media.cut = none
        ∧ parked (c16trim true) = true ∧ (c16trim true).station.car.hold = .none ∧ (c16trim true).station.car.move = none)
      ∧ (c16cut.running = true ∧ c16cut.media.seq = some (c16q .trimCut (some 917000))
        ∧ c16cut.media.cut = some ⟨.loading, .scrap, some 4000⟩ ∧ c16cut.station.car.move = none
        ∧ c16cut.station.car.idleSince = none) := by
  constructorm* _ ∧ _ <;> decide

/-- R31, worked case: the lead trim of a fresh roll with a window of 378 and an overrun of 50 counts is 169,843 µm. -/
theorem test_leadTrim :
    leaves .homeReport c16scan (fun s => s.feed.move.map (fun m => m.ask)) = some (some ⟨.loading, .media, true, 169843, .leadTrim⟩) := by
      decide

theorem meets_UnloadAndSelectStartTheRewind :
    ((c2.hears 5 = true) ∧ (threadedSlot c2.media = some Slot.s1) ∧ (c2.media.content = Content.clean)
        ∧ (c2.media.owner = Owner.idle) ∧ (c2.media.ejecting = none) ∧ (c2.feed.move = none)
        ∧ (700000 * c2.feed.k / 1000000 ≠ 0) ∧ (parked c2 = true)
        ∧ (switchable c2 (c2.media.rolls.get Slot.s1.other) = true)) := by decide

theorem meets_ProfileSetWritesTheClampedEntry :
    ((base.hears 5 = true) ∧ (7 ≤ 7) ∧ (cf.tracking = if true = true then 1 else 0) ∧ (profileBusy base 7 = false))
      ∧ ((swathing.hears 5 = true) ∧ (0 ≤ 7) ∧ (cf.tracking = if true = true then 1 else 0)
        ∧ (profileBusy swathing 0 = true)) := by decide

theorem meets_PathClearEmptiesThePath :
    ((base.hears 5 = true) ∧ (base.media.content ≠ Content.fault))
      ∧ ((c3.hears 5 = true) ∧ (c3.media.content = Content.fault) ∧ (c3.media.switch = none)
        ∧ (c3.sheet.phase ≠ SheetPhase.faulted))
      ∧ ((c4.hears 5 = true) ∧ (c4.media.content = Content.fault) ∧ (c4.media.switch = none)
        ∧ (c4.sheet.phase = SheetPhase.faulted) ∧ (c4.media.owner = Owner.sheet)) := by decide

/-- Slot 2 ENDED, its ejection pending or not. -/
def c17 (ej : Option Slot) : State := onMedia (fun m => { m with rolls := ⟨roll .threaded, roll .ended⟩, ejecting := ej }) threaded

theorem meets_RollSensorsMoveTheRecord_ended :
    ((c17 none).running = true ∧ (c17 none).media.rolls.s2.state = .ended ∧ (c17 none).media.ejecting ≠ some .s2)
      ∧ ((c17 (some .s2)).media.rolls.s2.state = .ended ∧ (c17 (some .s2)).media.ejecting = some .s2) := by decide

theorem meets_RollSensorsMoveTheRecord :
    ((c5.running = true) ∧ (c5.media.seq = none) ∧ (threadedSlot c5.media = some Slot.s1)
        ∧ (c5.media.owner = Owner.sheet) ∧ (c5.sheet.phase = SheetPhase.swathing) ∧ (c5.sheet.abort = none)
        ∧ (c5.sheet.close = none) ∧ (c5.sheet.openTag = none) ∧ (c5.sheet.queue = [swath 7 false])
        ∧ ((swath 7 false).inFlight = false) ∧ (c5.checker.check = none))
      ∧ ((base.running = true) ∧ (base.media.seq = none) ∧ (base.media.switch = none)
        ∧ ((base.media.rolls.get Slot.s2).state = RollState.absent))
      ∧ ((c1.running = true) ∧ (c1.media.seq = none) ∧ (c1.media.switch = none)
        ∧ ((c1.media.rolls.get Slot.s1).state ≠ RollState.absent))
      ∧ ((c3.running = true) ∧ (c3.media.seq = none) ∧ (c3.media.switch = none)
        ∧ ((c3.media.rolls.get Slot.s1).state = RollState.standby ∨ (c3.media.rolls.get Slot.s1).state = RollState.fault))
      ∧ ((c1.running = true) ∧ (c1.media.seq = none) ∧ (c1.media.switch = none)
        ∧ ((c1.media.rolls.get Slot.s1).state = RollState.standby))
      ∧ ((c3.running = true) ∧ (c3.media.seq = none) ∧ (c3.media.switch = none)
        ∧ ((c3.media.rolls.get Slot.s1).state = RollState.ended ∨ (c3.media.rolls.get Slot.s1).state = RollState.fault ∨
          (c3.media.rolls.get Slot.s1).state = RollState.absent)) := by decide

theorem meets_PathSensorsStopTheMoves :
    ((base.running = true) ∧ (base.media.seq = none))
      ∧ ((c6.running = true) ∧ (c6.media.seq = some c6q) ∧ (c6q.step = MediaStep.edgeSearch)
        ∧ (c6.feed.move = some c6m)
        ∧ ((match EdgeSensor.left with | EdgeSensor.left => c6.media.edgeLeft | EdgeSensor.right => c6.media.edgeRight) =
          false)
        ∧ (c6q.c1 = none))
      ∧ ((c7.running = true) ∧ (c7.media.seq = some c7q) ∧ (c7q.step = MediaStep.edgeSearch)
        ∧ (c7.feed.move = some c6m)
        ∧ ((match EdgeSensor.left with | EdgeSensor.left => c7.media.edgeLeft | EdgeSensor.right => c7.media.edgeRight) =
          false)
        ∧ (c7q.c1 = some 49000) ∧ (c7q.c1Sensor = EdgeSensor.left))
      ∧ ((c7.running = true) ∧ (c7.media.seq = some c7q) ∧ (c7q.step = MediaStep.edgeSearch)
        ∧ (c7.feed.move = some c6m)
        ∧ ((match EdgeSensor.right with | EdgeSensor.left => c7.media.edgeLeft | EdgeSensor.right => c7.media.edgeRight) =
          false)
        ∧ (c7q.c1 = some 49000) ∧ (c7q.c1Sensor ≠ EdgeSensor.right) ∧ (c7q.c2 = none)
        ∧ (c7.media.owner = Owner.loading)
        ∧ (c6m.ask =
          { owner := Owner.loading, requester := Block.media, forward := true, a := 400000, purpose := Purpose.edgeSearch : MoveAsk })
        ∧ (c6m.seen + 3 < c6m.commanded) ∧ (c7.feed.again = none) ∧ (threadedSlot c7.media = none)
        ∧ (slotProfile c7 c7q.slot = some Store.normal.profile0)
        ∧ ((c7.media.rolls.get c7q.slot).state = RollState.standby)
        ∧ (Store.normal.profile0.skewLimit < (c6m.seen - 49000) * 1000000 / c7.feed.k)
        ∧ (c7q.fed + (c6m.seen + 3) * 1000000 / c7.feed.k + 50000 ≤ 3000000)
        ∧ ((c7q.fed + (c6m.seen + 3) * 1000000 / c7.feed.k + 50000) * c7.feed.k / 1000000 ≠ 0))
      ∧ ((c8.running = true) ∧ (c8.media.seq = some c8q) ∧ (c8q.step = MediaStep.ejectFirst) ∧ (c8q.slot = Slot.s1)
        ∧ (c8.feed.move = some c8m)
        ∧ (c8m.ask =
          { owner := Owner.unloading, requester := Block.media, forward := true, a := 700000, purpose := Purpose.ejection : MoveAsk })
        ∧ (c8m.seen + 3 < c8m.commanded) ∧ (c8.feed.again = none) ∧ (c8.media.owner = Owner.unloading)
        ∧ (threadedSlot c8.media = none) ∧ ((c8.media.rolls.get Slot.s1).state = RollState.ended)
        ∧ (forwardCounts 650000 c8.feed.k (clampInt (-20000) 20000 ((Option.map Profile.sProfile (slotProfile c8
          Slot.s1)).getD 0 + c8.feed.sHost + c8.feed.sTrack)) c8.feed.r ≠ 0)) := by decide

/-- A short roll in slot 1 and, within 3,000 µm of its width, a compatible one in slot 2; AUTO_ROLL is on. -/
def c13 : State :=
  onConf (fun c => { c with autoRoll := true })
    (onMedia (fun m => { m with rolls := ⟨roll .threaded, { roll .standby with declared := some 917000 }⟩, present := ⟨true, true⟩ })
      { threaded with station := base.station })
def c13b : State := onMedia (fun m => { m with rolls := ⟨roll .threaded, { roll .standby with declared := some 917001 }⟩ }) c13
def c14q : Sequence := ⟨.eject, .ejectSecond, none, .s1, none, 0, none, .left, none, 0, none, none, none, false⟩
def c14m : Move := ⟨⟨.unloading, .media, true, 650000, .ejection⟩, 206901, 0, false, 4000, 206900⟩
/-- One count before the end of a remainder ejection. -/
def c14 : State :=
  onFeed (fun f => { f with move := some c14m })
    (onMedia (fun m => { m with
      rolls := ⟨{ roll .ended with remaining := some 0 }, { roll .standby with declared := some 917000 }⟩
      owner := .unloading, seq := some c14q, ejecting := some .s1 }) c13)
def c14b : State := onConf (fun c => { c with autoRoll := false }) c14
def c14c : State := onCar (fun c => { c with state := .released }) c14
def c15q : Sequence := ⟨.auto, .failRewind, none, .s2, none, 100, some 3, .left, none, 0, none, some .skew, none, false⟩
def c15m : Move := ⟨⟨.loading, .media, false, 650000, .rewind⟩, 206901, 0, false, 4000, 206900⟩
/-- One count before the end of the rewind of a switch's failed load. -/
def c15 : State :=
  onFeed (fun f => { f with move := some c15m })
    (onMedia (fun m => { m with owner := .loading, seq := some c15q, ejecting := none, content := .empty }) c14)

/-- R36, R37: a pending switch whose roll ends while ROLL_SELECT loads it goes with the roll's leaving STANDBY. -/
theorem test_switch_dropped_in_load :
    leaves (.rollEndReport .s2)
      (onMedia (fun m => { m with
        owner := .loading, seq := some { c15q with job := .select, step := .edgeSearch, failure := none }
        switch := some ⟨.s2, .shortRoll, 917000, 0⟩ }) c15)
      (fun s => (s.media.switch, s.media.ejecting)) = some (none, some .s2) := by decide

theorem meets_AutoSwitchReplacesTheRoll :
    (c13.hears 7 = true ∧ (openFields 7 10000001 1 0).isSome = true ∧ c13.sheet.phase = .none ∧ c13.media.content = .clean
        ∧ c13.media.owner = .idle ∧ c13.media.ejecting = none ∧ c13.media.switch = none ∧ c13.media.seq = none
        ∧ threadedSlot c13.media = some .s1 ∧ threadedMargin c13 ≤ 10000001 ∧ c13.media.rolls.s1.remaining = some 10000000
        ∧ parked c13 = true ∧ c13.feed.move = none ∧ 700000 * c13.feed.k / 1000000 ≠ 0
        ∧ c13.conf.autoRoll = true ∧ c13.media.rolls.s2.state = .standby ∧ c13.media.rolls.s1.declared = some 914000
        ∧ c13.media.rolls.s2.declared = some 917000 ∧ c13.media.rolls.s1.profile = some 0 ∧ c13.media.rolls.s2.profile = some 0)
      ∧ (c13b.hears 7 = true ∧ threadedSlot c13b.media = some .s1 ∧ c13b.media.rolls.s1.remaining = some 10000000
        ∧ parked c13b = true ∧ ¬917001 ≤ 914000 + 3000 ∧ c13b.media.rolls.s2.declared = some 917001)
      ∧ (c14.running = true ∧ c14.media.seq = some c14q ∧ c14.feed.move = some c14m ∧ c14m.seen + 1 = c14m.commanded
        ∧ c14.feed.again = none ∧ c14.media.owner = .unloading ∧ c14.media.switch = none ∧ threadedSlot c14.media = none
        ∧ c14.media.rolls.s1.state = .ended ∧ parked c14 = true
        ∧ forwardCounts 400000 c14.feed.k (clampInt (-20000) 20000
          (((slotProfile c14 .s2).map Profile.sProfile).getD 0 + c14.feed.sHost + c14.feed.sTrack)) c14.feed.r ≠ 0)
      ∧ (c14b.conf.autoRoll = false ∧ c14b.media.seq = some c14q ∧ c14b.feed.move = some c14m)
      ∧ (parked c14c = false ∧ c14c.media.seq = some c14q ∧ c14c.feed.move = some c14m)
      ∧ (c15.running = true ∧ c15.media.seq = some c15q ∧ c15.feed.move = some c15m ∧ c15m.seen + 1 = c15m.commanded
        ∧ c15.feed.again = none ∧ c15.media.ejecting = none ∧ c15.media.switch = none ∧ threadedSlot c15.media = none
        ∧ c15.media.rolls.s2.state = .standby ∧ c15.media.present.s2 = true ∧ c15.media.edgeLeft = false
        ∧ c15.media.edgeRight = false) := by
  constructorm* _ ∧ _ <;> decide

theorem meets_CutEndsInSheetOrJam :
    ((c9.running = true)
        ∧ (c9.media.cut = some { owner := Owner.sheet, piece := Piece.sheet, start := some 2500 : Cut })
        ∧ (c9.sheet.phase = SheetPhase.cutting) ∧ (c9.sheet.abort = none)
        ∧ (c9.sheet.close = some { tag := 8, ink := 100 : CloseRec }) ∧ (c9.sheet.openTag = none)
        ∧ (c9.sheet.queue = []) ∧ (c9.media.owner = Owner.sheet) ∧ (c9.station.car.move = none)
        ∧ (2500 + 2500 ≤ c9.now))
      ∧ ((c9b.running = true)
        ∧ (c9b.media.cut = some { owner := Owner.sheet, piece := Piece.sheet, start := some 2500 : Cut })
        ∧ (c9b.sheet.phase = SheetPhase.cutting) ∧ (c9b.sheet.abort = none)
        ∧ (c9b.sheet.close = some { tag := 8, ink := 100 : CloseRec }) ∧ (c9b.sheet.openTag = none)
        ∧ (c9b.sheet.queue = []) ∧ (c9b.media.owner = Owner.sheet) ∧ (c9b.station.car.move = none)
        ∧ (c9b.now < 2500 + 2500))
      ∧ ((base.running = true) ∧ (base.media.cut = none)) := by decide

theorem meets_ExitWatchStacksOrJams :
    ((base.running = true) ∧ (base.media.exitWatch = none))
      ∧ ((c10.running = true) ∧ (c10.media.exitWatch = some 1000) ∧ (c10.sheet.phase = SheetPhase.ejecting)
        ∧ (c10.sheet.abort = none) ∧ (c10.sheet.close = some { tag := 8, ink := 100 : CloseRec })
        ∧ (c10.sheet.openTag = none) ∧ (c10.sheet.queue = []) ∧ (c10.media.owner = Owner.sheet)
        ∧ (c10.media.ejecting = none) ∧ (c10.media.switch = none) ∧ (1000 + 4000 ≤ c10.now))
      ∧ ((c10b.running = true) ∧ (c10b.media.exitWatch = some 1000) ∧ (c10b.sheet.phase = SheetPhase.ejecting)
        ∧ (c10b.sheet.abort = none) ∧ (c10b.sheet.close = some { tag := 8, ink := 100 : CloseRec })
        ∧ (c10b.sheet.openTag = none) ∧ (c10b.sheet.queue = []) ∧ (c10b.media.owner = Owner.sheet)
        ∧ (c10b.media.ejecting = none) ∧ (c10b.media.switch = none) ∧ (c10b.now < 1000 + 4000)) := by decide

theorem meets_SheetCutWaitsForRoom :
    ((c11.running = true) ∧ (c11.sheet.phase ≠ SheetPhase.cutWait ∨ c11.sheet.roomWait = false))
      ∧ ((c11b.running = true) ∧ (c11b.sheet.phase = SheetPhase.drying) ∧ (c11b.sheet.dryEnd = some 5000)
        ∧ (c11b.now < 5000))
      ∧ ((c11c.running = true) ∧ (c11c.sheet.phase = SheetPhase.drying) ∧ (c11c.sheet.dryEnd = some 5000)
        ∧ (5000 ≤ c11c.now) ∧ (c11c.conf.stackLimit ≤ c11c.media.stack))
      ∧ ((c11.running = true) ∧ (c11.media.owner = Owner.sheet)
        ∧ (c11.media.content = Content.clean ∨ c11.media.content = Content.dirty) ∧ (c11.media.cut = none)
        ∧ (c11.feed.move = none) ∧ (c11.station.car.state.isParked = true) ∧ (c11.station.car.still = true)
        ∧ (c11.station.car.hold = Hold.none) ∧ (1 ≤ c11.conf.stackLimit) ∧ (c11.sheet.phase = SheetPhase.drying)
        ∧ (c11.sheet.dryEnd = some 5000) ∧ (5000 ≤ c11.now) ∧ (c11.media.stack < c11.conf.stackLimit))
      ∧ ((c12.running = true) ∧ (c12.media.owner = Owner.sheet)
        ∧ (c12.media.content = Content.clean ∨ c12.media.content = Content.dirty) ∧ (c12.media.cut = none)
        ∧ (c12.feed.move = none) ∧ (c12.station.car.state.isParked = true) ∧ (c12.station.car.still = true)
        ∧ (c12.station.car.hold = Hold.none) ∧ (1 ≤ c12.conf.stackLimit) ∧ (c12.sheet.phase = SheetPhase.cutWait)
        ∧ (c12.sheet.roomWait = true)) := by decide

theorem meets_SheetCutWaitsForRoom_hold :
    ((c12d.running = true) ∧ (c12d.media.owner = Owner.sheet)
        ∧ (c12d.media.content = Content.clean ∨ c12d.media.content = Content.dirty) ∧ (c12d.media.cut = none)
        ∧ (c12d.feed.move = none) ∧ (c12d.station.car.hold = Hold.none) ∧ (1 ≤ c12d.conf.stackLimit)
        ∧ (c12d.station.car.state.isParked = false) ∧ (c12d.sheet.phase = SheetPhase.cutWait) ∧ (c12d.sheet.roomWait = true))
      ∧ ((c11m.running = true) ∧ (c11m.media.owner = Owner.sheet)
        ∧ (c11m.media.content = Content.clean ∨ c11m.media.content = Content.dirty) ∧ (c11m.media.cut = none)
        ∧ (c11m.feed.move = none) ∧ (c11m.station.car.hold = Hold.none) ∧ (1 ≤ c11m.conf.stackLimit)
        ∧ (c11m.station.car.still = false) ∧ (c11m.sheet.phase = SheetPhase.drying) ∧ (c11m.sheet.dryEnd = some 5000)
        ∧ (5000 ≤ c11m.now) ∧ (c11m.media.stack < c11m.conf.stackLimit)) := by decide

/-! ### Sheets -/

def d1 : State := tanked { supplied with media := threaded.media }
def d1t : WasteRec := ⟨40000000, 200000000, 39500000⟩
def d2p : Profile := { Store.normal.profile0 with margin := 0 }
def d2 : State := onMedia (fun m =>
    { m with profiles := some { Store.normal.profile0 with margin := 0 } :: List.replicate 7 none }) d1
def d3 : State := onSheet (fun x => { x with queue := [swath 7 true] }) (moving ⟨.sheet, .sheet, true, 20000, .swath⟩ 6000 5
    true { d1 with media := swathing.media, sheet := swathing.sheet })
def d3p : Chans Nat := ⟨1234567, 0, 0, 1000, 0, 0⟩
def d4 : State := { d3 with sheet := swathing.sheet, feed := base.feed }
def d5 : State := onSheet (fun x => { x with committed := 990000 }) d4
def d6 : State := onSheet (fun x => { x with queue := [swath 7 true, swath 8 false], close := some ⟨9, 0⟩ }) d3
def d7 : State := onSheet (fun x => { x with phase := .faulted, fault := some .noInk, fed := false }) d4
def d8 : State := moving ⟨.sheet, .sheet, true, 30000, .tail⟩ 9549 9548 false (onSheet (fun x =>
    { x with phase := .tail, tailLeft := 30000, close := some ⟨9, 400000⟩, trailing := [⟨20000, 900000⟩] }) d4)
def d8m : Move := ⟨⟨.sheet, .sheet, true, 30000, .tail⟩, 9549, 0, false, 4000, 9548⟩

theorem meets_SheetOpenFeedsTheMargin :
    ((d1.hears 5 = true)
        ∧ (chanSetOf 3 = some { c0 := true, c1 := true, c2 := false, c3 := false, c4 := false, c5 := false : Chans Bool })
        ∧ ({ c0 := true, c1 := true, c2 := false, c3 := false, c4 := false, c5 := false : Chans Bool }.isEmpty = false)
        ∧ (50000 ≤ 50000) ∧ (50000 ≤ 20000000) ∧ (d1.sheet.phase = SheetPhase.none)
        ∧ (d1.media.content = Content.clean) ∧ (d1.media.owner = Owner.idle) ∧ (d1.media.ejecting = none)
        ∧ (d1.media.switch = none) ∧ (d1.media.seq = none) ∧ (threadedSlot d1.media = some Slot.s1)
        ∧ (slotProfile d1 Slot.s1 = some Store.normal.profile0) ∧ (Store.normal.profile0.margin ≤ 50000)
        ∧ (Store.normal.profile0.margin ≤ 100000)
        ∧ (∀ (rem : Nat), (d1.media.rolls.get Slot.s1).remaining = some rem → 50000 ≤ rem)
        ∧ (∀ (ch : Chan), { c0 := true, c1 := true, c2 := false, c3 := false, c4 := false, c5 := false : Chans Bool }.get ch =
          true → d1.supply.supplied.get ch = true ∧ d1.station.cleanDue.get ch.head = false ∧ (d1.checker.escalation.get
          ch.head = Escalation.ok ∨ d1.checker.escalation.get ch.head = Escalation.attention))
        ∧ (d1.station.waste.tank = some d1t) ∧ (d1t.w < d1t.capacity) ∧ (d1.feed.move = none)
        ∧ (Store.normal.profile0.margin ≠ 0)
        ∧ (forwardCounts Store.normal.profile0.margin d1.feed.k (clampInt (-20000) 20000 (Store.normal.profile0.sProfile +
          d1.feed.sHost + d1.feed.sTrack)) d1.feed.r ≠ 0))
      ∧ ((d2.hears 5 = true)
        ∧ (chanSetOf 3 = some { c0 := true, c1 := true, c2 := false, c3 := false, c4 := false, c5 := false : Chans Bool })
        ∧ ({ c0 := true, c1 := true, c2 := false, c3 := false, c4 := false, c5 := false : Chans Bool }.isEmpty = false)
        ∧ (50000 ≤ 50000) ∧ (50000 ≤ 20000000) ∧ (d2.sheet.phase = SheetPhase.none)
        ∧ (d2.media.content = Content.clean) ∧ (d2.media.owner = Owner.idle) ∧ (d2.media.ejecting = none)
        ∧ (d2.media.switch = none) ∧ (d2.media.seq = none) ∧ (threadedSlot d2.media = some Slot.s1)
        ∧ (slotProfile d2 Slot.s1 = some d2p) ∧ (d2p.margin ≤ 50000) ∧ (d2p.margin ≤ 100000)
        ∧ (∀ (rem : Nat), (d2.media.rolls.get Slot.s1).remaining = some rem → 50000 ≤ rem)
        ∧ (∀ (ch : Chan), { c0 := true, c1 := true, c2 := false, c3 := false, c4 := false, c5 := false : Chans Bool }.get ch =
          true → d2.supply.supplied.get ch = true ∧ d2.station.cleanDue.get ch.head = false ∧ (d2.checker.escalation.get
          ch.head = Escalation.ok ∨ d2.checker.escalation.get ch.head = Escalation.attention))
        ∧ (d2.station.waste.tank = some d1t) ∧ (d1t.w < d1t.capacity) ∧ (d2.feed.move = none) ∧ (d2p.margin = 0)) := by
  constructorm* _ ∧ _ <;> first | decide | (intro ch; cases ch <;> decide)

theorem meets_SwathDebitsItsInk :
    ((d3.hears 5 = true) ∧ (d3.media.content ≠ Content.fault)
        ∧ (d3.sheet.phase = SheetPhase.opening ∨ d3.sheet.phase = SheetPhase.swathing) ∧ (d3.sheet.close = none)
        ∧ (d3.sheet.abort = none) ∧ (120000 ≤ 120000)
        ∧ (∀ (ch : Chan), d3.sheet.chans.get ch = false → d3p.get ch = 0) ∧ (d3.sheet.queue.length < 8)
        ∧ (d3.sheet.committed + 120000 ≤ d3.sheet.length) ∧ (d3.feed.move.isSome = true)
        ∧ (∀ (ch : Chan), d3p.get ch ≠ 0 → dropVolume d3 ch (d3p.get ch) + Config.refillThreshold ≤ (chanRec d3 ch).e ∧
          (chanRec d3 ch).dry = false ∧ (chanRec d3 ch).hold = false)) := by
  constructorm* _ ∧ _ <;> first | decide | (intro ch; cases ch <;> decide)

theorem meets_SwathStartsOrOverruns :
    ((d4.hears 5 = true) ∧ (d4.media.content ≠ Content.fault) ∧ (d4.sheet.phase = SheetPhase.swathing)
        ∧ (d4.sheet.close = none) ∧ (d4.sheet.abort = none) ∧ (d4.sheet.openTag = none) ∧ (120000 ≤ 120000)
        ∧ (d4.sheet.queue = []) ∧ (d4.feed.move = none) ∧ (d4.media.owner = Owner.sheet)
        ∧ (threadedSlot d4.media = some Slot.s1) ∧ (slotProfile d4 Slot.s1 = some Store.normal.profile0)
        ∧ (∀ (ch : Chan), d4.sheet.chans.get ch = true → (chanRec d4 ch).hold = false)
        ∧ (d4.sheet.committed + 120000 ≤ d4.sheet.length) ∧ (1 ≤ 120000)
        ∧ (forwardCounts 120000 d4.feed.k (clampInt (-20000) 20000 (Store.normal.profile0.sProfile + d4.feed.sHost +
          d4.feed.sTrack)) d4.feed.r ≠ 0))
      ∧ ((d5.hears 5 = true) ∧ (d5.media.content ≠ Content.fault) ∧ (d5.sheet.phase = SheetPhase.swathing)
        ∧ (d5.sheet.close = none) ∧ (d5.sheet.abort = none) ∧ (d5.sheet.openTag = none) ∧ (10001 ≤ 120000)
        ∧ (d5.sheet.queue = []) ∧ (d5.feed.move = none) ∧ (d5.media.owner = Owner.sheet)
        ∧ (threadedSlot d5.media = some Slot.s1) ∧ (slotProfile d5 Slot.s1 = some Store.normal.profile0)
        ∧ (∀ (ch : Chan), d5.sheet.chans.get ch = true → (chanRec d5 ch).hold = false)
        ∧ (d5.sheet.length < d5.sheet.committed + 10001)) := by
  constructorm* _ ∧ _ <;> first | decide | (intro ch; cases ch <;> decide)

theorem meets_SheetCloseCreditsItsSpits :
    ((d3.hears 5 = true) ∧ (d3.media.content ≠ Content.fault) ∧ (d3.sheet.phase = SheetPhase.swathing)
        ∧ (d3.sheet.close = none) ∧ (d3.sheet.abort = none) ∧ (d3.feed.move.isSome = true)
        ∧ (d3.sheet.chans.get Chan.c2 = true) ∧ (204800 ≠ 0)
        ∧ (204800 ≠ 0 → dropVolume d3 Chan.c2 204800 + Config.refillThreshold ≤ (chanRec d3 Chan.c2).e ∧ (chanRec d3
          Chan.c2).dry = false ∧ (chanRec d3 Chan.c2).hold = false)
        ∧ (d3.station.waste.tank = some d1t) ∧ (d3.station.waste.level = WasteLevel.normal)
        ∧ ((d1t.w + (204800 * (d3.supply.params.get Chan.c2).drop + (chanRec d3 Chan.c2).residue) / 10000) * 10 < d1t.capacity
          * 9)
        ∧ (d1t.w + (204800 * (d3.supply.params.get Chan.c2).drop + (chanRec d3 Chan.c2).residue) / 10000 < d1t.written +
          1000000)) := by decide

theorem meets_SheetAbortDiscardsAndEnds :
    ((d6.hears 5 = true) ∧ (d6.media.content ≠ Content.fault) ∧ (d6.sheet.abort = none) ∧ (d6.sheet.openTag = none)
        ∧ (d6.sheet.phase = SheetPhase.swathing) ∧ (d6.sheet.queue = [swath 7 true, swath 8 false])
        ∧ ((swath 7 true).inFlight = true) ∧ ((swath 8 false).inFlight = false)
        ∧ ((swath 7 true).tag ≠ (swath 8 false).tag) ∧ (d6.sheet.close = some { tag := 9, ink := 0 : CloseRec })
        ∧ (d6.feed.move.isSome = true))
      ∧ ((d7.hears 5 = true) ∧ (d7.media.content ≠ Content.fault) ∧ (d7.sheet.abort = none) ∧ (d7.sheet.openTag = none)
        ∧ (d7.sheet.phase = SheetPhase.faulted) ∧ (d7.sheet.queue = []) ∧ (d7.sheet.close = none)
        ∧ (d7.sheet.fed = false) ∧ (d7.feed.move = none) ∧ (d7.media.cut = none) ∧ (d7.media.owner = Owner.sheet)
        ∧ (d7.media.ejecting = none) ∧ (d7.media.switch = none)) := by decide

theorem meets_TailEndsInDrying :
    ((d8.running = true) ∧ (d8.feed.move = some d8m)
        ∧ (d8m.ask =
          { owner := Owner.sheet, requester := Block.sheet, forward := true, a := d8.sheet.tailLeft, purpose := Purpose.tail : MoveAsk })
        ∧ (d8m.tracked = false) ∧ (d8m.seen + 1 = d8m.commanded) ∧ (1 ≤ d8.sheet.tailLeft) ∧ (d8.feed.again = none)
        ∧ (threadedSlot d8.media = some Slot.s1) ∧ (slotProfile d8 Slot.s1 = some Store.normal.profile0)
        ∧ ((d8.media.rolls.get Slot.s1).measured = some 914000) ∧ (d8.sheet.phase = SheetPhase.tail)
        ∧ (d8.sheet.abort = none) ∧ (d8.sheet.close = some { tag := 9, ink := 400000 : CloseRec })
        ∧ (min 600000 (Store.normal.profile0.baseDry + (if (List.map Trail.advance (addTrail
          { advance := d8.sheet.tailFed + d8.sheet.tailLeft, ink := { tag := 9, ink := 400000 : CloseRec }.ink : Trail }
          d8.sheet.trailing)).sum = 0 then 0 else min 10000 ((List.map Trail.ink (addTrail
          { advance := d8.sheet.tailFed + d8.sheet.tailLeft, ink := { tag := 9, ink := 400000 : CloseRec }.ink : Trail }
          d8.sheet.trailing)).sum * 100000000 / (914000 * (List.map Trail.advance (addTrail
          { advance := d8.sheet.tailFed + d8.sheet.tailLeft, ink := { tag := 9, ink := 400000 : CloseRec }.ink : Trail }
          d8.sheet.trailing)).sum))) * Store.normal.profile0.dryCoeff) ≠ 0)) := by decide

/-! ### Bays and the module bus -/

def ef : AcceptFields := ⟨1, 0, 0x1100, 0xFF, 3, 5, 201, 121000, 3601⟩
def e1x : Cart := { cart with ink := 0x2300 }
def e1y : Cart := { cart with ink := 0x2301 }
def e1e : Accept := { Store.normal.accepts.c2 with params := ⟨40, 100, 20000, 60⟩ }
def e1 : State := onSupply (fun u =>
    { u with bays := u.bays.set .c2 ⟨⟨.active, some e1y, some 2, none, 0, false, []⟩, ⟨.standby, some e1x, some 2, none, 0, false, []⟩⟩, accepts := u.accepts.set 2 e1e }) supplied
def e2o : PumpOp := ⟨.c2, .stir, [], false, ⟨.c2, .a⟩, 1, 20, 0, false, 0, 0, 4900, .open, false, false⟩
def e2 : State := onPump (fun p => { p with op := some e2o, valves := p.valves.set .c2 .circulate }) e1
def e3 : State := onSupply (fun u =>
    { u with bus := [⟨.bay ⟨.c2, .b⟩, .write 5, false⟩, ⟨.tank, .read, false⟩, ⟨.bay ⟨.c2, .b⟩, .read, false⟩], busStart := 4990 }) e1
def e4 : State := onSupply (fun u => { u with tank := ⟨.present, 0, []⟩ }) (tanked e3)
def e5 : State := onSupply (fun u =>
    { u with bays := u.bays.set .c2 ⟨⟨.active, some e1y, some 2, none, 0, false, []⟩, { BayRec.vacant with state := .reading }⟩, bus := [⟨.bay ⟨.c2, .b⟩, .read, false⟩, ⟨.tank, .read, true⟩], busStart := 4980 }) supplied
def e5c : Cart := ⟨0x23FF, 200000000, 40000, List.replicate 8 0x41⟩
def e5b : List Byte := cartBody e5c ++ [checksum (cartBody e5c)]
def e5e : State := { e5 with now := 4999 }
def e6 : State := onSupply (fun u =>
    { u with bays := u.bays.set .c2 ⟨BayRec.vacant, { BayRec.vacant with state := .reading }⟩, supplied := u.supplied.set .c2 false }) e5
def e7 : State := onSupply (fun u => { u with tank := ⟨.reading, 0, []⟩, bus := [⟨.tank, .read, false⟩], busStart := 4980 })
    base
def e7b : List Byte := let b := u32 200000000 ++ u32 300000000 ++ List.replicate 8 0x42; b ++ [checksum b]
def e8 : State := onSupply (fun u =>
    { u with bus := [⟨.bay ⟨.c2, .b⟩, .write 99999999, false⟩, ⟨.bay ⟨.c2, .b⟩, .write 5, false⟩], busStart := 4988 }) e1
def e8At4999 : State := { e8 with now := 4999 }
def e9 : State := onSupply (fun u =>
    { u with bays := u.bays.set .c2 ⟨⟨.active, some e1y, some 2, none, 0, false, []⟩, ⟨.standby, some e1x, some 2, none, 1, false, []⟩⟩ }) e8
def e10 : Work := Work.of (onSupply (fun u =>
    { u with accepts := u.accepts.set 6 ⟨true, .reject, 0x2301, 0, Chans.all true, ⟨40,100,20000,0⟩⟩ }) e1)

theorem meets_AcceptSetWritesTheEntry :
    ((base.hears 5 = true) ∧ (15 ≤ 15) ∧ (ef.enabled = if true = true then 1 else 0)
        ∧ (ef.kind = if AcceptKind.accept = AcceptKind.accept then 0 else 1)
        ∧ (chanSetOf ef.chans = some
          { c0 := true, c1 := true, c2 := false, c3 := false, c4 := false, c5 := false : Chans Bool })
        ∧ (∀ (b : Bay), (bayRec base.supply b).state ≠ BayState.active ∧ (bayRec base.supply b).state ≠ BayState.standby ∧
          (bayRec base.supply b).state ≠ BayState.rejected)
        ∧ (base.supply.supplied = Chans.all false)) := by
  constructorm* _ ∧ _ <;> first | decide | (rintro ⟨c, l⟩; cases c <;> cases l <;> decide)

theorem meets_BaySelectSwapsTheBays :
    ((e1.hears 5 = true)
        ∧ ((bayRec e1.supply { chan := Chan.c2, letter := Letter.a : Bay }).state = BayState.active))
      ∧ ((e2.hears 5 = true)
        ∧ ((bayRec e2.supply { chan := Chan.c2, letter := Letter.b : Bay }).state = BayState.standby)
        ∧ (opOn e2.pump Chan.c2 = true))
      ∧ ((e1.hears 5 = true)
        ∧ ((bayRec e1.supply { chan := Chan.c2, letter := Letter.b : Bay }).state = BayState.standby)
        ∧ ((bayRec e1.supply { chan := Chan.c2, letter := Letter.b : Bay }).entry = some 2)
        ∧ (e1.supply.accepts[2]? = some e1e)
        ∧ ((bayRec e1.supply { chan := Chan.c2, letter := Letter.b.other : Bay }).state = BayState.active)
        ∧ ((bayRec e1.supply { chan := Chan.c2, letter := Letter.b.other : Bay }).cart = some e1y)
        ∧ (opOn e1.pump Chan.c2 = false) ∧ (e1.supply.supplied.get Chan.c2 = true)
        ∧ (e1e.params.keepWet = (e1.supply.params.get Chan.c2).keepWet) ∧ (e1e.params.settle ≠ 0)) := by decide

/-- Channel 1's ACTIVE bay A gives ink to a stir; its partner is as given, with the parameters in use. -/
def e11 (st : BayState) : State :=
  onPump (fun p => { p with
    op := some ⟨.c1, .stir, [], false, ⟨.c1, .a⟩, 5, 20, 0, false, 4, 0, 4900, .open, false, false⟩ })
    (onSupply (fun u => { u with
      bays := u.bays.set .c1 ⟨u.bays.c1.a, { u.bays.c1.a with state := st }⟩
      params := u.params.set .c1 Store.normal.accepts.c0.params }) supplied)

theorem meets_SwitchesFillAndEmptyTheBays_active :
    ((e11 .standby).running = true ∧ (bayRec (e11 .standby).supply ⟨.c1, .a⟩).state = .active
        ∧ (e11 .standby).supply.supplied.get .c1 = true ∧ (bayRec (e11 .standby).supply ⟨.c1, .b⟩).state = .standby
        ∧ (bayRec (e11 .standby).supply ⟨.c1, .b⟩).entry.bind (fun i => ((e11 .standby).supply.accepts[i]?).map Accept.params)
          = some ((e11 .standby).supply.params.get .c1))
      ∧ ((bayRec (e11 .spent).supply ⟨.c1, .b⟩).state = .spent ∧ (e11 .spent).sheet.phase = .none
        ∧ (e11 .spent).sheet.abort = none ∧ (e11 .spent).station.service = none) := by decide

theorem meets_SwitchesFillAndEmptyTheBays :
    ((base.running = true)
        ∧ ((bayRec base.supply { chan := Chan.c5, letter := Letter.b : Bay }).state = BayState.vacant)
        ∧ (∀ o ∈ base.supply.bus, o.target ≠ Target.bay { chan := Chan.c5, letter := Letter.b : Bay }))
      ∧ ((e1.running = true)
        ∧ ((bayRec e1.supply { chan := Chan.c2, letter := Letter.b : Bay }).state ≠ BayState.vacant))
      ∧ ((e3.running = true)
        ∧ ((bayRec e3.supply { chan := Chan.c2, letter := Letter.b : Bay }).state ≠ BayState.vacant)
        ∧ ((bayRec e3.supply { chan := Chan.c2, letter := Letter.b : Bay }).state ≠ BayState.active))
      ∧ ((base.running = true)
        ∧ ((bayRec base.supply { chan := Chan.c2, letter := Letter.b : Bay }).state = BayState.vacant))
      ∧ ((base.running = true) ∧ (base.supply.tank.state = TankState.absent)
        ∧ (∀ o ∈ base.supply.bus, o.target ≠ Target.tank))
      ∧ ((e4.running = true) ∧ (e4.supply.tank.state ≠ TankState.absent)) := by decide

theorem meets_ReadPlacesTheCartridge :
    ((e5e.running = true)
        ∧ (e5e.supply.bus =
          [{ target := Target.bay { chan := Chan.c2, letter := Letter.b : Bay }, kind := BusKind.read, startUp := false : BusOp }, { target := Target.tank, kind := BusKind.read, startUp := true : BusOp }])
        ∧ ((bayRec e5e.supply { chan := Chan.c2, letter := Letter.b : Bay }).state = BayState.reading)
        ∧ (e5e.now < e5e.supply.busStart + 20))
      ∧ ((e6.running = true)
        ∧ (e6.supply.bus =
          [{ target := Target.bay { chan := Chan.c2, letter := Letter.b : Bay }, kind := BusKind.read, startUp := false : BusOp }, { target := Target.tank, kind := BusKind.read, startUp := true : BusOp }])
        ∧ ((bayRec e6.supply { chan := Chan.c2, letter := Letter.b : Bay }).state = BayState.reading)
        ∧ (e6.supply.busStart + 20 ≤ e6.now) ∧ (none.bind cartOf = none)
        ∧ (activeLetter e6.supply { chan := Chan.c2, letter := Letter.b : Bay }.chan = none)
        ∧ (e6.supply.supplied.get { chan := Chan.c2, letter := Letter.b : Bay }.chan = false))
      ∧ ((e5.running = true)
        ∧ (e5.supply.bus =
          [{ target := Target.bay { chan := Chan.c2, letter := Letter.b : Bay }, kind := BusKind.read, startUp := false : BusOp }, { target := Target.tank, kind := BusKind.read, startUp := true : BusOp }])
        ∧ ((bayRec e5.supply { chan := Chan.c2, letter := Letter.b : Bay }).state = BayState.reading)
        ∧ (e5.supply.busStart + 20 ≤ e5.now) ∧ (some e5b = some e5b) ∧ (cartOf e5b = some e5c)
        ∧ (50000000 ≤ e5c.capacity) ∧ (e5c.capacity ≤ 1000000000) ∧ (e5c.remaining ≤ e5c.capacity)
        ∧ (40000 ≤ e5c.remaining)
        ∧ (verdict e5.supply.accepts e5c.ink { chan := Chan.c2, letter := Letter.b : Bay }.chan = some 2)
        ∧ (e5.supply.accepts[2]? = some Store.normal.accepts.c2)
        ∧ (activeLetter e5.supply { chan := Chan.c2, letter := Letter.b : Bay }.chan = some
          { chan := Chan.c2, letter := Letter.b : Bay }.letter.other)
        ∧ (e5.supply.supplied.get { chan := Chan.c2, letter := Letter.b : Bay }.chan = true)
        ∧ (activeParams e5.supply { chan := Chan.c2, letter := Letter.b : Bay }.chan = some (e5.supply.params.get
          { chan := Chan.c2, letter := Letter.b : Bay }.chan)))
      ∧ ((e6.running = true)
        ∧ (e6.supply.bus =
          [{ target := Target.bay { chan := Chan.c2, letter := Letter.b : Bay }, kind := BusKind.read, startUp := false : BusOp }, { target := Target.tank, kind := BusKind.read, startUp := true : BusOp }])
        ∧ ((bayRec e6.supply { chan := Chan.c2, letter := Letter.b : Bay }).state = BayState.reading)
        ∧ (e6.supply.busStart + 20 ≤ e6.now) ∧ (some e5b = some e5b) ∧ (cartOf e5b = some e5c)
        ∧ (50000000 ≤ e5c.capacity) ∧ (e5c.capacity ≤ 1000000000) ∧ (e5c.remaining ≤ e5c.capacity)
        ∧ (40000 ≤ e5c.remaining)
        ∧ (verdict e6.supply.accepts e5c.ink { chan := Chan.c2, letter := Letter.b : Bay }.chan = some 2)
        ∧ (e6.supply.accepts[2]? = some Store.normal.accepts.c2)
        ∧ (activeLetter e6.supply { chan := Chan.c2, letter := Letter.b : Bay }.chan = none)
        ∧ (e6.supply.supplied.get { chan := Chan.c2, letter := Letter.b : Bay }.chan = false)
        ∧ (Store.normal.accepts.c2.params = e6.supply.params.get { chan := Chan.c2, letter := Letter.b : Bay }.chan)
        ∧ (Store.normal.accepts.c2.params.settle = 0)
        ∧ (12000000 ≤ (chanRec e6 { chan := Chan.c2, letter := Letter.b : Bay }.chan).e)
        ∧ (e6.sheet.phase = SheetPhase.none) ∧ (e6.sheet.abort = none) ∧ (e6.station.service = none)) := by decide

theorem meets_TankReadGivesTheWaste :
    ((e7.running = true)
        ∧ (e7.supply.bus = [{ target := Target.tank, kind := BusKind.read, startUp := false : BusOp }])
        ∧ (e7.supply.tank.state = TankState.reading) ∧ (e7.supply.busStart + 20 ≤ e7.now) ∧ (none.bind tankOf = none)) := by
          decide

theorem meets_WriteIsAcknowledgedOrTriedAgain :
    ((e8At4999.running = true)
        ∧ (e8At4999.supply.bus =
          [{ target := Target.bay { chan := Chan.c2, letter := Letter.b : Bay }, kind := BusKind.write 99999999, startUp := false : BusOp }, { target := Target.bay { chan := Chan.c2, letter := Letter.b : Bay }, kind := BusKind.write 5, startUp := false : BusOp }])
        ∧ ((bayRec e8At4999.supply { chan := Chan.c2, letter := Letter.b : Bay }).cart = some e1x)
        ∧ (e8At4999.now < e8At4999.supply.busStart + 12))
      ∧ ((e8.running = true)
        ∧ (e8.supply.bus =
          [{ target := Target.bay { chan := Chan.c2, letter := Letter.b : Bay }, kind := BusKind.write 99999999, startUp := false : BusOp }, { target := Target.bay { chan := Chan.c2, letter := Letter.b : Bay }, kind := BusKind.write 5, startUp := false : BusOp }])
        ∧ ((bayRec e8.supply { chan := Chan.c2, letter := Letter.b : Bay }).cart = some e1x)
        ∧ (e8.supply.busStart + 12 ≤ e8.now)
        ∧ ((bayRec e8.supply { chan := Chan.c2, letter := Letter.b : Bay }).attempts = 0))
      ∧ ((e9.running = true)
        ∧ (e9.supply.bus =
          [{ target := Target.bay { chan := Chan.c2, letter := Letter.b : Bay }, kind := BusKind.write 99999999, startUp := false : BusOp }, { target := Target.bay { chan := Chan.c2, letter := Letter.b : Bay }, kind := BusKind.write 5, startUp := false : BusOp }])
        ∧ ((bayRec e9.supply { chan := Chan.c2, letter := Letter.b : Bay }).cart = some e1x)
        ∧ (e9.supply.busStart + 12 ≤ e9.now)
        ∧ ((bayRec e9.supply { chan := Chan.c2, letter := Letter.b : Bay }).attempts ≠ 0)
        ∧ ((bayRec e9.supply { chan := Chan.c2, letter := Letter.b : Bay }).state ≠ BayState.active)) := by decide

theorem meets_CartridgeRecordReadsBack :
    ((e5c.ink < 65536) ∧ (e5c.capacity < 4294967296) ∧ (e5c.remaining < 4294967296) ∧ (e5c.lot.length ≤ 8)
        ∧ (textOf e5c.lot = e5c.lot))
      ∧ ((cartOf e5b = some e5c) ∧ (4294967295 < 4294967296)) := by decide

/-! ### The pump -/

def f0 : State := onPump (fun p =>
    { p with list := [⟨.c1, .refill, 0, 3000, 0, [], false⟩, ⟨.c2, .topUp, 6, 3001, 0, [4], false⟩, ⟨.c3, .stir, 0, 1, 0, [], false⟩] }) supplied
def f1 : State := onPump (fun p =>
    { p with chans := p.chans.set .c0 { Channel.powerOn false false with suspect := true, e := 11960000 } }) supplied
def f2o : PumpOp := ⟨.c0, .refill, [], false, ⟨.c0, .a⟩, 5, 226, 0, false, 4, 160000, 4900, .open, false, false⟩
def f2 : State := onPump (fun p => { p with op := some f2o, valves := p.valves.set .c0 .fill }) f1
def f3 : State := { supplied with now := 2000000 }
def f4o : PumpOp := { f2o with window := .pulsed, strokeStart := 4800 }
def f4 : State := onPump (fun p => { p with op := some f4o }) f2
def f5o : PumpOp := { f2o with strokeStart := 4851 }
def f5 : State := onPump (fun p => { p with op := some f5o }) f2
def f6o : PumpOp := { f2o with strokeStart := 4850 }
def f6 : State := onPump (fun p => { p with op := some f6o }) f2
def f7 : State := onPump (fun p =>
    { p with chans := p.chans.set .c0 { Channel.powerOn false false with hold := true, dry := true, e := 0, reconcile := 5 } }) base
def f8 : State := onPump (fun p => { p with chans := p.chans.set .c0 (Channel.powerOn false true) }) base

/-- The pump at work for a channel, at the end of a stroke; every channel stands at 12,100,000 nL below its float. -/
def f9o (ch : Chan) (k : PumpKind) : PumpOp := ⟨ch, k, [3], false, ⟨ch, .a⟩, 20, 20, 0, false, 4, 160000, 4800, .pulsed, false, false⟩
def f9 (o : PumpOp) (l : List PumpReq) : State :=
  onPump (fun p => { p with
    op := some o, list := l, valves := p.valves.set o.chan .fill
    chans := p.chans.map (fun c => { c with e := 12100000, full := false }) }) supplied
def f9r : PumpReq := ⟨.c2, .refill, 4, 100, 2, [], false⟩
def f9l : List PumpReq := [⟨.c3, .refill, 4, 50, 2, [], false⟩, f9r, ⟨.c4, .stir, 5, 100, 2, [], false⟩]

theorem meets_PumpRequestsStartAndAge :
    ((f0.running = true))
      ∧ ((base.hears 5 = true) ∧ (base.supply.supplied.get Chan.c1 = false))
      ∧ ((f1.hears 5 = true) ∧ (f1.supply.supplied.get Chan.c0 = true) ∧ (f1.pump.op = none) ∧ (f1.pump.list = [])
        ∧ (activeLetter f1.supply Chan.c0 = some Letter.a) ∧ ((chanRec f1 Chan.c0).full = false))
      ∧ ((f2.hears 5 = true) ∧ (f2.supply.supplied.get Chan.c0 = true) ∧ (f2.pump.op = some f2o) ∧ (f2o.chan = Chan.c0)
        ∧ (f2o.kind ≠ PumpKind.stir))
      ∧ ((f9 (f9o .c0 .refill) []).hears 7 = true ∧ (f9o .c0 .refill).chan ≠ .c1 ∧ entryOf (f9 (f9o .c0 .refill) []).pump .c1 = none)
      ∧ ((f9 (f9o .c0 .refill) f9l).hears 7 = true ∧ (f9o .c0 .refill).chan ≠ .c2 ∧ entryOf (f9 (f9o .c0 .refill) f9l).pump .c2 ≠ none)
      ∧ ((f9 (f9o .c1 .stir) []).hears 7 = true ∧ (f9 (f9o .c1 .stir) []).pump.op = some (f9o .c1 .stir)
        ∧ (f9o .c1 .stir).chan = .c1 ∧ (f9o .c1 .stir).kind = .stir)
      ∧ ((f9 (f9o .c1 .stir) f9l).running = true ∧ (f9o .c1 .stir).count = (f9o .c1 .stir).limit
        ∧ (f9o .c1 .stir).changed = false ∧ (f9o .c1 .stir).window ≠ .open
        ∧ (f9o .c1 .stir).strokeStart + 200 ≤ (f9 (f9o .c1 .stir) f9l).now
        ∧ (chanRec (f9 (f9o .c1 .stir) f9l) .c1).follow = none ∧ 12000000 ≤ (chanRec (f9 (f9o .c1 .stir) f9l) .c1).e
        ∧ entryOf (f9 (f9o .c1 .stir) f9l).pump .c1 = none ∧ f9r ∈ f9l
        ∧ (∀ x ∈ f9l, x = f9r ∨ f9r.number < x.number ∨ (f9r.number = x.number ∧ f9r.chan.num < x.chan.num))
        ∧ (f9 (f9o .c1 .stir) f9l).supply.supplied.get f9r.chan = true
        ∧ activeLetter (f9 (f9o .c1 .stir) f9l).supply f9r.chan = some .a
        ∧ (chanRec (f9 (f9o .c1 .stir) f9l) f9r.chan).full = false)
      ∧ ((supplied.running = true) ∧ (stirWanted supplied Chan.c0 = false))
      ∧ ((f3.running = true) ∧ (stirWanted f3 Chan.c0 = true) ∧ (f3.pump.op = none) ∧ (f3.pump.list = [])
        ∧ (activeLetter f3.supply Chan.c0 = some Letter.a)) := by decide

/-- Ends of a TOP_UP of channel 1: bay A charged and with `left` nL, bay B as given, the entry's parameters those in use. -/
def f10o (f : PumpOp → PumpOp) : PumpOp := f (f9o .c1 .topUp)
def f10 (f : PumpOp → PumpOp) (left : Nat) (b : BayRec) : State :=
  onSupply (fun u => { u with
    bays := u.bays.set .c1 ⟨{ u.bays.c1.a with charged := true, cart := some { cart with remaining := left } }, b⟩
    params := u.params.set .c1 Store.normal.accepts.c0.params }) (f9 (f10o f) [])
def f10full : PumpOp → PumpOp := fun o => { o with fullCame := true }
def f10turn : PumpOp → PumpOp := fun o => { o with changed := true, count := 4 }
def f10miss : PumpOp → PumpOp := fun o => { o with missing := 3, count := 19 }
def f10b : BayRec := { supplied.supply.bays.c1.a with state := .standby }
/-- The channel is STARVED when the stroke ends. -/
def f10out : State :=
  onSupply (fun u => { u with
    bays := u.bays.set .c1 ⟨BayRec.vacant, BayRec.vacant⟩, supplied := u.supplied.set .c1 false }) (f10 f10turn 5 BayRec.vacant)

theorem meets_StrokesFillTheTank :
    ((base.running = true) ∧ (base.pump.op = none))
      ∧ ((f5.running = true) ∧ (f5.pump.op = some f5o) ∧ (f5.now < f5o.strokeStart + 150))
      ∧ ((f5.running = true) ∧ (f5.pump.op = some f5o) ∧ (f5.now < f5o.strokeStart + 200))
      ∧ ((f6.running = true) ∧ (f6.pump.op = some f6o) ∧ (f6o.window = Window.open) ∧ (f6o.strokeStart + 150 ≤ f6.now))
      ∧ ((f4.running = true) ∧ (f4.pump.op = some f4o) ∧ (f4o.window ≠ Window.open) ∧ (f4o.strokeStart + 200 ≤ f4.now)
        ∧ (f4o.fullCame = false) ∧ (f4o.changed = false) ∧ (f4o.count ≠ f4o.limit) ∧ (f4o.missing < 3))
      ∧ ((f6.running = true) ∧ (f6.pump.op = some f6o) ∧ (f6o.window = Window.open) ∧ (f6o.kind ≠ PumpKind.stir)
        ∧ (f6o.bayGone = false) ∧ ((bayRec f6.supply f6o.bay).cart = some cart) ∧ ((chanRec f6 f6o.chan).hold = false)
        ∧ ((chanRec f6 f6o.chan).dry = false) ∧ (2500000 ≤ (chanRec f6 f6o.chan).e))
      ∧ ((f10 f10full 5 f10b).running = true ∧ (f10 f10full 5 f10b).pump.op = some (f10o f10full) ∧ (f10o f10full).kind ≠ .stir
        ∧ (f10o f10full).window ≠ .open ∧ (f10o f10full).strokeStart + 200 ≤ (f10 f10full 5 f10b).now
        ∧ (f10 f10full 5 f10b).pump.list = [] ∧ (f10 f10full 5 f10b).station.service = none
        ∧ (f10 f10full 5 f10b).sheet.phase = .none ∧ (f10 f10full 5 f10b).sheet.abort = none ∧ (f10o f10full).fullCame = true
        ∧ 12000000 ≤ (chanRec (f10 f10full 5 f10b) .c1).e)
      ∧ ((f10o f10turn).fullCame = false ∧ (f10o f10turn).changed = true
        ∧ activeLetter (f10 f10turn 5 f10b).supply .c1 = some .a)
      ∧ (f10out.pump.op = some (f10o f10turn) ∧ activeLetter f10out.supply .c1 = none ∧ f10out.supply.supplied.get .c1 = false)
      ∧ ((f10o id).fullCame = false ∧ (f10o id).changed = false ∧ (f10o id).count = (f10o id).limit)
      ∧ ((f10o f10miss).fullCame = false ∧ (f10o f10miss).changed = false ∧ (f10o f10miss).count ≠ (f10o f10miss).limit
        ∧ 3 ≤ (f10o f10miss).missing ∧ (f10o f10miss).bay = ⟨.c1, .a⟩
        ∧ (bayRec (f10 f10miss 10000000 f10b).supply ⟨.c1, .a⟩).state = .active
        ∧ (bayRec (f10 f10miss 10000000 f10b).supply ⟨.c1, .a⟩).cart = some { cart with remaining := 10000000 }
        ∧ 10000000 * 20 ≤ cart.capacity ∧ ¬10000001 * 20 ≤ cart.capacity
        ∧ (f10 f10miss 10000000 f10b).supply.supplied.get .c1 = true
        ∧ (bayRec (f10 f10miss 10000001 f10b).supply ⟨.c1, .b⟩).state = .standby
        ∧ (bayRec (f10 f10miss 10000000 f10b).supply ⟨.c1, .b⟩).entry.bind
            (fun i => ((f10 f10miss 10000000 f10b).supply.accepts[i]?).map Accept.params)
          = some ((f10 f10miss 10000000 f10b).supply.params.get .c1)
        ∧ (bayRec (f10 f10miss 10000000 BayRec.vacant).supply ⟨.c1, .b⟩).state = BayRec.vacant.state
        ∧ BayRec.vacant.state ≠ .standby ∧ BayRec.vacant.state ≠ .active) := by
  constructorm* _ ∧ _ <;> decide

/-- A fill of channel 1 whose bay is gone, E one stroke below the ink hold's release, both flags set. -/
def f11o (k : PumpKind) : PumpOp := { f9o .c1 k with window := .open, bayGone := true }
def f11 (k : PumpKind) : State :=
  onPump (fun p => { p with chans := p.chans.set .c1 { p.chans.c1 with e := 3960000, dry := true, hold := true } }) (f9 (f11o k) [])

theorem meets_StrokesFillTheTank_pulses :
    ((f11 .stir).running = true ∧ (f11 .stir).pump.op = some (f11o .stir) ∧ (f11o .stir).window = .open)
      ∧ ((f11 .refill).pump.op = some (f11o .refill) ∧ (f11o .refill).bayGone = true ∧ (f11 .refill).sheet.phase = .none
        ∧ (f11 .refill).sheet.abort = none ∧ (f11 .refill).station.service = none) := by decide

/-- R109, R112: three missing strokes with a twentieth left change the bay; one nL more and it is a fault of the bay. -/
theorem test_no_flow :
    leaves .strokeEnd (f10 f10miss 10000000 f10b) (fun s => (s.supply.bays.c1.a.state, s.pump.op.map (fun o => (o.bay.letter, o.limit))))
        = some (.spent, some (.b, 223))
      ∧ leaves .strokeEnd (f10 f10miss 10000001 BayRec.vacant) (fun s => (s.supply.bays.c1.a.state, s.pump.op.isNone))
        = some (.fault, true) := by decide

theorem meets_FloatsOverwriteTheEstimate :
    ((supplied.running = true) ∧ (supplied.sheet.phase = SheetPhase.none) ∧ (supplied.sheet.abort = none)
        ∧ (supplied.station.service = none) ∧ ((chanRec supplied Chan.c0).full = true))
      ∧ ((f8.running = true) ∧ (f8.sheet.phase = SheetPhase.none) ∧ (f8.sheet.abort = none)
        ∧ (f8.station.service = none) ∧ ((chanRec f8 Chan.c0).low = true))
      ∧ ((f7.running = true) ∧ (f7.sheet.phase = SheetPhase.none) ∧ (f7.sheet.abort = none)
        ∧ (f7.station.service = none) ∧ ((chanRec f7 Chan.c0).full = false) ∧ (opOn f7.pump Chan.c0 = false))
      ∧ ((f7.running = true) ∧ (f7.sheet.phase = SheetPhase.none) ∧ (f7.sheet.abort = none)
        ∧ (f7.station.service = none) ∧ ((chanRec f7 Chan.c0).low = false)
        ∧ (f7.supply.supplied.get Chan.c0 = false ∨ (chanRec f7 Chan.c0).suspect = true ∨ opOn f7.pump Chan.c0 = true)) := by
          decide

/-! ### The carriage and the station -/

def car (f : Carriage → Carriage) : State := onCar f base
def g1 : State := car (fun c => { c with claims := ⟨false, true, false⟩ })
def g2 : State := car (fun c => { c with state := .released })
def g3 : State := car (fun c => { c with sled := .lowering 4800, tags := [4] })
def g4 : State := car (fun c => { c with state := .open, sled := .raising 4800, tags := [] })
def g5 : State := car (fun c => { c with state := .open, idleSince := some 3000 })
def g6 : State := onStation (fun t => { t with wet := Chans.all ⟨17, true⟩ }) (car (fun c =>
    { c with sled := .lowering 4200, tags := [4, 9] }))
def g6At4999 : State := { g6 with now := 4999 }
def g7 : State := onStation (fun t => { t with wet := Chans.all ⟨17, true⟩ }) (car (fun c =>
    { c with state := .open, sled := .raising 4200 }))
def g7At4999 : State := { g7 with now := 4999 }
def g8 : State := onConf (fun c => { c with autoCap := 5000 }) (car (fun c => { c with state := .open, idleSince := some 0 }))
def g8At4999 : State := { g8 with now := 4999 }
def act (k : MoveKind) (r : Block) (t : Nat) : CarMove :=
    { CarMove.fresh r k with phase := .action t, acted := true, widths := ⟨12000, some 3, some 100000, some 1014100⟩ }
def acting (m : CarMove) : State := car (fun c => { c with state := .serviceMove, move := some m })
def g9m : CarMove := { act (.checkScan .h1) .check 2000 with scan := ⟨.r1, false, [3, 4], some [], none⟩ }
def g10 : State := car (fun c => { c with state := .serviceMove, resetReturn := some 3000, home := false })
def g10At4999 : State := { g10 with now := 4999 }
def tank0 : WasteRec := ⟨40000000, 200000000, 39500000⟩
def g11m : CarMove := { act .wipe .service 3500 with phase := .returning 4500 }
def g11v : Service :=
    ⟨.host 9, 1, ⟨false, true, false⟩, Chans.all 0, .h1, .wipe, [], none, ⟨0, 0, 819, 820, 0, 0⟩, false, false, none⟩
def g11 : State := onStation (fun t =>
    { t with service := some g11v, cleanDue := ⟨true, true, false⟩, wet := Chans.all ⟨17, true⟩ }) (tankPresent (tanked (onCar (fun c =>
    { c with state := .serviceMove, claims := ⟨false, false, true⟩, move := some g11m }) (onLink (fun l =>
    { l with table := [⟨9, 0x1C, 2⟩] }) base))))
def g12u : Suction := ⟨.h0, 960000, 1041⟩
def g12v : Service :=
    ⟨.host 9, 2, ⟨true, false, false⟩, ⟨480000, 480000, 0, 0, 0, 0⟩, .h0, .suction, [], none, ⟨480000, 480000, 0, 0, 0, 0⟩, false, false, none⟩
def g12 : State := onStation (fun t => { t with service := some g12v }) (onCar (fun c =>
    { c with claims := ⟨false, false, true⟩, suction := some g12u }) base)
def g12Late : State := { tankPresent (tanked (onLink (fun l => { l with table := [⟨9, 0x1C, 1⟩] }) g12)) with now := 5001 }
def g13 : State := { car (fun c => { c with state := .open }) with now := 8001 }
def g13At8000 : State := { g13 with now := 8000 }
def g14 : State := onStation (fun t => { t with wet := Chans.all ⟨0, true⟩ }) { g13 with now := 32001 }
def g14At32000 : State := { g14 with now := 32000 }

theorem meets_UncapAndCapFollowTheirTables :
    ((g1.hears 5 = true)
        ∧ (g1.station.car.claims ≠ { media := false, check := false, service := false : Claims } ∨ g1.station.car.move ≠ none
          ∨ g1.station.car.suction ≠ none ∨ g1.station.car.state = CarState.serviceMove))
      ∧ ((g2.hears 5 = true)
        ∧ (¬(g2.station.car.claims ≠ { media := false, check := false, service := false : Claims } ∨ g2.station.car.move ≠
          none ∨ g2.station.car.suction ≠ none ∨ g2.station.car.state = CarState.serviceMove))
        ∧ (g2.station.car.state = CarState.released))
      ∧ ((base.hears 5 = true)
        ∧ (¬(base.station.car.claims ≠ { media := false, check := false, service := false : Claims } ∨ base.station.car.move ≠
          none ∨ base.station.car.suction ≠ none ∨ base.station.car.state = CarState.serviceMove))
        ∧ (base.station.car.state = CarState.capped) ∧ (base.station.car.sled = Sled.still))
      ∧ ((g3.hears 5 = true)
        ∧ (¬(g3.station.car.claims ≠ { media := false, check := false, service := false : Claims } ∨ g3.station.car.move ≠
          none ∨ g3.station.car.suction ≠ none ∨ g3.station.car.state = CarState.serviceMove))
        ∧ (g3.station.car.state = CarState.capped) ∧ (g3.station.car.sled = Sled.lowering 4800))
      ∧ ((g4.hears 5 = true)
        ∧ (¬(g4.station.car.claims ≠ { media := false, check := false, service := false : Claims } ∨ g4.station.car.move ≠
          none ∨ g4.station.car.suction ≠ none ∨ g4.station.car.state = CarState.serviceMove))
        ∧ (g4.station.car.state = CarState.open) ∧ (g4.station.car.sled = Sled.raising 4800))
      ∧ ((g5.hears 5 = true)
        ∧ (¬(g5.station.car.claims ≠ { media := false, check := false, service := false : Claims } ∨ g5.station.car.move ≠
          none ∨ g5.station.car.suction ≠ none ∨ g5.station.car.state = CarState.serviceMove))
        ∧ (g5.station.car.state = CarState.open) ∧ (g5.station.car.sled = Sled.still)) := by decide

theorem meets_ReleaseAndParkHandTheCarriage :
    ((g3.hears 5 = true)
        ∧ (g3.station.car.claims ≠ { media := false, check := false, service := false : Claims } ∨ g3.station.car.hold ≠
          Hold.none ∨ g3.station.car.move ≠ none ∨ g3.station.car.sled ≠ Sled.still ∨ g3.station.car.state =
          CarState.serviceMove))
      ∧ ((g5.hears 5 = true)
        ∧ (¬(g5.station.car.claims ≠ { media := false, check := false, service := false : Claims } ∨ g5.station.car.hold ≠
          Hold.none ∨ g5.station.car.move ≠ none ∨ g5.station.car.sled ≠ Sled.still ∨ g5.station.car.state =
          CarState.serviceMove))
        ∧ (g5.station.car.state = CarState.open))
      ∧ ((g2.hears 5 = true)
        ∧ (¬(g2.station.car.claims ≠ { media := false, check := false, service := false : Claims } ∨ g2.station.car.hold ≠
          Hold.none ∨ g2.station.car.move ≠ none ∨ g2.station.car.sled ≠ Sled.still ∨ g2.station.car.state =
          CarState.serviceMove))
        ∧ (g2.station.car.state = CarState.released))
      ∧ ((base.hears 5 = true)
        ∧ (¬(base.station.car.claims ≠ { media := false, check := false, service := false : Claims } ∨ base.station.car.hold ≠
          Hold.none ∨ base.station.car.move ≠ none ∨ base.station.car.sled ≠ Sled.still ∨ base.station.car.state =
          CarState.serviceMove))
        ∧ (base.station.car.state = CarState.capped))
      ∧ ((g4.hears 5 = true) ∧ (g4.station.car.state ≠ CarState.released))
      ∧ ((g2.hears 5 = true) ∧ (g2.station.car.state = CarState.released) ∧ (false = false))
      ∧ ((g2.hears 5 = true) ∧ (g2.station.car.state = CarState.released) ∧ (true = true)
        ∧ (g2.station.car.hold ≠ Hold.waiting) ∧ (g2.station.car.move = none) ∧ (g2.media.switch = none)) := by decide

theorem meets_SledMotionsEnd :
    ((base.running = true) ∧ (base.media.switch = none) ∧ (base.station.car.sled = Sled.still))
      ∧ ((g6At4999.running = true) ∧ (g6At4999.media.switch = none) ∧ (g6At4999.station.car.move = none)
        ∧ (g6At4999.station.car.hold ≠ Hold.waiting) ∧ (g6At4999.station.car.serviceWaits = false)
        ∧ (g6At4999.station.car.sled = Sled.lowering 4200) ∧ (g6At4999.station.car.state = CarState.capped)
        ∧ (g6At4999.now < 4200 + 800))
      ∧ ((g6.running = true) ∧ (g6.media.switch = none) ∧ (g6.station.car.move = none)
        ∧ (g6.station.car.hold ≠ Hold.waiting) ∧ (g6.station.car.serviceWaits = false)
        ∧ (g6.station.car.sled = Sled.lowering 4200) ∧ (g6.station.car.state = CarState.capped)
        ∧ (4200 + 800 ≤ g6.now))
      ∧ ((g7At4999.running = true) ∧ (g7At4999.media.switch = none) ∧ (g7At4999.station.car.move = none)
        ∧ (g7At4999.station.car.hold ≠ Hold.waiting) ∧ (g7At4999.station.car.serviceWaits = false)
        ∧ (g7At4999.station.car.sled = Sled.raising 4200) ∧ (g7At4999.station.car.state = CarState.open)
        ∧ (g7At4999.now < 4200 + 800))
      ∧ ((g7.running = true) ∧ (g7.media.switch = none) ∧ (g7.station.car.move = none)
        ∧ (g7.station.car.hold ≠ Hold.waiting) ∧ (g7.station.car.serviceWaits = false)
        ∧ (g7.station.car.sled = Sled.raising 4200) ∧ (g7.station.car.state = CarState.open) ∧ (4200 + 800 ≤ g7.now))
      ∧ ((g8.running = true) ∧ (g8.media.switch = none) ∧ (g8.station.car.idleSince = some 0)
        ∧ (0 + g8.conf.autoCap ≤ g8.now))
      ∧ ((g8At4999.running = true) ∧ (g8At4999.media.switch = none) ∧ (g8At4999.station.car.idleSince = some 0)
        ∧ (g8At4999.now < 0 + g8At4999.conf.autoCap))
      ∧ ((base.running = true) ∧ (base.media.switch = none) ∧ (base.station.car.idleSince = none)) := by decide

theorem meets_ActionsEndAndTheReturnBegins :
    ((base.running = true) ∧ (base.station.car.move = none))
      ∧ (((acting (act MoveKind.wipe Block.service 3501)).running = true)
        ∧ ((acting (act MoveKind.wipe Block.service 3501)).station.car.move = some (act MoveKind.wipe Block.service 3501))
        ∧ ((act MoveKind.wipe Block.service 3501).phase = MovePhase.action 3501)
        ∧ ((acting (act MoveKind.wipe Block.service 3501)).station.car.idleSince = none)
        ∧ ((act MoveKind.wipe Block.service 3501).kind = MoveKind.wipe)
        ∧ ((acting (act MoveKind.wipe Block.service 3501)).now < 3501 + 1500))
      ∧ (((acting (act MoveKind.wipe Block.service 3500)).running = true)
        ∧ ((acting (act MoveKind.wipe Block.service 3500)).station.car.move = some (act MoveKind.wipe Block.service 3500))
        ∧ ((act MoveKind.wipe Block.service 3500).phase = MovePhase.action 3500)
        ∧ ((acting (act MoveKind.wipe Block.service 3500)).station.car.idleSince = none)
        ∧ ((act MoveKind.wipe Block.service 3500).kind = MoveKind.wipe)
        ∧ (3500 + 1500 ≤ (acting (act MoveKind.wipe Block.service 3500)).now))
      ∧ (((acting (act MoveKind.widthScan Block.media 2001)).running = true)
        ∧ ((acting (act MoveKind.widthScan Block.media 2001)).station.car.move = some (act MoveKind.widthScan Block.media
          2001))
        ∧ ((act MoveKind.widthScan Block.media 2001).phase = MovePhase.action 2001)
        ∧ ((acting (act MoveKind.widthScan Block.media 2001)).station.car.idleSince = none)
        ∧ ((act MoveKind.widthScan Block.media 2001).kind ≠ MoveKind.wipe)
        ∧ ((acting (act MoveKind.widthScan Block.media 2001)).now < 2001 + 3000))
      ∧ (((acting (act MoveKind.widthScan Block.media 2000)).running = true)
        ∧ ((acting (act MoveKind.widthScan Block.media 2000)).station.car.move = some (act MoveKind.widthScan Block.media
          2000))
        ∧ ((act MoveKind.widthScan Block.media 2000).phase = MovePhase.action 2000)
        ∧ ((acting (act MoveKind.widthScan Block.media 2000)).station.car.idleSince = none)
        ∧ ((act MoveKind.widthScan Block.media 2000).kind ≠ MoveKind.wipe)
        ∧ (2000 + 3000 ≤ (acting (act MoveKind.widthScan Block.media 2000)).now))
      ∧ (((acting (act MoveKind.widthScan Block.media 2000)).running = true)
        ∧ ((acting (act MoveKind.widthScan Block.media 2000)).station.car.move = some (act MoveKind.widthScan Block.media
          2000))
        ∧ ((act MoveKind.widthScan Block.media 2000).phase = MovePhase.action 2000)
        ∧ ((acting (act MoveKind.widthScan Block.media 2000)).station.car.idleSince = none)
        ∧ ((act MoveKind.widthScan Block.media 2000).kind = MoveKind.widthScan))
      ∧ (((acting (act MoveKind.wipe Block.media 2000)).running = true)
        ∧ ((acting (act MoveKind.wipe Block.media 2000)).station.car.move = some (act MoveKind.wipe Block.media 2000))
        ∧ ((act MoveKind.wipe Block.media 2000).phase = MovePhase.action 2000)
        ∧ ((acting (act MoveKind.wipe Block.media 2000)).station.car.idleSince = none)
        ∧ ((act MoveKind.wipe Block.media 2000).kind ≠ MoveKind.widthScan))
      ∧ (((acting (act (MoveKind.checkScan Head.h1) Block.check 2000)).running = true)
        ∧ ((acting (act (MoveKind.checkScan Head.h1) Block.check 2000)).station.car.move = some (act (MoveKind.checkScan
          Head.h1) Block.check 2000))
        ∧ ((act (MoveKind.checkScan Head.h1) Block.check 2000).phase = MovePhase.action 2000)
        ∧ ((acting (act (MoveKind.checkScan Head.h1) Block.check 2000)).station.car.idleSince = none)
        ∧ ((act (MoveKind.checkScan Head.h1) Block.check 2000).kind = MoveKind.checkScan Head.h1)
        ∧ ((act (MoveKind.checkScan Head.h1) Block.check 2000).scan.outward = true))
      ∧ (((acting g9m).running = true) ∧ ((acting g9m).station.car.move = some g9m)
        ∧ (g9m.phase = MovePhase.action 2000) ∧ ((acting g9m).station.car.idleSince = none)
        ∧ (g9m.kind = MoveKind.checkScan Head.h1) ∧ (g9m.scan.outward = false)) := by decide

/-- A check pass of head 1 on its return leg, or a width scan, with channels amply supplied. -/
def g15m (k : MoveKind) (row : Row) (n : Nat) : CarMove :=
  { act k .check 4000 with scan := ⟨row, false, List.replicate n 5, none, none⟩ }
def g15 (k : MoveKind) (row : Row) (n : Nat) : State :=
  onCar (fun c => { c with state := .serviceMove, move := some (g15m k row n) }) supplied

theorem meets_ActionsEndAndTheReturnBegins_readings :
    (∀ row ∈ [Row.r0, .r1], (g15 (.checkScan .h1) row 1036).running = true
        ∧ (g15 (.checkScan .h1) row 1036).station.car.move = some (g15m (.checkScan .h1) row 1036)
        ∧ (g15 (.checkScan .h1) row 1036).station.car.idleSince = none
        ∧ (5 :: (g15m (.checkScan .h1) row 1036).scan.samples).length = 1037
        ∧ (5 :: (g15m (.checkScan .h1) row 1035).scan.samples).length = 1036)
      ∧ ((g15 .widthScan .r0 0).running = true ∧ (g15 .widthScan .r0 0).checker.check = none)
      ∧ supplied.ample .c3 40960 := by
  refine ⟨?_, by decide, fun _ => by decide⟩
  intro row h
  simp only [List.mem_cons, List.not_mem_nil, or_false] at h
  obtain rfl | rfl := h <;> refine ⟨rfl, rfl, rfl, ?_, ?_⟩ <;> simp [g15m]

/-- R128: the later of two readings on either side of 128 is the edge's place. -/
theorem test_width_edge :
    leaves (.carriageSensorReading 127) (g15 .widthScan .r0 0) (fun s => s.station.car.move.map (fun m => m.widths))
        = some (some ⟨12001, some 127, some 100000, some 1014100⟩)
      ∧ leaves (.carriageSensorReading 128) (g15 .widthScan .r0 0) (fun s => s.station.car.move.map (fun m => m.widths))
        = some (some ⟨12001, some 128, some 100000, some 1200000⟩) := by decide

theorem meets_ReturnsEnd :
    ((base.running = true) ∧ (base.media.switch = none) ∧ (base.station.car.resetReturn = none)
        ∧ (base.station.car.move = none))
      ∧ ((g10At4999.running = true) ∧ (g10At4999.media.switch = none) ∧ (g10At4999.station.car.resetReturn = some 3000)
        ∧ (g10At4999.station.car.state = CarState.serviceMove) ∧ (g10At4999.station.car.move = none)
        ∧ (g10At4999.station.car.hold = Hold.none) ∧ (g10At4999.station.car.sled = Sled.still)
        ∧ (g10At4999.now < 3000 + 2000))
      ∧ ((g10.running = true) ∧ (g10.media.switch = none) ∧ (g10.station.car.resetReturn = some 3000)
        ∧ (g10.station.car.state = CarState.serviceMove) ∧ (g10.station.car.move = none)
        ∧ (g10.station.car.hold = Hold.none) ∧ (g10.station.car.sled = Sled.still) ∧ (3000 + 2000 ≤ g10.now))
      ∧ ((g11.running = true) ∧ (g11.media.switch = none) ∧ (g11.station.car.resetReturn = none)
        ∧ (g11.station.car.move = some g11m) ∧ (g11m.phase = MovePhase.returning 4500) ∧ (g11m.fault = none)
        ∧ (g11m.requester = Block.service) ∧ (g11m.kind = MoveKind.wipe)
        ∧ (g11.station.car.state = CarState.serviceMove) ∧ (g11.station.car.hold = Hold.none)
        ∧ (g11.station.car.sled = Sled.still)
        ∧ (g11.station.car.claims = { media := false, check := false, service := true : Claims })
        ∧ (g11.station.car.suction = none) ∧ (g11.station.service = some g11v) ∧ (g11v.by' = ServiceBy.host 9)
        ∧ (g11v.level = 1) ∧ (g11v.mask = (Heads.all false).set g11v.head true) ∧ (g11v.step = ServiceStep.wipe)
        ∧ (g11v.moveAgain = false) ∧ (g11v.completed = []) ∧ (g11.station.waste.tank = some tank0)
        ∧ (g11.supply.tank.state = TankState.present) ∧ (g11.checker.check = none) ∧ (g11.media.seq = none)) := by decide

theorem meets_SuctionEndsAndClocksComeDue :
    ((base.running = true) ∧ (base.station.car.suction = none))
      ∧ ((g12.running = true) ∧ (g12.station.car.suction = some g12u)
        ∧ (g12.now < g12u.start + 3000 + (g12u.volume + 999) / 1000))
      ∧ ((g12.running = true) ∧ (g12.station.car.suction = some g12u) ∧ (g12.station.service = some g12v)
        ∧ (g12v.step = ServiceStep.suction) ∧ (g12v.level = 2) ∧ (g12.station.car.state = CarState.capped)
        ∧ (g12.station.car.sled = Sled.still))
      ∧ ((g12Late.running = true) ∧ (g12Late.station.car.suction = some g12u)
        ∧ (g12u.start + 3000 + (g12u.volume + 999) / 1000 ≤ g12Late.now) ∧ (g12Late.station.service = some g12v)
        ∧ (g12v.step = ServiceStep.suction) ∧ (g12v.by' = ServiceBy.host 9) ∧ (g12Late.station.waste.tank = some tank0)
        ∧ (g12Late.supply.tank.state = TankState.present) ∧ (g12Late.media.switch = none)
        ∧ (g12Late.station.car.state = CarState.capped) ∧ (g12Late.station.car.hold ≠ Hold.waiting)
        ∧ (g12Late.station.car.move = none))
      ∧ ((g13.running = true) ∧ ((g13.supply.params.get Chan.c1).keepWet < wetClock g13 Chan.c1)
        ∧ ((g13.station.wet.get Chan.c1).spitDue = false))
      ∧ ((g13At8000.running = true)
        ∧ (wetClock g13At8000 Chan.c1 ≤ (g13At8000.supply.params.get Chan.c1).keepWet ∨ (g13At8000.station.wet.get
          Chan.c1).spitDue = true))
      ∧ ((g14.running = true) ∧ (4 * (g14.supply.params.get Chan.c1).keepWet < wetClock g14 Chan.c1)
        ∧ ((g14.station.wet.get Chan.c1).spitDue = true) ∧ (g14.station.cleanDue.get Chan.c1.head = false))
      ∧ ((g14At32000.running = true)
        ∧ (wetClock g14At32000 Chan.c1 ≤ (g14At32000.supply.params.get Chan.c1).keepWet ∨ (g14At32000.station.wet.get
          Chan.c1).spitDue = true)
        ∧ (wetClock g14At32000 Chan.c1 ≤ 4 * (g14At32000.supply.params.get Chan.c1).keepWet ∨ g14At32000.station.cleanDue.get
          Chan.c1.head = true)) := by decide

/-! ### Services and the nozzle check -/

def tank1 : WasteRec := ⟨40000000, 200000000, 39500000⟩
def m3 : Heads Bool := ⟨true, true, false⟩
def h1 : State := onCar (fun c => { c with state := .released }) base
def h2 : State := onCar (fun c => { c with claims := ⟨true, false, false⟩ }) base
def h3 : State := onStation (fun t => { t with waste := ⟨some ⟨199000000, 200000000, 199000000⟩, 0, .nearFull⟩ }) base
def h4 : State := tanked { swathing with pump := supplied.pump }
def h5 : State := onCar (fun c => { c with state := .open, idleSince := some 40 }) (tanked base)
def h6v : Service :=
    ⟨.host 9, 2, ⟨true, false, false⟩, ⟨480000, 480000, 0, 0, 0, 0⟩, .h0, .precondition, [], some 5000, Chans.all 0, false, false, none⟩
def h6 : State := onPump (fun p =>
    { p with list := [⟨.c1, .prePurge, 1, 1000, 0, [], true⟩], op := some ⟨.c0, .prePurge, [], true, ⟨.c0, .a⟩, 5, 226, 0, false, 4, 160000, 4900, .open, false, false⟩, valves := p.valves.set .c0 .fill }) (onStation (fun t => { t with service := some h6v }) (onCar (fun c => { c with claims := ⟨false, false, true⟩ }) (tankPresent (tanked (onLink (fun l => { l with table := [⟨9, 0x1C, 1⟩] }) supplied)))))
def h6At4999 : State := { h6 with now := 4999 }
def h7v : Service :=
    ⟨.host 9, 1, ⟨true, false, false⟩, Chans.all 0, .h0, .spit, [], none, ⟨921, 921, 0, 0, 0, 0⟩, false, false, some 5000⟩
def h7 : State := onStation (fun t => { t with service := some h7v }) (onCar (fun c =>
    { c with state := .open, claims := ⟨false, false, true⟩ }) (tanked base))
def h7At4999 : State := { h7 with now := 4999 }
def i1 : State := { supplied with media := threaded.media }
def chk (st : CheckStep) (on : Option Nat) : Check :=
    ⟨5, ⟨true, false, true⟩, 60, 140, 4, 16, true, .h0, none, st, 0, Heads.all (Rows.all ⟨none, none⟩), Chans.all 0, none, none, false, Heads.all 0, on, false, false, none⟩
def i2 (st : CheckStep) (on : Option Nat) : State := onChecker (fun x => { x with check := some (chk st on) }) (onCar (fun c
    => { c with state := .open, claims := ⟨false, true, false⟩ }) (onMedia (fun m =>
    { m with owner := .check, profiles := some { Store.normal.profile0 with tracking := false } :: List.replicate 7 none })
    (onLink (fun l => { l with table := [⟨5, 0x1D, 5⟩] }) i1)))
def mf : MaskFields := ⟨1, 1, 1, 0, 520, 3⟩
def mf2 : MaskFields := { mf with row := 2 }

/-- Capped, both channels of head 1 with exactly the volume of a level 3 purge above the 12,000,000 they must keep. -/
def h8t : WasteRec := ⟨100000000, 200000000, 98120000⟩
def h8 : State :=
  onStation (fun t => { t with waste := ⟨some h8t, 0, .normal⟩ })
    (tankPresent (onPump (fun p => { p with
      chans := p.chans.map (fun c => { c with e := 12000000 + 12000 * (supplied.supply.params.get .c2).purge }) }) supplied))

theorem meets_ServiceIsCheckedAndTaken :
    ((h1.hears 5 = true) ∧ (headSetOf 3 = some m3) ∧ (m3.members = [Head.h0, Head.h1]) ∧ (1 ≤ 2) ∧ (2 ≤ 3)
        ∧ (¬(h1.station.car.state = CarState.capped ∨ h1.station.car.state = CarState.open)))
      ∧ ((h2.hears 5 = true) ∧ (headSetOf 3 = some m3) ∧ (m3.members = [Head.h0, Head.h1]) ∧ (1 ≤ 2) ∧ (2 ≤ 3)
        ∧ (h2.station.car.state = CarState.capped ∨ h2.station.car.state = CarState.open)
        ∧ (h2.station.car.claims ≠ { media := false, check := false, service := false : Claims }))
      ∧ ((base.hears 5 = true) ∧ (headSetOf 3 = some m3) ∧ (m3.members = [Head.h0, Head.h1]) ∧ (1 ≤ 2) ∧ (2 ≤ 3)
        ∧ (base.station.car.state = CarState.capped ∨ base.station.car.state = CarState.open)
        ∧ (base.station.car.claims = { media := false, check := false, service := false : Claims })
        ∧ (base.station.waste.tank = none))
      ∧ ((h3.hears 5 = true) ∧ (headSetOf 3 = some m3) ∧ (m3.members = [Head.h0, Head.h1]) ∧ (1 ≤ 2) ∧ (2 ≤ 3)
        ∧ (h3.station.car.state = CarState.capped ∨ h3.station.car.state = CarState.open)
        ∧ (h3.station.car.claims = { media := false, check := false, service := false : Claims })
        ∧ (h3.station.waste.tank = some { w := 199000000, capacity := 200000000, written := 199000000 : WasteRec })
        ∧ ({ w := 199000000, capacity := 200000000, written := 199000000 : WasteRec }.capacity -
          { w := 199000000, capacity := 200000000, written := 199000000 : WasteRec }.w < (List.map (fun ch => if m3.get
          ch.head = true then (204800 * (h3.supply.params.get ch).drop + 9999) / 10000 + (if 2 = 2 then 4000 else if 2 = 3
          then 12000 else 0) * (h3.supply.params.get ch).purge else 0) allChans).sum))
      ∧ ((h4.hears 5 = true) ∧ (headSetOf 3 = some m3) ∧ (m3.members = [Head.h0, Head.h1]) ∧ (1 ≤ 2) ∧ (2 ≤ 3)
        ∧ (h4.station.car.state = CarState.capped ∨ h4.station.car.state = CarState.open)
        ∧ (h4.station.car.claims = { media := false, check := false, service := false : Claims })
        ∧ (h4.station.waste.tank = some tank1)
        ∧ ((List.map (fun ch => if m3.get ch.head = true then (204800 * (h4.supply.params.get ch).drop + 9999) / 10000 + (if 2
          = 2 then 4000 else if 2 = 3 then 12000 else 0) * (h4.supply.params.get ch).purge else 0) allChans).sum ≤
          tank1.capacity - tank1.w)
        ∧ (2 ≤ 2) ∧ (h4.sheet.phase ≠ SheetPhase.none))
      ∧ ((h4.hears 5 = true) ∧ (headSetOf 3 = some m3) ∧ (m3.members = [Head.h0, Head.h1]) ∧ (1 ≤ 1) ∧ (1 ≤ 3)
        ∧ (h4.station.car.state = CarState.capped ∨ h4.station.car.state = CarState.open)
        ∧ (h4.station.car.claims = { media := false, check := false, service := false : Claims })
        ∧ (h4.station.waste.tank = some tank1)
        ∧ ((List.map (fun ch => if m3.get ch.head = true then (204800 * (h4.supply.params.get ch).drop + 9999) / 10000 + (if 1
          = 2 then 4000 else if 1 = 3 then 12000 else 0) * (h4.supply.params.get ch).purge else 0) allChans).sum ≤
          tank1.capacity - tank1.w)
        ∧ (1 = 1) ∧ (h4.station.car.state = CarState.capped) ∧ (h4.station.car.sled = Sled.still))
      ∧ ((h5.hears 5 = true) ∧ (headSetOf 3 = some m3) ∧ (m3.members = [Head.h0, Head.h1]) ∧ (1 ≤ 3) ∧ (3 ≤ 3)
        ∧ (h5.station.car.state = CarState.capped ∨ h5.station.car.state = CarState.open)
        ∧ (h5.station.car.claims = { media := false, check := false, service := false : Claims })
        ∧ (h5.station.waste.tank = some tank1)
        ∧ ((List.map (fun ch => if m3.get ch.head = true then (204800 * (h5.supply.params.get ch).drop + 9999) / 10000 + (if 3
          = 2 then 4000 else if 3 = 3 then 12000 else 0) * (h5.supply.params.get ch).purge else 0) allChans).sum ≤
          tank1.capacity - tank1.w)
        ∧ (2 ≤ 3) ∧ (h5.sheet.phase = SheetPhase.none) ∧ (h5.station.car.state = CarState.open)
        ∧ (h5.station.car.sled = Sled.still))
      ∧ (h8.hears 5 = true ∧ headSetOf 2 = some ⟨false, true, false⟩ ∧ (⟨false, true, false⟩ : Heads Bool).members = [.h1]
        ∧ h8.station.car.claims = ⟨false, false, false⟩ ∧ h8.station.waste.tank = some h8t
        ∧ plannedVolume h8 ⟨false, true, false⟩ 3 ≤ h8t.capacity - h8t.w ∧ h8.sheet.phase = .none ∧ h8.sheet.abort = none
        ∧ h8.station.car.state = .capped ∧ h8.station.car.sled = .still ∧ h8t.w ≤ h8t.capacity
        ∧ (∀ ch ∈ [Chan.c2, .c3], 12000 * (h8.supply.params.get ch).purge + 12000000 ≤ (chanRec h8 ch).e
          ∧ (chanRec h8 ch).dry = false ∧ (chanRec h8 ch).hold = false)
        ∧ h8t.written + 1000000 ≤ h8t.w + 24000 * (h8.supply.params.get .c2).purge
        ∧ h8.supply.tank.state = .present) := by
  constructorm* _ ∧ _ <;> decide

theorem meets_ServiceWaitsEnd :
    ((base.running = true) ∧ (base.station.service = none))
      ∧ ((h6At4999.running = true) ∧ (h6At4999.station.service = some h6v) ∧ (h6v.waitEnd = some 5000)
        ∧ (h6At4999.now < 5000))
      ∧ ((h6.running = true) ∧ (h6.station.service = some h6v) ∧ (h6v.step = ServiceStep.precondition)
        ∧ (h6v.waitEnd = some 5000) ∧ (5000 ≤ h6.now) ∧ (h6v.by' = ServiceBy.host 9)
        ∧ (h6v.mask = (Heads.all false).set h6v.head true) ∧ (h6v.completed = [])
        ∧ (h6.station.waste.tank = some tank1) ∧ (h6.supply.tank.state = TankState.present) ∧ (h6.media.switch = none)
        ∧ (h6.station.car.state = CarState.capped) ∧ (h6.station.car.hold ≠ Hold.waiting)
        ∧ (h6.station.car.move = none))
      ∧ ((h7At4999.running = true) ∧ (h7At4999.station.service = some h7v) ∧ (h7v.spitEnd = some 5000)
        ∧ (h7At4999.now < 5000))
      ∧ ((h7.running = true) ∧ (h7.station.service = some h7v) ∧ (h7v.step = ServiceStep.spit)
        ∧ (h7v.spitEnd = some 5000) ∧ (5000 ≤ h7.now) ∧ (h7v.level = 1) ∧ (h7.station.car.state = CarState.open)
        ∧ (h7.station.car.sled = Sled.still) ∧ (h7.station.car.move = none) ∧ (h7.station.car.hold ≠ Hold.granted)) := by
          decide

theorem meets_CheckIsTakenAndCalibrated :
    ((i1.hears 5 = true) ∧ (headSetOf 5 = some { h0 := true, h1 := false, h2 := true : Heads Bool })
        ∧ ({ h0 := true, h1 := false, h2 := true : Heads Bool }.members = [Head.h0, Head.h2])
        ∧ (checkRefusal { h0 := true, h1 := false, h2 := true : Heads Bool } i1 = none))
      ∧ ((base.running = true) ∧ (base.checker.check = none))
      ∧ (((i2 (CheckStep.calibOn 4901) none).running = true)
        ∧ ((i2 (CheckStep.calibOn 4901) none).checker.check = some (chk (CheckStep.calibOn 4901) none))
        ∧ ((chk (CheckStep.calibOn 4901) none).step = CheckStep.calibOn 4901))
      ∧ (((i2 (CheckStep.calibOn 4901) none).running = true)
        ∧ ((i2 (CheckStep.calibOn 4901) none).checker.check = some (chk (CheckStep.calibOn 4901) none))
        ∧ ((chk (CheckStep.calibOn 4901) none).step = CheckStep.calibOn 4901 ∨ (chk (CheckStep.calibOn 4901) none).step =
          CheckStep.calibOff 4901)
        ∧ ((i2 (CheckStep.calibOn 4901) none).now < 4901 + 100))
      ∧ (((i2 (CheckStep.calibOn 4900) none).running = true)
        ∧ ((i2 (CheckStep.calibOn 4900) none).checker.check = some (chk (CheckStep.calibOn 4900) none))
        ∧ ((chk (CheckStep.calibOn 4900) none).fed = 0 ∧ (chk (CheckStep.calibOn 4900) none).fault = none ∧ (chk
          (CheckStep.calibOn 4900) none).rollEnded = false ∧ (chk (CheckStep.calibOn 4900) none).failSeen = none ∧ (chk
          (CheckStep.calibOn 4900) none).cutResult = none ∧ (chk (CheckStep.calibOn 4900) none).rows = Heads.all (Rows.all ⟨none, none⟩) ∧ (i2 (CheckStep.calibOn 4900) none).media.owner = Owner.check ∧ (i2 (CheckStep.calibOn 4900)
          none).media.ejecting = none ∧ (i2 (CheckStep.calibOn 4900) none).media.switch = none)
        ∧ ((chk (CheckStep.calibOn 4900) none).step = CheckStep.calibOn 4900)
        ∧ (4900 + 100 ≤ (i2 (CheckStep.calibOn 4900) none).now))
      ∧ (((i2 (CheckStep.calibOff 4900) (some 40)).running = true)
        ∧ ((i2 (CheckStep.calibOff 4900) (some 40)).checker.check = some (chk (CheckStep.calibOff 4900) (some 40)))
        ∧ ((chk (CheckStep.calibOff 4900) (some 40)).fed = 0 ∧ (chk (CheckStep.calibOff 4900) (some 40)).fault = none ∧ (chk
          (CheckStep.calibOff 4900) (some 40)).rollEnded = false ∧ (chk (CheckStep.calibOff 4900) (some 40)).failSeen = none ∧
          (chk (CheckStep.calibOff 4900) (some 40)).cutResult = none ∧ (chk (CheckStep.calibOff 4900) (some 40)).rows =
          Heads.all (Rows.all ⟨none, none⟩) ∧ (i2 (CheckStep.calibOff 4900) (some 40)).media.owner = Owner.check ∧ (i2
          (CheckStep.calibOff 4900) (some 40)).media.ejecting = none ∧ (i2 (CheckStep.calibOff 4900) (some 40)).media.switch =
          none)
        ∧ ((chk (CheckStep.calibOff 4900) (some 40)).step = CheckStep.calibOff 4900)
        ∧ ((chk (CheckStep.calibOff 4900) (some 40)).readOn = some 40)
        ∧ (4900 + 100 ≤ (i2 (CheckStep.calibOff 4900) (some 40)).now))
      ∧ (((i2 (CheckStep.calibOff 4900) (some 40)).running = true)
        ∧ ((i2 (CheckStep.calibOff 4900) (some 40)).checker.check = some (chk (CheckStep.calibOff 4900) (some 40)))
        ∧ ((chk (CheckStep.calibOff 4900) (some 40)).fed = 0 ∧ (chk (CheckStep.calibOff 4900) (some 40)).fault = none ∧ (chk
          (CheckStep.calibOff 4900) (some 40)).rollEnded = false ∧ (chk (CheckStep.calibOff 4900) (some 40)).failSeen = none ∧
          (chk (CheckStep.calibOff 4900) (some 40)).cutResult = none ∧ (chk (CheckStep.calibOff 4900) (some 40)).rows =
          Heads.all (Rows.all ⟨none, none⟩) ∧ (i2 (CheckStep.calibOff 4900) (some 40)).media.owner = Owner.check ∧ (i2
          (CheckStep.calibOff 4900) (some 40)).media.ejecting = none ∧ (i2 (CheckStep.calibOff 4900) (some 40)).media.switch =
          none)
        ∧ ((chk (CheckStep.calibOff 4900) (some 40)).step = CheckStep.calibOff 4900)
        ∧ ((chk (CheckStep.calibOff 4900) (some 40)).readOn = some 40) ∧ (40 < 40 ∨ 199 < 200))
      ∧ (((i2 (CheckStep.calibOff 4900) (some 40)).running = true)
        ∧ ((i2 (CheckStep.calibOff 4900) (some 40)).checker.check = some (chk (CheckStep.calibOff 4900) (some 40)))
        ∧ ((chk (CheckStep.calibOff 4900) (some 40)).fed = 0 ∧ (chk (CheckStep.calibOff 4900) (some 40)).fault = none ∧ (chk
          (CheckStep.calibOff 4900) (some 40)).rollEnded = false ∧ (chk (CheckStep.calibOff 4900) (some 40)).failSeen = none ∧
          (chk (CheckStep.calibOff 4900) (some 40)).cutResult = none ∧ (chk (CheckStep.calibOff 4900) (some 40)).rows =
          Heads.all (Rows.all ⟨none, none⟩) ∧ (i2 (CheckStep.calibOff 4900) (some 40)).media.owner = Owner.check ∧ (i2
          (CheckStep.calibOff 4900) (some 40)).media.ejecting = none ∧ (i2 (CheckStep.calibOff 4900) (some 40)).media.switch =
          none)
        ∧ ((chk (CheckStep.calibOff 4900) (some 40)).step = CheckStep.calibOff 4900)
        ∧ ((chk (CheckStep.calibOff 4900) (some 40)).readOn = some 40) ∧ (40 ≤ 40) ∧ (200 ≤ 200)
        ∧ ((i2 (CheckStep.calibOff 4900) (some 40)).feed.move = none)
        ∧ (threadedSlot (i2 (CheckStep.calibOff 4900) (some 40)).media = some Slot.s1)
        ∧ (slotProfile (i2 (CheckStep.calibOff 4900) (some 40)) Slot.s1 = some
          { name := Store.normal.profile0.name, sProfile := Store.normal.profile0.sProfile, skewLimit := Store.normal.profile0.skewLimit, tracking := false, baseDry := Store.normal.profile0.baseDry, dryCoeff := Store.normal.profile0.dryCoeff, freshTrim := Store.normal.profile0.freshTrim, rethreadTrim := Store.normal.profile0.rethreadTrim, margin := Store.normal.profile0.margin : Profile })
        ∧ (forwardCounts 10000 (i2 (CheckStep.calibOff 4900) (some 40)).feed.k (clampInt (-20000) 20000
          ({ name := Store.normal.profile0.name, sProfile := Store.normal.profile0.sProfile, skewLimit := Store.normal.profile0.skewLimit, tracking := false, baseDry := Store.normal.profile0.baseDry, dryCoeff := Store.normal.profile0.dryCoeff, freshTrim := Store.normal.profile0.freshTrim, rethreadTrim := Store.normal.profile0.rethreadTrim, margin := Store.normal.profile0.margin : Profile }.sProfile + (i2 (CheckStep.calibOff 4900) (some 40)).feed.sHost + (i2 (CheckStep.calibOff 4900) (some 40)).feed.sTrack)) (i2 (CheckStep.calibOff 4900) (some 40)).feed.r ≠ 0)
        ∧ ({ name := Store.normal.profile0.name, sProfile := Store.normal.profile0.sProfile, skewLimit := Store.normal.profile0.skewLimit, tracking := false, baseDry := Store.normal.profile0.baseDry, dryCoeff := Store.normal.profile0.dryCoeff, freshTrim := Store.normal.profile0.freshTrim, rethreadTrim := Store.normal.profile0.rethreadTrim, margin := Store.normal.profile0.margin : Profile }.tracking = false)) := by
  constructorm* _ ∧ _ <;> decide

/-- The samples of one lane: lead-in, `bad` slots below Tw, `weak` ones below Ts, the good ones, the gap and the closing bar. -/
def lane (bad weak lead gap bar : Nat) : List Nat :=
  List.replicate 8 lead ++ List.replicate bad 5 ++ List.replicate weak 100 ++ List.replicate (1024 - bad - weak) 200
    ++ List.replicate 4 gap ++ [bar]
def i3m (x0 x1 : List Nat) : CarMove :=
  { CarMove.fresh .check (.checkScan .h1) with
    phase := .returning 4500, acted := true, scan := ⟨.r1, false, [], some x0, some x1⟩ }
def i3c : Check :=
  ⟨9, Heads.all true, 60, 140, 4, 16, true, .h1, none, .scan, 40000, Heads.all (Rows.all ⟨none, some .framing⟩), Chans.all 0, none,
    none, false, Heads.all 0, some 4, false, false, none⟩
/-- A check of three heads whose carriage is about to be home after the scan of head 1, in state `e`, with `left` µm on the roll. -/
def i3 (x0 x1 : List Nat) (e : Escalation) (left : Option Nat) (tank : Bool) : State :=
  onChecker (fun x => { x with check := some i3c, escalation := x.escalation.set .h1 e })
    (onMedia (fun m => { m with rolls := ⟨{ roll .threaded with remaining := left }, Roll.none⟩, owner := .check })
      (onStation (fun t => { t with waste := if tank then ⟨some ⟨0, 200000000, 0⟩, 0, .normal⟩ else t.waste })
        (onCar (fun c => { c with state := .serviceMove, claims := ⟨false, true, false⟩, move := some (i3m x0 x1) })
          { supplied with media := threaded.media })))

theorem meets_CheckScanIsJudged (x0 x1 : List Nat) (e : Escalation) (left : Option Nat) (tank : Bool) :
    (let s := i3 x0 x1 e left tank;
      s.running = true ∧ s.station.car.resetReturn = none ∧ s.station.car.move = some (i3m x0 x1)
        ∧ s.station.car.hold = .none ∧ s.station.car.sled = .still ∧ s.station.car.claims = ⟨false, true, false⟩
        ∧ s.station.service = none ∧ s.checker.check = some i3c ∧ s.media.owner = .check ∧ s.media.seq = none
        ∧ s.media.content ≠ .fault ∧ threadedSlot s.media = some .s1 ∧ s.feed.move = none ∧ Config.kMin ≤ s.feed.k
        ∧ s.sheet.phase = .none ∧ s.sheet.abort = none ∧ s.checker.escalation.get .h1 = e)
      ∧ (i3m x0 x1).requester = .check ∧ (i3m x0 x1).kind = .checkScan .h1 ∧ (i3m x0 x1).phase = .returning 4500
      ∧ (i3m x0 x1).fault = none ∧ (i3m x0 x1).scan.done0 = some x0 ∧ (i3m x0 x1).scan.done1 = some x1 ∧ i3c.step = .scan
      ∧ i3c.head = .h1 ∧ i3c.scanAgain = false ∧ i3c.fault = none ∧ i3c.rollEnded = false ∧ 0 < i3c.fed := by
  refine ⟨⟨rfl, rfl, rfl, rfl, rfl, rfl, rfl, rfl, rfl, rfl, (by intro h; cases h), rfl, rfl,
    (by decide : Config.kMin ≤ base.feed.k), rfl, rfl, rfl⟩, rfl, rfl, rfl, rfl, rfl, rfl, rfl, rfl, rfl, rfl, rfl, by decide⟩

theorem meets_CheckScanIsJudged_lanes :
    (lane 4 16 59 59 140).length = 1037 ∧ (lane 5 17 60 10 139).length = 1037 := by
  constructor <;> simp [lane]

/-- R159 to R166: five OUT nozzles, one above the tolerance, give the next round while 160,000 µm are left. -/
theorem test_round2 :
    leaves .homeReport (i3 (lane 5 3 59 59 140) (lane 4 16 10 10 230) .round1 (some 160000) true)
        (fun s => (s.checker.escalation.h1, s.station.service.map Service.level, (healthRow s .h1 .r0).counts.out))
      = some (.round2, some 2, 5) := by decide +kernel

/-- R160, R165: at both tolerances the head passes, and the next head's pattern follows. -/
theorem test_passes :
    leaves .homeReport (i3 (lane 4 16 10 10 230) (lane 5 0 60 10 230) .round1 none false)
        (fun s => ((s.checker.escalation.h1, (healthRow s .h1 .r0).status, (healthRow s .h1 .r1).status),
          s.checker.check.map (fun c => (c.step, c.head, c.rows.h1))))
      = some ((.ok, .valid, .unchecked),
          some (.pattern, .h2, ⟨⟨some ⟨0, 1004, 16, 4, 0⟩, some .framing⟩, ⟨none, some .background⟩⟩)) := by decide +kernel

theorem meets_MaskWindowsDecideTheNozzles :
    ((base.hears 5 = true) ∧ (mf.enabled = if true = true then 1 else 0)
        ∧ (mf.kind = if MaskKind.force = MaskKind.mask then 0 else 1) ∧ (mf.head = Head.h1.num)
        ∧ (mf.row = Row.r0.num) ∧ (15 ≤ 15) ∧ (mf.base ≤ 1023) ∧ (mf.ignore ≤ 1023))
      ∧ ((base.hears 5 = true)
        ∧ (15 < 16 ∨ 1 < mf.enabled ∨ 1 < mf.kind ∨ 2 < mf.head ∨ 1 < mf.row ∨ 1023 < mf.base ∨ 1023 < mf.ignore))
      ∧ ((base.hears 5 = true)
        ∧ (15 < 15 ∨ 1 < mf2.enabled ∨ 1 < mf2.kind ∨ 2 < mf2.head ∨ 1 < mf2.row ∨ 1023 < mf2.base ∨ 1023 < mf2.ignore)) := by
          decide

/-! ### Statements with a conclusion that is not an equation -/

/-- Entries 14 and 15 take channels 0 and 1 out; both hold a STANDBY bay, channel 0 a stir long due, channel 1 little ink. -/
def twoBack : State :=
  { onPump (fun p => { p with
      chans := (p.chans.set .c0 { Channel.powerOn true false with stirSince := some 0 }).set .c1
        { Channel.powerOn false true with stirSince := some 0 } })
      (onSupply (fun u => { u with
        accepts := u.accepts.map (fun e => { e with chans := Chans.all true, mask := 0xFFFF })
          |>.set 15 ⟨true, .reject, 0, 0xFFFF, ⟨true, true, false, false, false, false⟩, Store.normal.accepts.c0.params⟩
        bays := Chans.all BayRec.vacant |>.map (fun r => ⟨r, r⟩)
          |>.set .c0 ⟨⟨.rejected, some cart, none, none, 0, false, []⟩, BayRec.vacant⟩
          |>.set .c1 ⟨⟨.rejected, some cart, none, none, 0, false, []⟩, BayRec.vacant⟩
        supplied := Chans.all false }) base) with now := 3600000 }

/-- R103: in one event the refill of channel 1 is raised before the stir of channel 0, and so has the pump. -/
theorem test_refill_before_stir :
    leaves (.acceptSet 5 15 ⟨0, 1, 0, 0, 0, 45, 120, 8000, 1800⟩) twoBack
        (fun s => (s.pump.op.map (fun o => (o.chan, o.kind)), s.pump.list.map (fun r => (r.chan, r.kind))))
      = some (some (.c1, .refill), [(.c0, .stir)]) := by decide

/-- R167: a roll end during the strip move gives NO_MEDIA as the first fault, before the cut. -/
theorem test_strip_roll_end :
    leaves (.encoderCount 0)
        (onChecker (fun x => { x with check := some { i3c with step := .strip, stripMade := true, rollEnded := true } })
          (onMedia (fun m => { m with
            rolls := ⟨roll .ended, Roll.none⟩, ejecting := some .s1, owner := .check, content := .clean })
            (onCar (fun c => { c with claims := ⟨false, true, false⟩, state := .open })
              (moving ⟨.check, .check, true, 120000, .strip⟩ 38198 38197 false threaded))))
        (fun s => s.checker.check.map (fun c => (c.step, c.fault))) = some (some (.cut, some .noMedia)) := by decide

/-- R75: a store entry whose enabled bit is clear is loaded enabled. -/
theorem test_store_entries_enabled :
    leaves (.powerOn { Store.normal with accepts := Store.normal.accepts.set .c3 { Store.normal.accepts.c3 with enabled := false } }
      Sensors.none) base (fun s => s.supply.accepts.map Accept.enabled) = some (List.replicate 6 true ++ List.replicate 10 false) := by
        decide

theorem meets_PowerOnTakesTheStore : storeOk Store.normal = true := by decide

theorem meets_StoreFaultStopsTheBlocks :
    storeOk { Store.normal with checkOk := false } = false ∧ a3.phase = .storeFault ∧ runs (exec (.uncap 5) a3) = true := by
      decide

/-- UNCAP with tag 5 as bytes on the line, one a millisecond. -/
def uncapBytes : List (Nat × Byte) := [(10, 0xC3), (11, 0x02), (12, 0x18), (14, 0x05), (16, 0x83), (17, 0x78)]

theorem meets_ReceivedFrameIsTheFrameSent :
    base.link.rx.phase = .hunt ∧ ([] : List Byte).length ≤ 248
      ∧ uncapBytes.map Prod.snd = (Frame.mk .reply (0x18 : Byte).toNat (0x05 : Byte).toNat []).onLine
      ∧ List.IsChain (fun x y => y.1 ≤ x.1 + 2) uncapBytes := by decide

/-- A printer with a sheet, an operation outstanding and notices queued, capped. -/
def busy : State :=
  onSupply (fun u => { u with params := u.params.map (fun p => { p with settle := 0 }) })
    (onCar (fun c => { c with claims := ⟨true, true, true⟩, hold := .waiting, tags := [4], suction := some ⟨.h0, 5, 3⟩ })
      (tanked
        (onLink
          (fun l => { l with
            table := [⟨9, 1, 0⟩], queue := [⟨.event, 0x60, 0, []⟩, ⟨.completion, 0x61, 3, []⟩, ⟨.reply, 0x81, 4, []⟩]
            changed := some ⟨true, true, true, true⟩ })
          (moving ⟨.sheet, .sheet, true, 20000, .swath⟩ 6000 5 true swathing))))

/-- A load under way, the sled on its way, and the slot's switch open. -/
def loading : State :=
  onCar (fun c => { c with state := .open, sled := .raising 4800, tags := [7], claims := ⟨true, false, false⟩ })
    (onMedia (fun m => { m with
      rolls := ⟨roll .standby, Roll.none⟩, owner := .loading, seq := some { c14q with job := .load, step := .edgeSearch } }) base)
/-- A check scan whose first pass has started. -/
def scanning : State :=
  onCar (fun c => { c with
    state := .serviceMove
    move := some { CarMove.fresh .check (.checkScan .h1) with phase := .action 4000, acted := true, scan := ⟨.r0, true, [], none, none⟩ } })
    (onMedia (fun m => { m with owner := .check }) threaded)

theorem meets_ResetGivesUpAndKeeps :
    loading.hears 5 = true ∧ loading.media.ejecting = none ∧ loading.media.content ≠ .fault ∧ loading.station.car.sled ≠ .still
      ∧ scanning.hears 5 = true ∧ scanning.station.car.state = .serviceMove ∧ (threadedSlot scanning.media).isSome
      ∧ (∀ ch, loading.supply.supplied.get ch = false ∧ scanning.supply.supplied.get ch = false)
      ∧ busy.hears 5 = true ∧ busy.station.car.state = .capped ∧ busy.station.car.sled = .still ∧ busy.media.ejecting = none
      ∧ (∀ ch, Config.refillThreshold ≤ (chanRec busy ch).e ∨ busy.supply.supplied.get ch = false)
      ∧ (∀ ch, (busy.supply.params.get ch).settle = 0 ∨ busy.supply.supplied.get ch = false) := by
  constructorm* _ ∧ _ <;> first | decide | (intro ch; cases ch <;> decide)

/-- A reset that finds the sled raising from OPEN, and one that finds it lowering from CAPPED. -/
def raisingSled : State := onCar (fun c => { c with state := .open, sled := .raising 4900 }) base
def loweringSled : State := onCar (fun c => { c with state := .capped, sled := .lowering 4900 }) base

theorem meets_ResetGivesUpAndKeeps_sled :
    raisingSled.hears 5 = true ∧ raisingSled.media.ejecting = none ∧ raisingSled.station.car.sled ≠ .still
      ∧ raisingSled.station.car.state ≠ .capped
      ∧ loweringSled.hears 5 = true ∧ loweringSled.media.ejecting = none ∧ loweringSled.station.car.sled ≠ .still
      ∧ loweringSled.station.car.state = .capped
      ∧ (∀ ch, raisingSled.supply.supplied.get ch = false ∧ loweringSled.supply.supplied.get ch = false) := by
  constructorm* _ ∧ _ <;> first | decide | (intro ch; cases ch <;> decide)

/-- R143: the end of a recovery service is reported with the contents of OP_DONE: outcome, level, mask, heads completed, ending head,
carriage state and serviced. -/
theorem test_serviceReport :
    Report.serviceEnded ⟨.wipeFault, 1, ⟨false, true, false⟩, ⟨false, false, false⟩, some .h1, .open, ⟨0, 0, 819, 820, 0, 0⟩⟩
      ∈ (endService { g11v with by' := .check } .wipeFault (some .h1)
          (Work.of (onCar (fun c => { c with state := .open }) base))).agenda := by decide

/-- A tank memory of 200 ml that says it holds more than it can. -/
def tankBytes : List Byte :=
  u32 200000000 ++ u32 300000000 ++ List.replicate 8 0x42 ++
    [checksum (u32 200000000 ++ u32 300000000 ++ List.replicate 8 0x42)]

theorem meets_TankReadGivesTheWaste_good :
    e7.running = true ∧ e7.supply.bus = [⟨.tank, .read, false⟩] ∧ e7.supply.tank.state = .reading
      ∧ e7.supply.busStart + 20 ≤ e7.now ∧ tankOf tankBytes = some (200000000, 300000000) := by decide

/-- The worked case of Chapter 4 with its roles in channel 2: a REJECT entry for the ACTIVE bay's ink. -/
def withdrawn : Work :=
  Work.of (onSupply (fun u =>
    { u with accepts := u.accepts.set 6 ⟨true, .reject, 0x2301, 0, Chans.all true, ⟨40, 100, 20000, 0⟩⟩ }) e1)

theorem meets_ReevaluationJudgesTheChannel :
    (⟨.c3, .a⟩ : Bay).chan ≠ .c2 ∧ (bayRec withdrawn.supply ⟨.c3, .a⟩).state = .active
      ∧ (bayRec withdrawn.supply ⟨.c2, .a⟩).cart = some e1y ∧ (bayRec withdrawn.supply ⟨.c2, .a⟩).state = .active
      ∧ verdict withdrawn.supply.accepts e1y.ink .c2 = none
      ∧ (bayRec withdrawn.supply ⟨.c2, .b⟩).cart = some e1x ∧ (bayRec withdrawn.supply ⟨.c2, .b⟩).state = .standby
      ∧ verdict withdrawn.supply.accepts e1x.ink .c2 = some 2 := by decide

theorem meets_MaskWindowsDecideTheNozzles_windows :
    (1023 < 1024 ∧ (⟨true, .mask, .h1, .r0, 1023, 0⟩ : MaskWindow).base < 1024) ∧ 60 + 10 ≤ 70 := by decide

/-- A fill whose next pulse comes, with its account balanced. -/
def pulsed : State :=
  { onPump (fun p => { p with chans := p.chans.set .c0 { p.chans.get .c0 with e0 := 11960000 } }) f2 with pending := [.flowPulse] }

theorem meets_StepKeepsTheAccounts :
    (pulsed.inkOk ∧ pulsed.feed.sound ∧ pulsed.station.waste.sound ∧ pulsed.conf.sound) ∧ runs (step pulsed) = true := by
  refine ⟨⟨?_, ?_, ?_, ?_⟩, by decide⟩
  · intro ch; cases ch <;> (unfold Channel.balanced; decide)
  · refine ⟨by decide, by decide, by decide, by decide, by decide, ?_⟩
    intro m hm; cases hm
  · exact (by decide : pulsed.station.waste.level = .none)
  · unfold Conf.sound; decide

theorem meets_StepKeepsOneGrant : pulsed.pump.sound ∧ runs (step pulsed) = true := by
  refine ⟨⟨by decide, ?_, ?_, ?_⟩, by decide⟩
  · intro o _ r hr; have h : pulsed.pump.list = [] := by decide
    rw [h] at hr; cases hr
  · intro ch; cases ch <;> decide
  · intro ch h; cases ch <;> exact absurd h (by decide)

/-- A cutter running under its hold, about to end. -/
def cutting : State := { c9 with pending := [.cutComplete] }

theorem meets_StepKeepsTheCutSafe : cutting.cutOk ∧ runs (step cutting) = true := by
  refine ⟨⟨⟨by decide, by decide, by decide⟩, by decide, by decide⟩, by decide⟩

/-- A request with two operations outstanding. -/
def asking : State := { onLink (fun l => { l with table := [⟨9, 1, 0⟩, ⟨10, 0x18, 0⟩] }) base with pending := [.uncap 5] }

theorem meets_StepKeepsRoomForCompletions : asking.linkOk ∧ runs (step asking) = true := by
  refine ⟨⟨by decide, by decide, by decide, by decide, by decide, by decide⟩, by decide⟩

theorem meets_CartridgeRecordReadsBack_tank :
    (0x14 : Byte) ≠ checksum (cartBody ⟨0x1100, 200000000, 200000000, [0x41, 0x30, 0x30, 0x30, 0x30, 0x30, 0x30, 0x31]⟩)
      ∧ tankOf tankBytes = some (200000000, 300000000) ∧ 4294967295 < 4294967296 := by decide

/-- Channel 0 of `f7` has no ink left: any debit is a DRY clamp. -/
theorem meets_DropsLoseNothing :
    1234567 ≠ 0 ∧ (chanRec f7 .c0).residue < 10000
      ∧ (chanRec f7 .c0).e < (1234567 * (f7.supply.params.get .c0).drop + (chanRec f7 .c0).residue) / 10000 := by decide

end Sys2Proof.Tests
end

section
/-! ## The trailing list and the dry time of a sheet (R59, R62; O31) -/

namespace Sys2Proof.Machine

open Sys2Proof

/-! ### What trimming and appending answer (R59) -/

/-- R59's reason to remove the oldest record, `rest` being the records after it. -/
def OldestIsSpare (rest : List Trail) : Prop := 64 ≤ rest.length ∨ 300000 ≤ (rest.map Trail.advance).sum

theorem trimCondition_iff (t : Trail) (rest : List Trail) :
    (decide (Config.trailingMax < (t :: rest).length) || decide (Config.trailingCover ≤ trailAdvance rest)) = true
      ↔ OldestIsSpare rest := by
  rw [Bool.or_eq_true, decide_eq_true_iff, decide_eq_true_iff]
  exact or_congr_left Nat.lt_succ_iff

theorem trimTrail_of_spare {t : Trail} {rest : List Trail} (h : OldestIsSpare rest) :
    trimTrail (t :: rest) = trimTrail rest :=
  if_pos ((trimCondition_iff t rest).mpr h)

theorem trimTrail_of_needed {t : Trail} {rest : List Trail} (h : ¬ OldestIsSpare rest) :
    trimTrail (t :: rest) = t :: rest :=
  if_neg (mt (trimCondition_iff t rest).mp h)

/-- `newest` is the run of most recent records of `l` that R59 names. -/
def IsTrailingRun (l newest : List Trail) : Prop :=
  ∃ older, l = older ++ newest ∧ newest ≠ [] ∧ newest.length ≤ 64 ∧ (newest.tail.map Trail.advance).sum < 300000
    ∧ (older ≠ [] → 300000 ≤ (newest.map Trail.advance).sum ∨ newest.length = 64)

/-- Records that cannot spare their oldest are their own run. -/
theorem isTrailingRun_self {t : Trail} {rest : List Trail} (h : ¬ OldestIsSpare rest) :
    IsTrailingRun (t :: rest) (t :: rest) := by
  obtain ⟨hlen, hadv⟩ := not_or.mp h
  exact ⟨[], rfl, List.cons_ne_nil _ _, by simp only [List.length_cons]; omega, by simpa using hadv, fun h => absurd rfl h⟩

/-- Removing a spare oldest record leaves the run as it is: where nothing more is removed, what remains covers the length or is
64 records, because the removed record was spare. -/
theorem IsTrailingRun.cons_spare {t : Trail} {rest newest : List Trail} (hs : OldestIsSpare rest)
    (h : IsTrailingRun rest newest) : IsTrailingRun (t :: rest) newest := by
  obtain ⟨older, hsplit, hne, hlen, htail, hfull⟩ := h
  refine ⟨t :: older, by rw [hsplit, List.cons_append], hne, hlen, htail, fun _ => ?_⟩
  by_cases ho : older = []
  · have hrest : rest = newest := by rw [hsplit, ho, List.nil_append]
    rcases hs with hs | hs
    · exact .inr (by rw [hrest] at hs; omega)
    · exact .inl (hrest ▸ hs)
  · exact hfull ho

theorem trimTrail_isTrailingRun {l : List Trail} (hl : l ≠ []) : IsTrailingRun l (trimTrail l) := by
  induction l with
  | nil => exact absurd rfl hl
  | cons t rest ih =>
    by_cases hs : OldestIsSpare rest
    · have hne : rest ≠ [] := by rintro rfl; simp [OldestIsSpare] at hs
      rw [trimTrail_of_spare hs]
      exact (ih hne).cons_spare hs
    · rw [trimTrail_of_needed hs]
      exact isTrailingRun_self hs

theorem addTrail_isTrailingRun (t : Trail) (l : List Trail) : IsTrailingRun (l ++ [t]) (addTrail t l) :=
  trimTrail_isTrailingRun (by simp)

/-! ### What opening a sheet leaves of its record (R39, R49, R52) -/

@[simp] theorem testHold_sheet (w : Work) : (testHold w).sheet = w.sheet := by
  unfold testHold
  dsimp only
  split <;> simp

@[simp] theorem askHold_sheet (w : Work) : (askHold w).sheet = w.sheet := by
  unfold askHold
  split <;> simp

/-- A request for a cut leaves the sheet record to its owner. -/
@[simp] theorem requestCut_sheet (o : Owner) (p : Piece) (w : Work) : (requestCut o p w).sheet = w.sheet := by
  unfold requestCut
  split <;> simp

@[simp] theorem endMove_sheet (m : Move) (o : MoveOutcome) (x : Option Nat) (w : Work) :
    (endMove m o x w).sheet = w.sheet := rfl

/-- A move that starts, or ends at once, is the drive's own record and a report. -/
@[simp] theorem startMove_sheet (q : MoveAsk) (w : Work) : (startMove q w).sheet = w.sheet := by
  unfold startMove
  dsimp only
  split_ifs <;> simp

/-- A move is asked of the feed drive, which tells of its end by a report: the sheet record is as it was. -/
@[simp] theorem askMove_sheet (q : MoveAsk) (w : Work) : (askMove q w).sheet = w.sheet := by
  unfold askMove
  split <;> simp

@[simp] theorem sheetMove_sheet (p : Purpose) (a : Nat) (w : Work) : (sheetMove p a w).sheet = w.sheet :=
  askMove_sheet _ w

/-- With no swath and no close there is nothing to look at (R57, R60). -/
theorem sheetLook_idle {w : Work} (hq : w.sheet.queue = []) (hc : w.sheet.close = none) : sheetLook w = w := by
  simp [sheetLook, headReady, closeReady, hq, hc]

@[simp] theorem openDone_sheet (tag : Nat) (w : Work) : (openDone tag w).sheet = w.sheet := rfl

/-- A sheet with no swath and no close yet keeps its trailing list when the margin is done. -/
theorem marginDone_trailing {w : Work} (hq : w.sheet.queue = []) (hc : w.sheet.close = none) :
    (marginDone w).sheet.trailing = w.sheet.trailing := by
  unfold marginDone
  dsimp only
  split
  all_goals
    rw [sheetLook_idle (by simpa using hq) (by simpa using hc)]
    simp

theorem feedMargin_trailing {w : Work} (hq : w.sheet.queue = []) (hc : w.sheet.close = none) :
    (feedMargin w).sheet.trailing = w.sheet.trailing := by
  unfold feedMargin
  split
  next => exact marginDone_trailing hq hc
  next => simp

theorem beginSheet_trailing (q : OpenReq) (w : Work) : (beginSheet q w).sheet.trailing = [] := by
  unfold beginSheet
  dsimp only
  split
  next => simp [openRecord, Sheet.none]
  next => exact feedMargin_trailing rfl rfl

/-! ### The dry time (R62) -/

/-- The zone and its ink are the sums over the trailing list. -/
theorem dryTime_eq (base coeff width : Nat) (l : List Trail) :
    dryTime base coeff width l
      = min 600000 (base
        + (if (l.map Trail.advance).sum = 0 then 0
            else min 10000 ((l.map Trail.ink).sum * 100000000 / (width * (l.map Trail.advance).sum))) * coeff) := rfl

/-- Settles O31: the run by induction on the records (`trimTrail_isTrailingRun`), the opening through the record it sets
(`beginSheet_trailing`). -/
theorem trailingListIsTheShortestRun : Obligations.TrailingListIsTheShortestRun := by
  refine ⟨fun l t => ?_, beginSheet_trailing, dryTime_eq⟩
  obtain ⟨older, hsplit, hrun⟩ := addTrail_isTrailingRun t l
  exact ⟨older, addTrail t l, hsplit, rfl, hrun⟩

end Sys2Proof.Machine
end

section
/-! ## The verdict on an ink code (R76, R77; O33) -/

namespace Sys2Proof.Machine

open Sys2Proof

/-! ### What an entry matches (R76) -/

/-- A difference that the mask covers is a difference in masked bits only. -/
theorem xor_or_eq_right_iff (c code mask : Nat) :
    (c ^^^ code) ||| mask = mask ↔ ∀ i, mask.testBit i = false → c.testBit i = code.testBit i := by
  rw [Nat.eq_iff_testBit_eq]
  refine forall_congr' fun i => ?_
  rw [Nat.testBit_or, Nat.testBit_xor]
  cases mask.testBit i <;> simp

theorem entryMatches_iff (e : Accept) (c : Nat) (ch : Chan) :
    entryMatches e c ch = true ↔
      e.enabled = true ∧ e.chans.get ch = true ∧ ∀ i, e.mask.testBit i = false → c.testBit i = e.code.testBit i := by
  unfold entryMatches
  rw [Bool.and_eq_true, Bool.and_eq_true, beq_iff_eq, xor_or_eq_right_iff, and_assoc]

/-! ### The two branches of the verdict (R77) -/

/-- A REJECT entry of the table matches: R77's first case. -/
def RejectMatches (table : List Accept) (c : Nat) (ch : Chan) : Prop :=
  ∃ e ∈ table, e.kind = .reject ∧ entryMatches e c ch = true

theorem not_rejectMatches_iff {table : List Accept} {c : Nat} {ch : Chan} :
    ¬ RejectMatches table c ch ↔ ∀ e ∈ table, e.kind = .reject → entryMatches e c ch = false := by
  simp [RejectMatches]

/-- The test that `verdict` makes is R77's first case. -/
theorem any_reject_iff (table : List Accept) (c : Nat) (ch : Chan) :
    table.any (fun e => e.kind = .reject && entryMatches e c ch) = true ↔ RejectMatches table c ch := by
  simp [RejectMatches]

theorem verdict_of_rejectMatches {table : List Accept} {c : Nat} {ch : Chan} (h : RejectMatches table c ch) :
    verdict table c ch = none :=
  if_pos ((any_reject_iff table c ch).mpr h)

theorem verdict_of_not_rejectMatches {table : List Accept} {c : Nat} {ch : Chan} (h : ¬ RejectMatches table c ch) :
    verdict table c ch = table.findIdx? (fun e => e.kind = .accept && entryMatches e c ch) :=
  if_neg (mt (any_reject_iff table c ch).mp h)

/-! ### When the verdict is reject, and when it names an entry (R77) -/

theorem verdict_eq_none_iff (table : List Accept) (c : Nat) (ch : Chan) :
    verdict table c ch = none ↔
      RejectMatches table c ch ∨ ∀ e ∈ table, e.kind = .accept → entryMatches e c ch = false := by
  by_cases h : RejectMatches table c ch
  · simp [verdict_of_rejectMatches h, h]
  · rw [verdict_of_not_rejectMatches h, List.findIdx?_eq_none_iff]
    simp [h]

/-- No REJECT entry matches, and entry `i` is an ACCEPT entry that matches with none such below it. -/
theorem verdict_eq_some_iff (table : List Accept) (c i : Nat) (ch : Chan) :
    verdict table c ch = some i ↔
      ¬ RejectMatches table c ch
        ∧ (∃ e, table[i]? = some e ∧ e.kind = .accept ∧ entryMatches e c ch = true)
        ∧ ∀ j e, j < i → table[j]? = some e → e.kind = .accept → entryMatches e c ch = false := by
  by_cases h : RejectMatches table c ch
  · simp [verdict_of_rejectMatches h, h]
  · rw [verdict_of_not_rejectMatches h, List.findIdx?_eq_some_iff_getElem]
    simp only [h, not_false_eq_true, true_and]
    constructor
    · rintro ⟨hi, hmatch, hbelow⟩
      refine ⟨⟨table[i], List.getElem?_eq_getElem hi, by simpa using hmatch⟩, fun j e hj he hkind => ?_⟩
      obtain ⟨hlt, rfl⟩ := List.getElem?_eq_some_iff.mp he
      simpa [hkind] using hbelow j hj
    · rintro ⟨⟨e, he, hmatch⟩, hbelow⟩
      obtain ⟨hi, rfl⟩ := List.getElem?_eq_some_iff.mp he
      exact ⟨hi, by simpa using hmatch, fun j hj => by
        simpa using hbelow j _ hj (List.getElem?_eq_getElem (hj.trans hi))⟩

/-- Settles O33: the match bit by bit (`entryMatches_iff`), the verdict by whether a REJECT entry matches
(`verdict_eq_none_iff`, `verdict_eq_some_iff`). -/
theorem verdictFollowsTheTable : Obligations.VerdictFollowsTheTable := by
  refine ⟨entryMatches_iff, verdict_eq_none_iff, fun table c i ch => ?_⟩
  rw [verdict_eq_some_iff, not_rejectMatches_iff]

end Sys2Proof.Machine
end

section
/-! ## The debit of drops (R94, R95; O45) -/

namespace Sys2Proof.Machine

open Sys2Proof

/-! ### The ink account of a state, and one rule per record update -/

/-- A channel record less what the pump's requests and the ink hold keep in it. -/
def Channel.ink (c : Channel) : Channel := { c with hold := false, stirSince := none, follow := none }

/-- What a debit of drops reads and writes: the channel parameters, and each channel's estimate, tallies, residue and DRY flag. -/
def inkAccount (s : State) : Chans Params × Chans Channel := (s.supply.params, s.pump.chans.map Channel.ink)

theorem inkAccount_snd_get (s : State) (ch : Chan) : (inkAccount s).2.get ch = (chanRec s ch).ink := by
  simp [inkAccount, chanRec]

theorem Chans.map_set {α β : Type} (f : α → β) (x : Chans α) (i : Chan) (v : α) :
    (x.set i v).map f = (x.map f).set i (f v) := by cases i <;> rfl

/-- A change of one record enters the account with what it leaves of the ink. -/
theorem inkAccount_modChan (ch : Chan) (f : Channel → Channel) (w : Work) :
    inkAccount (modChan ch f w).toState
      = ((inkAccount w.toState).1, (inkAccount w.toState).2.set ch (f (chanRec w.toState ch)).ink) := by
  simp [inkAccount, Chans.map_set, chanRec]

theorem modChan_eq_self {ch : Chan} {f : Channel → Channel} {w : Work} (hf : f (chanRec w.toState ch) = chanRec w.toState ch) :
    modChan ch f w = w := by
  have hset : w.pump.chans.set ch (f (w.pump.chans.get ch)) = w.pump.chans := by rw [← chanRec, hf, chanRec, Chans.set_get]
  rw [modChan, modPump, hset]

theorem inkAccount_modChan_of_ink {ch : Chan} {f : Channel → Channel} {w : Work}
    (hf : (f (chanRec w.toState ch)).ink = (chanRec w.toState ch).ink) :
    inkAccount (modChan ch f w).toState = inkAccount w.toState := by
  rw [inkAccount_modChan, hf, ← inkAccount_snd_get, Chans.set_get]

@[simp] theorem inkAccount_stirSince (ch : Chan) (t : Option Nat) (w : Work) :
    inkAccount (modChan ch (fun c => { c with stirSince := t }) w).toState = inkAccount w.toState :=
  inkAccount_modChan_of_ink rfl

@[simp] theorem inkAccount_follow (ch : Chan) (g : Channel → Option FollowOn) (w : Work) :
    inkAccount (modChan ch (fun c => { c with follow := g c }) w).toState = inkAccount w.toState :=
  inkAccount_modChan_of_ink rfl

@[simp] theorem inkAccount_hold (ch : Chan) (v : Bool) (w : Work) :
    inkAccount (modChan ch (fun c => { c with hold := v }) w).toState = inkAccount w.toState :=
  inkAccount_modChan_of_ink rfl

@[simp] theorem inkAccount_list (g : Pump → List PumpReq) (w : Work) :
    inkAccount (modPump (fun p => { p with list := g p }) w).toState = inkAccount w.toState := rfl

@[simp] theorem inkAccount_setOp (op : Option PumpOp) (w : Work) :
    inkAccount (setOp op w).toState = inkAccount w.toState := rfl

@[simp] theorem inkAccount_setValve (ch : Chan) (v : Valve) (w : Work) :
    inkAccount (setValve ch v w).toState = inkAccount w.toState := rfl

@[simp] theorem inkAccount_setBay (b : Bay) (r : BayRec) (w : Work) :
    inkAccount (setBay b r w).toState = inkAccount w.toState := rfl

theorem inkAccount_when (c : Bool) (f : Work → Work) (w : Work) :
    inkAccount (when c f w).toState = if c then inkAccount (f w).toState else inkAccount w.toState := by
  cases c <;> rfl

/-- The completions of waiting requests are notices. -/
@[simp] theorem forEach_opDone_toState (kind : Nat) (o : Code) (d : List Byte) (tags : List Nat) (w : Work) :
    (forEach tags (fun t => opDone kind t o d) w).toState = w.toState := by
  induction tags generalizing w with
  | nil => rfl
  | cons t tags ih => rw [forEach_cons, ih, opDone_toState]

/-! ### The end of an operation, the arbiter and a request leave the account (R104, R106, R113, R114) -/

@[simp] theorem inkAccount_writeBack (b : Bay) (w : Work) : inkAccount (writeBack b w).toState = inkAccount w.toState := by
  unfold writeBack
  split <;> rfl

@[simp] theorem inkAccount_fillWriteBacks (ch : Chan) (w : Work) :
    inkAccount (fillWriteBacks ch w).toState = inkAccount w.toState := by
  simp [fillWriteBacks, clearMark, inkAccount_when]

@[simp] theorem inkAccount_endFill (op : PumpOp) (o : Code) (w : Work) :
    inkAccount (endFill op o w).toState = inkAccount w.toState := by
  simp [endFill, pumpStops, inkAccount_when]

@[simp] theorem inkAccount_enterFollowOn (ch : Chan) (w : Work) :
    inkAccount (enterFollowOn ch w).toState = inkAccount w.toState := by
  unfold enterFollowOn
  split <;> simp

@[simp] theorem inkAccount_endStir (op : PumpOp) (o : Code) (resets : Bool) (w : Work) :
    inkAccount (endStir op o resets w).toState = inkAccount w.toState := by
  simp [endStir, pumpStops, inkAccount_when]

@[simp] theorem inkAccount_nextStroke (op : PumpOp) (w : Work) :
    inkAccount (nextStroke op w).toState = inkAccount w.toState := rfl

@[simp] theorem inkAccount_grantEntry (r : PumpReq) (w : Work) :
    inkAccount (grantEntry r w).toState = inkAccount w.toState := by
  unfold grantEntry
  dsimp only
  split_ifs <;> simp

@[simp] theorem inkAccount_grant (w : Work) : inkAccount (grant w).toState = inkAccount w.toState := by
  unfold grant
  split
  next => rfl
  next => split <;> simp

@[simp] theorem inkAccount_raiseEntry (ch : Chan) (k : PumpKind) (tags : List Nat) (svc : Bool) (w : Work) :
    inkAccount (raiseEntry ch k tags svc w).toState = inkAccount w.toState := by
  unfold raiseEntry
  split <;> simp

@[simp] theorem inkAccount_raise (ch : Chan) (k : PumpKind) (tags : List Nat) (svc : Bool) (w : Work) :
    inkAccount (raise ch k tags svc w).toState = inkAccount w.toState := by
  unfold raise
  split
  next => split_ifs <;> simp
  next => simp

@[simp] theorem inkAccount_lookRefill (ch : Chan) (w : Work) :
    inkAccount (lookRefill ch w).toState = inkAccount w.toState := by
  simp [lookRefill, inkAccount_when]

/-! ### What follows a change of E writes the DRY flag and no more (R96, R97, R100) -/

@[simp] theorem inkAccount_setHold (ch : Chan) (v : Bool) (w : Work) :
    inkAccount (setHold ch v w).toState = inkAccount w.toState := by
  unfold setHold
  split <;> simp

/-- Whether or not the flag changes, the record then holds it. -/
theorem inkAccount_setDry (ch : Chan) (v : Bool) (w : Work) :
    inkAccount (setDry ch v w).toState = inkAccount (modChan ch (fun c => { c with dry := v }) w).toState := by
  unfold setDry
  split
  next h => rw [h, inkAccount_modChan_of_ink rfl]
  next => simp

/-- The channel's record after a change of E, less its requests and its hold. -/
theorem ink_levelChanged (ch : Chan) (clamped : Bool) (w : Work) :
    (chanRec (levelChanged ch clamped w).toState ch).ink
      = { (chanRec w.toState ch).ink with
          dry := clamped || dryAfter (chanRec w.toState ch).e (chanRec w.toState ch).dry } := by
  rw [← inkAccount_snd_get, levelChanged, inkAccount_lookRefill, inkAccount_setHold, inkAccount_setDry, inkAccount_snd_get,
    chanRec_modChan_same]
  rfl

theorem levelChanged_params (ch : Chan) (clamped : Bool) (w : Work) :
    (levelChanged ch clamped w).supply.params = w.supply.params :=
  calc
    _ = (inkAccount (levelChanged ch clamped w).toState).1 := rfl
    _ = (inkAccount w.toState).1 := by
      rw [levelChanged, inkAccount_lookRefill, inkAccount_setHold, inkAccount_setDry, inkAccount_modChan]

/-! ### One debit (R94, R95) -/

section
variable (t : Tally) (v : Nat) (c : Channel)

theorem debitChannel_zero : debitChannel t 0 c = c := by
  cases t <;> simp [debitChannel, addTally]

/-- A debit on the record, whether or not E covers it: E down to 0, one tally up, a shortfall to reconcile (R95). -/
theorem debitChannel_eq :
    debitChannel t v c
      = { c with
          e := c.e - v
          printed := c.printed + (if t = .printed then v else 0)
          serviced := c.serviced + (if t = .serviced then v else 0)
          reconcile := c.reconcile + ((v - c.e : Nat) : Int) } := by
  unfold debitChannel
  split
  next h => cases t <;> simp [addTally, Nat.sub_eq_zero_of_le h]
  next h => cases t <;> simp [addTally, Nat.sub_eq_zero_of_le (Nat.le_of_not_le h)]

end

theorem debitVolume_params (t : Tally) (ch : Chan) (v : Nat) (w : Work) :
    (debitVolume t ch v w).supply.params = w.supply.params := by
  unfold debitVolume
  dsimp only
  split
  next => rfl
  next => rw [levelChanged_params, modChan_supply]

/-- A debit leaves in the record what R95 says, with the DRY flag set where E fell short. -/
theorem ink_debitVolume (t : Tally) (ch : Chan) (v : Nat) (w : Work) :
    ∃ dry, (chanRec (debitVolume t ch v w).toState ch).ink = { (debitChannel t v (chanRec w.toState ch)).ink with dry := dry }
      ∧ ((chanRec w.toState ch).e < v → dry = true) := by
  unfold debitVolume
  dsimp only
  split
  next h =>
    subst h
    exact ⟨(chanRec w.toState ch).dry, by rw [debitChannel_zero]; rfl, fun h => absurd h (Nat.not_lt_zero _)⟩
  next =>
    have h := ink_levelChanged ch (decide ((chanRec w.toState ch).e < v)) (modChan ch (debitChannel t v) w)
    rw [chanRec_modChan_same] at h
    exact ⟨_, h, fun hlt => by simp [hlt]⟩

/-- No drops are no debit: the residue is written as it was. -/
theorem debitDrops_zero (t : Tally) (ch : Chan) (w : Work) : debitDrops t ch 0 w = (0, w) := by
  have hsame : modChan ch (fun c => { c with residue := (chanRec w.toState ch).residue }) w = w := modChan_eq_self rfl
  simp [debitDrops, dropVolume, dropResidue, debitVolume, hsame]

/-- The record a debit of drops leaves, its requests and its hold aside: the residue of the conversion, then R95's debit. -/
theorem ink_debitDrops (t : Tally) (ch : Chan) (drops : Nat) (w : Work) :
    ∃ dry, (chanRec (debitDrops t ch drops w).2.toState ch).ink
        = { (debitChannel t (dropVolume w.toState ch drops)
              { chanRec w.toState ch with residue := dropResidue w.toState ch drops }).ink with dry := dry }
      ∧ ((chanRec w.toState ch).e < dropVolume w.toState ch drops → dry = true) := by
  have h := ink_debitVolume t ch (dropVolume w.toState ch drops)
    (modChan ch (fun c => { c with residue := dropResidue w.toState ch drops }) w)
  rwa [chanRec_modChan_same] at h

theorem debitDrops_residue (t : Tally) (ch : Chan) (drops : Nat) (w : Work) :
    (chanRec (debitDrops t ch drops w).2.toState ch).residue = dropResidue w.toState ch drops := by
  obtain ⟨dry, h, -⟩ := ink_debitDrops t ch drops w
  rw [debitChannel_eq] at h
  exact congrArg Channel.residue h

/-- R95's clauses one by one, for the volume of the conversion. -/
theorem debitDrops_account (t : Tally) (ch : Chan) (drops : Nat) (w : Work) :
    let c := chanRec w.toState ch
    let v := dropVolume w.toState ch drops
    let after := chanRec (debitDrops t ch drops w).2.toState ch
    after.e = c.e - v ∧ after.printed = c.printed + (if t = .printed then v else 0)
      ∧ after.serviced = c.serviced + (if t = .serviced then v else 0)
      ∧ after.reconcile = c.reconcile + ((v - c.e : Nat) : Int) ∧ (c.e < v → after.dry = true) := by
  obtain ⟨dry, h, hdry⟩ := ink_debitDrops t ch drops w
  rw [debitChannel_eq] at h
  exact ⟨congrArg Channel.e h, congrArg Channel.printed h, congrArg Channel.serviced h, congrArg Channel.reconcile h,
    fun hlt => (congrArg Channel.dry h).trans (hdry hlt)⟩

theorem debitDrops_params (t : Tally) (ch : Chan) (drops : Nat) (w : Work) :
    (debitDrops t ch drops w).2.supply.params = w.supply.params :=
  debitVolume_params t ch _ _

/-- Volume and residue of a conversion are quotient and rest of its T (R94). -/
theorem dropVolume_add_dropResidue (s : State) (ch : Chan) (drops : Nat) :
    dropVolume s ch drops * 10000 + dropResidue s ch drops = drops * (s.supply.params.get ch).drop + (chanRec s ch).residue := by
  unfold dropVolume dropResidue
  split
  next h => simp [h]
  next => exact Nat.div_add_mod' _ _

theorem dropResidue_lt {s : State} {ch : Chan} (drops : Nat) (h : (chanRec s ch).residue < 10000) :
    dropResidue s ch drops < 10000 := by
  unfold dropResidue
  split
  next => exact h
  next => exact Nat.mod_lt _ (by decide)

/-! ### New parameters leave every record (R82) -/

theorem handParams_pump_chans (ch : Chan) (p : Params) (w : Work) : (handParams ch p w).pump.chans = w.pump.chans := by
  unfold handParams when dropStir
  dsimp only
  split_ifs <;> rfl

theorem takeParams_chanRec (ch other : Chan) (w : Work) :
    chanRec (takeParams ch w).toState other = chanRec w.toState other := by
  unfold takeParams
  split
  next =>
    split
    next => rfl
    next => rw [chanRec, handParams_pump_chans, chanRec]
  next => rfl

/-! ### A run of debits (R94) -/

/-- The next debit of a run: its volume joins those before it. -/
def debitNext (ch : Chan) (x : Nat × Work) (d : Tally × Nat) : Nat × Work :=
  (x.1 + (debitDrops d.1 ch d.2 x.2).1, (debitDrops d.1 ch d.2 x.2).2)

/-- One debit of a run loses nothing: what its volume and the new residue hold is what its drops and the old residue held. -/
theorem debitNext_balance (ch : Chan) (x : Nat × Work) (d : Tally × Nat) :
    (debitNext ch x d).1 * 10000 + (chanRec (debitNext ch x d).2.toState ch).residue
      = x.1 * 10000 + (d.2 * (x.2.supply.params.get ch).drop + (chanRec x.2.toState ch).residue) := by
  rw [← dropVolume_add_dropResidue, ← Nat.add_assoc, ← Nat.add_mul]
  exact congrArg _ (debitDrops_residue d.1 ch d.2 x.2)

theorem debitRun_balance (ch : Chan) (debits : List (Tally × Nat)) (x : Nat × Work) :
    (debits.foldl (debitNext ch) x).1 * 10000 + (chanRec (debits.foldl (debitNext ch) x).2.toState ch).residue
      = x.1 * 10000 + ((debits.map Prod.snd).sum * (x.2.supply.params.get ch).drop + (chanRec x.2.toState ch).residue) := by
  induction debits generalizing x with
  | nil => simp
  | cons d debits ih =>
    have hstep := debitNext_balance ch x d
    have hparams : (debitNext ch x d).2.supply.params = x.2.supply.params := debitDrops_params d.1 ch d.2 x.2
    rw [List.foldl_cons, ih, hparams, List.map_cons, List.sum_cons, Nat.add_mul]
    omega

theorem debitRun_residue_lt (ch : Chan) (debits : List (Tally × Nat)) (x : Nat × Work)
    (h : (chanRec x.2.toState ch).residue < 10000) :
    (chanRec (debits.foldl (debitNext ch) x).2.toState ch).residue < 10000 := by
  induction debits generalizing x with
  | nil => exact h
  | cons d debits ih => exact ih _ ((debitDrops_residue d.1 ch d.2 x.2).trans_lt (dropResidue_lt d.2 h))

/-- Settles O45: one debit by the record it leaves (`debitDrops_residue`, `debitDrops_account`), new parameters by the records
they leave (`takeParams_chanRec`), a run of debits by induction (`debitRun_balance`, `debitRun_residue_lt`). -/
theorem dropsLoseNothing : Obligations.DropsLoseNothing := by
  refine ⟨fun w t ch drops => ⟨?_, fun hn => ?_⟩, fun w ch other => ?_, fun w ch debits => ⟨?_, ?_⟩⟩
  · rintro rfl
    exact debitDrops_zero t ch w
  · have hv : dropVolume w.toState ch drops = dropTotal w.toState ch drops / 10000 := if_neg hn
    have hr : dropResidue w.toState ch drops = dropTotal w.toState ch drops % 10000 := if_neg hn
    have haccount := debitDrops_account t ch drops w
    rw [hv] at haccount
    exact ⟨hv, (debitDrops_residue t ch drops w).trans hr, haccount⟩
  · rw [takeParams_chanRec]
  · exact (debitRun_balance ch debits (0, w)).trans (by rw [Nat.zero_mul, Nat.zero_add])
  · exact debitRun_residue_lt ch debits (0, w)

end Sys2Proof.Machine
end

section
/-! ## The module records (R191; O41) -/

namespace Sys2Proof.Machine

open Sys2Proof

/-! ### Numbers and texts in a record (R188) -/

@[simp] theorem length_leBytes (n v : Nat) : (leBytes n v).length = n := by
  induction n generalizing v with
  | zero => rfl
  | succ n ih => rw [leBytes, List.length_cons, ih]

theorem leNat_leBytes (n v : Nat) : leNat (leBytes n v) = v % 256 ^ n := by
  induction n generalizing v with
  | zero => rw [leBytes, leNat, Nat.pow_zero, Nat.mod_one]
  | succ n ih => rw [leBytes, leNat, ih, BitVec.toNat_ofNat, pow_succ' 256, Nat.mod_mul]

theorem leNat_leBytes_of_lt {n v : Nat} (h : v < 256 ^ n) : leNat (leBytes n v) = v := by
  rw [leNat_leBytes, Nat.mod_eq_of_lt h]

@[simp] theorem length_text (n : Nat) (t : List Byte) : (text n t).length = n := by
  simp [text]

theorem textOf_append_zeros {t : List Byte} (h : textOf t = t) (k : Nat) : textOf (t ++ List.replicate k 0) = t := by
  have hpos : ∀ b ∈ t, (b != 0) = true := List.takeWhile_eq_self_iff.mp h
  rw [textOf, List.takeWhile_append_of_pos hpos, List.takeWhile_replicate_eq_filter]
  simp

/-- A text that fits its field stands there whole. -/
theorem textOf_text {n : Nat} {t : List Byte} (hlen : t.length ≤ n) (h : textOf t = t) : textOf (text n t) = t := by
  rw [text, h, List.take_append, List.take_of_length_le hlen, List.take_replicate]
  exact textOf_append_zeros h _

/-! ### The checksum -/

theorem toNat_checksum (bs : List Byte) : (checksum bs).toNat = (bs.map BitVec.toNat).sum % 256 := by
  rw [checksum, BitVec.toNat_ofNat, ← List.sum_eq_foldl]

/-- Bytes and one more are a record exactly where they have its length and the one more is their checksum. -/
theorem recordOk_append_iff (n : Nat) (bs : List Byte) (x : Byte) :
    recordOk n (bs ++ [x]) = true ↔ bs.length = n ∧ x = checksum bs := by
  rw [recordOk, Bool.and_eq_true, decide_eq_true_iff, decide_eq_true_iff, List.length_append, List.length_singleton,
    Nat.add_right_cancel_iff]
  refine and_congr_right fun hlen => ?_
  rw [List.drop_left' hlen, List.take_left' hlen, List.singleton_inj]

theorem length_of_recordOk {n : Nat} {bs : List Byte} (h : recordOk n bs = true) : bs.length = n + 1 :=
  of_decide_eq_true (Bool.and_eq_true_iff.mp h).1

theorem cartOf_eq_some_iff (bs : List Byte) (c : Cart) :
    cartOf bs = some c ↔ recordOk 18 bs = true
      ∧ (⟨fieldAt bs 0 2, fieldAt bs 2 4, fieldAt bs 6 4, textOf ((bs.drop 10).take 8)⟩ : Cart) = c := by
  rw [cartOf, Option.ite_none_right_eq_some, Option.some_inj]

theorem tankOf_eq_some_iff (bs : List Byte) (capacity content : Nat) :
    tankOf bs = some (capacity, content) ↔ recordOk 16 bs = true ∧ fieldAt bs 0 4 = capacity ∧ fieldAt bs 4 4 = content := by
  rw [tankOf, Option.ite_none_right_eq_some, Option.some_inj, Prod.mk_inj]

theorem cartOf_of_bad_checksum {bs : List Byte} {x : Byte} (h : x ≠ checksum bs) : cartOf (bs ++ [x]) = none :=
  if_neg fun hok => h ((recordOk_append_iff 18 bs x).mp hok).2

theorem tankOf_of_bad_checksum {bs : List Byte} {x : Byte} (h : x ≠ checksum bs) : tankOf (bs ++ [x]) = none :=
  if_neg fun hok => h ((recordOk_append_iff 16 bs x).mp hok).2

/-! ### A cartridge record as it is written

The numbers stand before the text at fixed places, so their windows compute; the text's window has a length that no computation
fixes. -/

/-- Bytes between others are the window of their place and length. -/
theorem take_drop_append_middle {a b : List Byte} {start n : Nat} (c : List Byte) (ha : a.length = start) (hb : b.length = n) :
    ((a ++ b ++ c).drop start).take n = b := by
  rw [List.append_assoc, List.drop_left' ha, List.take_left' hb]

theorem length_cartBody (c : Cart) : (cartBody c).length = 18 := by
  simp [cartBody, u16, u32]

theorem cartOf_cartBody {c : Cart} (hink : c.ink < 65536) (hcap : c.capacity < 4294967296) (hrem : c.remaining < 4294967296)
    (hlen : c.lot.length ≤ 8) (hlot : textOf c.lot = c.lot) : cartOf (cartBody c ++ [checksum (cartBody c)]) = some c := by
  refine (cartOf_eq_some_iff _ _).mpr ⟨(recordOk_append_iff _ _ _).mpr ⟨length_cartBody c, rfl⟩, ?_⟩
  generalize checksum (cartBody c) = x
  have h0 : fieldAt (cartBody c ++ [x]) 0 2 = c.ink := leNat_leBytes_of_lt (n := 2) hink
  have h2 : fieldAt (cartBody c ++ [x]) 2 4 = c.capacity := leNat_leBytes_of_lt (n := 4) hcap
  have h6 : fieldAt (cartBody c ++ [x]) 6 4 = c.remaining := leNat_leBytes_of_lt (n := 4) hrem
  have h10 : ((cartBody c ++ [x]).drop 10).take 8 = text 8 c.lot :=
    take_drop_append_middle [x] (by simp [u16, u32]) (length_text 8 c.lot)
  rw [h0, h2, h6, h10, textOf_text hlen hlot]

/-! ### A write-back

The rewritten four bytes begin at `start` of a memory of `n` bytes and the checksum. -/

section WriteBack

variable {n start : Nat} {image : List Byte}

/-- What `rewrite` leaves before the checksum. -/
def rewriteBody (n start v : Nat) (image : List Byte) : List Byte :=
  image.take start ++ u32 v ++ (image.drop (start + 4)).take (n - (start + 4))

theorem rewrite_eq (n start v : Nat) (image : List Byte) :
    rewrite n start v image = rewriteBody n start v image ++ [checksum (rewriteBody n start v image)] := rfl

theorem length_rewriteBody (v : Nat) (hstart : start + 4 ≤ n) (hlen : image.length = n + 1) :
    (rewriteBody n start v image).length = n := by
  simp only [rewriteBody, u32, List.length_append, List.length_take, List.length_drop, length_leBytes]
  omega

theorem recordOk_rewrite (v : Nat) (hstart : start + 4 ≤ n) (hlen : image.length = n + 1) :
    recordOk n (rewrite n start v image) = true :=
  (recordOk_append_iff _ _ _).mpr ⟨length_rewriteBody v hstart hlen, rfl⟩

/-- The bytes before the four stay. -/
theorem take_rewrite (v : Nat) (hstart : start + 4 ≤ n) (hlen : image.length = n + 1) :
    (rewrite n start v image).take start = image.take start := by
  have hbefore : (image.take start).length = start := List.length_take_of_le (by omega)
  rw [rewrite_eq, rewriteBody, List.append_assoc, List.append_assoc, List.take_left' hbefore]

/-- The four bytes read as the value carried. -/
theorem fieldAt_rewrite {v : Nat} (hv : v < 4294967296) (hstart : start + 4 ≤ n) (hlen : image.length = n + 1) :
    fieldAt (rewrite n start v image) start 4 = v := by
  have hbefore : (image.take start).length = start := List.length_take_of_le (by omega)
  rw [rewrite_eq, rewriteBody, List.append_assoc, fieldAt, u32,
    take_drop_append_middle _ hbefore (length_leBytes 4 v)]
  exact leNat_leBytes_of_lt (n := 4) hv

/-- The bytes after the four, up to the checksum, stay. -/
theorem take_drop_rewrite (v : Nat) (hstart : start + 4 ≤ n) (hlen : image.length = n + 1) :
    ((rewrite n start v image).drop (start + 4)).take (n - (start + 4)) = (image.drop (start + 4)).take (n - (start + 4)) := by
  refine take_drop_append_middle _ ?_ ?_
  · rw [List.length_append, List.length_take_of_le (by omega), u32, length_leBytes]
  · exact List.length_take_of_le (by rw [List.length_drop]; omega)

end WriteBack

/-- A field within the first `k` bytes is theirs. -/
theorem fieldAt_congr_take {p q : List Byte} {k start n : Nat} (h : p.take k = q.take k) (hk : start + n ≤ k) :
    fieldAt p start n = fieldAt q start n := by
  have hfield (r : List Byte) : (r.drop start).take n = ((r.take k).drop start).take n := by
    rw [List.drop_take, List.take_take, Nat.min_eq_left (by omega)]
  rw [fieldAt, fieldAt, hfield p, hfield q, h]

theorem cartOf_rewrite {image : List Byte} {c : Cart} {v : Nat} (h : cartOf image = some c) (hv : v < 4294967296) :
    cartOf (rewrite 18 6 v image) = some { c with remaining := v } := by
  obtain ⟨hok, rfl⟩ := (cartOf_eq_some_iff image c).mp h
  have hlen := length_of_recordOk hok
  have hbefore := take_rewrite (start := 6) v (by decide) hlen
  have hafter : ((rewrite 18 6 v image).drop 10).take 8 = (image.drop 10).take 8 :=
    take_drop_rewrite (start := 6) v (by decide) hlen
  refine (cartOf_eq_some_iff _ _).mpr ⟨recordOk_rewrite v (by decide) hlen, ?_⟩
  rw [fieldAt_congr_take hbefore (by decide), fieldAt_congr_take (start := 2) hbefore (by decide),
    fieldAt_rewrite hv (by decide) hlen, hafter]

theorem tankOf_rewrite {image : List Byte} {capacity content v : Nat} (h : tankOf image = some (capacity, content))
    (hv : v < 4294967296) : tankOf (rewrite 16 4 v image) = some (capacity, v) := by
  obtain ⟨hok, rfl, rfl⟩ := (tankOf_eq_some_iff image capacity content).mp h
  have hlen := length_of_recordOk hok
  exact (tankOf_eq_some_iff _ _ _).mpr ⟨recordOk_rewrite v (by decide) hlen,
    fieldAt_congr_take (take_rewrite v (by decide) hlen) (by decide), fieldAt_rewrite hv (by decide) hlen⟩

/-- Settles O41: the checksum (`toNat_checksum`, `recordOk_append_iff`), the record as written (`cartOf_cartBody`), the
write-back by what it carries and what it leaves (`fieldAt_rewrite`, `take_rewrite`, `take_drop_rewrite`). -/
theorem cartridgeRecordReadsBack : Obligations.CartridgeRecordReadsBack := by
  refine ⟨toNat_checksum, fun bs x hx => ⟨cartOf_of_bad_checksum hx, tankOf_of_bad_checksum hx⟩,
    fun c => cartOf_cartBody, fun image c v h hv => ?_, fun image capacity content v h hv => ?_⟩
  · have hlen := length_of_recordOk ((cartOf_eq_some_iff image c).mp h).1
    exact ⟨cartOf_rewrite h hv, take_rewrite v (by decide) hlen, take_drop_rewrite (start := 6) v (by decide) hlen⟩
  · have hlen := length_of_recordOk ((tankOf_eq_some_iff image capacity content).mp h).1
    exact ⟨tankOf_rewrite h hv, take_rewrite v (by decide) hlen, take_drop_rewrite (start := 4) v (by decide) hlen⟩

end Sys2Proof.Machine
end

section
/-! ## What an event keeps (O57 to O60): the relation, and the updates that no invariant reads

Every function that an event runs is shown once, in the order of the model's files, to keep what the manual promises of every
state. The invariants are then read off the relation, one by one. -/

namespace Sys2Proof.Machine

open Sys2Proof

-- One proof at a time: waiting threads would not fit the check's memory limit.
set_option Elab.async false

/-- The notice is not READY: only the end of an event gives that one (R182). -/
def Notice.plain : Notice → Bool
  | .ready _ => false
  | .completion _ _ _ | .event _ _ => true

/-- The reply makes an outstanding entry (R175). -/
def Reply.opens (r : Reply) : Prop := r.answer = .started ∨ r.answer = .queued

/-- From `w` to `x` every invariant is kept, the link interface and the phase are left to the end of the event, no READY is given, and
only a long-capable request (`long`) has been answered with an outstanding entry. -/
structure Keeps (long : Bool) (w x : Work) : Prop where
  ink : w.inkOk → x.inkOk
  feed : w.feed.sound → x.feed.sound
  waste : w.station.waste.sound → x.station.waste.sound
  conf : w.conf.sound → x.conf.sound
  pump : w.pump.sound → x.pump.sound
  cut : w.cutOk → x.cutOk
  link : x.link = w.link
  phase : x.phase = w.phase
  outbox : (∀ n ∈ w.outbox, n.plain = true) → ∀ n ∈ x.outbox, n.plain = true
  reply : (∀ r, w.reply = some r → r.opens → long = true) → ∀ r, x.reply = some r → r.opens → long = true

/-- What the relation reads of a work. -/
def Work.kept (w : Work) :=
  (w.feed, w.pump, w.station.waste, w.conf, (w.station.car, w.media.cut, w.station.service.isNone), w.link, w.phase, w.outbox, w.reply)

theorem cutOk_congr {s t : State} (hc : t.station.car = s.station.car) (hm : t.media.cut = s.media.cut)
    (hs : t.station.service.isNone = s.station.service.isNone) (h : s.cutOk) : t.cutOk := by
  obtain ⟨hsound, hrun, hret⟩ := h
  refine ⟨hc ▸ hsound, ?_, fun hr => ?_⟩
  · rw [hm, hc]; exact hrun
  · rw [hc] at hr
    have := hret hr
    rwa [← Option.isNone_iff_eq_none, hs, Option.isNone_iff_eq_none]

namespace Keeps

variable {long : Bool} {v w x y : Work}

theorem refl (long : Bool) (w : Work) : Keeps long w w :=
  ⟨id, id, id, id, id, id, rfl, rfl, id, id⟩

theorem trans (h : Keeps long v w) (k : Keeps long w x) : Keeps long v x where
  ink := k.ink ∘ h.ink
  feed := k.feed ∘ h.feed
  waste := k.waste ∘ h.waste
  conf := k.conf ∘ h.conf
  pump := k.pump ∘ h.pump
  cut := k.cut ∘ h.cut
  link := k.link.trans h.link
  phase := k.phase.trans h.phase
  outbox := k.outbox ∘ h.outbox
  reply := k.reply ∘ h.reply

/-- An update outside what the relation reads. -/
theorem frame (h : Keeps long w x) (hk : y.kept = x.kept := by rfl) : Keeps long w y := by
  simp only [Work.kept, Prod.mk.injEq] at hk
  obtain ⟨hf, hp, hw, hc, ⟨hcar, hcut, hsv⟩, hl, hph, ho, hr⟩ := hk
  refine h.trans ⟨fun k => ?_, fun k => hf ▸ k, fun k => hw ▸ k, fun k => hc ▸ k, fun k => hp ▸ k,
    cutOk_congr hcar hcut hsv, hl, hph, fun k => ho ▸ k, fun k => hr ▸ k⟩
  intro ch; rw [chanRec, hp]; exact k ch

/-! ### One rule per record -/

theorem setFeed {f : Feed} (h : Keeps long w x) (hf : x.feed.sound → f.sound) : Keeps long w { x with feed := f } :=
  h.trans ⟨id, hf, id, id, id, cutOk_congr rfl rfl rfl, rfl, rfl, id, id⟩

theorem setConf {c : Conf} (h : Keeps long w x) (hc : x.conf.sound → c.sound) : Keeps long w { x with conf := c } :=
  h.trans ⟨id, id, id, hc, id, cutOk_congr rfl rfl rfl, rfl, rfl, id, id⟩

/-- An update of the pump's record alone. -/
theorem modPump {f : Pump → Pump} (h : Keeps long w x) (hi : x.inkOk → (modPump f x).inkOk)
    (hp : x.pump.sound → (f x.pump).sound) : Keeps long w (modPump f x) :=
  h.trans ⟨hi, id, id, id, hp, cutOk_congr rfl rfl rfl, rfl, rfl, id, id⟩

/-- An update of the waste estimate alone. -/
theorem setWaste {f : Waste → Waste} (h : Keeps long w x) (hw : x.station.waste.sound → (f x.station.waste).sound) :
    Keeps long w (setStation (fun t => { t with waste := f t.waste }) x) :=
  h.trans ⟨id, id, hw, id, id, cutOk_congr rfl rfl rfl, rfl, rfl, id, id⟩

/-- An update of the carriage record alone. -/
theorem modCar {f : Carriage → Carriage} (h : Keeps long w x) (hc : x.cutOk → (modCar f x).cutOk) :
    Keeps long w (modCar f x) :=
  h.trans ⟨id, id, id, id, id, hc, rfl, rfl, id, id⟩

theorem give {n : Notice} (h : Keeps long w x) (hn : n.plain = true) : Keeps long w (give n x) :=
  h.trans ⟨id, id, id, id, id, cutOk_congr rfl rfl rfl, rfl, rfl, fun k m hm => by
    rcases List.mem_append.mp hm with hm | hm
    · exact k m hm
    · rw [List.mem_singleton.mp hm]; exact hn, id⟩

theorem event {cat : Category} {k : Nat} {items : List Byte} (h : Keeps long w x) : Keeps long w (event cat k items x) :=
  h.give rfl

theorem opDone {k tag : Nat} {o : Code} {d : List Byte} (h : Keeps long w x) : Keeps long w (opDone k tag o d x) :=
  h.give rfl

theorem post {r : Report} (h : Keeps long w x) : Keeps long w (post r x) := h.frame

theorem answerWith {a : Answer} {c : Code} {items : List Byte} {j : Nat} (h : Keeps long w x)
    (ha : a = .started ∨ a = .queued → long = true) : Keeps long w (answerWith a c items j x) :=
  h.trans ⟨id, id, id, id, id, cutOk_congr rfl rfl rfl, rfl, rfl, id, fun _ r hr ho => by
    cases hr; exact ha ho⟩

theorem refuse {c : Code} (h : Keeps long w x) : Keeps long w (refuse c x) := h.answerWith (by simp)
theorem okWith {items : List Byte} (h : Keeps long w x) : Keeps long w (okWith items x) := h.answerWith (by simp)
theorem waitReply (h : Keeps long w x) : Keeps long w (waitReply x) := h.answerWith (by simp)
theorem started {j : Nat} (h : Keeps true w x) : Keeps true w (started j x) := h.answerWith (fun _ => rfl)

/-! ### Conditions and lists -/

theorem when {c : Bool} {f : Work → Work} (h : Keeps long w x) (hf : c = true → Keeps long w (f x)) :
    Keeps long w (when c f x) := by
  cases c with
  | true => exact hf rfl
  | false => exact h

/-- The same where `f` needs nothing of the condition. -/
theorem whenever {c : Bool} {f : Work → Work} (h : Keeps long w x) (hf : ∀ {y}, Keeps long w y → Keeps long w (f y)) :
    Keeps long w (Machine.when c f x) := h.when fun _ => hf h

theorem forEach {α : Type} {f : α → Work → Work} (xs : List α) (h : Keeps long w x)
    (hf : ∀ a {y}, Keeps long w y → Keeps long w (f a y)) : Keeps long w (forEach xs f x) := by
  induction xs generalizing x with
  | nil => exact h
  | cons a xs ih => exact ih (hf a h)

theorem ite {c : Prop} [Decidable c] {a b : Work} (ha : c → Keeps long w a) (hb : ¬c → Keeps long w b) :
    Keeps long w (if c then a else b) := by
  split
  · exact ha ‹_›
  · exact hb ‹_›

/-! ### Records that the relation does not read -/

theorem modMedia {f : Media → Media} (h : Keeps long w x) (hf : (f x.media).cut = x.media.cut := by rfl) :
    Keeps long w (modMedia f x) :=
  h.trans ⟨id, id, id, id, id, cutOk_congr rfl hf rfl, rfl, rfl, id, id⟩

theorem modSheet {f : Sheet → Sheet} (h : Keeps long w x) : Keeps long w (modSheet f x) := h.frame
theorem modChecker {f : Checker → Checker} (h : Keeps long w x) : Keeps long w (modChecker f x) := h.frame
theorem modCheck {f : Check → Check} (h : Keeps long w x) : Keeps long w (modCheck f x) := h.frame
theorem setSupply {f : Supply → Supply} (h : Keeps long w x) : Keeps long w (setSupply f x) := h.frame

/-- A service in progress stays one (Table 7-1). -/
theorem modService {f : Service → Service} (h : Keeps long w x) : Keeps long w (modService f x) :=
  h.frame (by simp [Work.kept])

end Keeps

end Sys2Proof.Machine
end

section
/-! ## What an event keeps (O57 to O60): the feed drive (Chapter 1) -/

namespace Sys2Proof.Machine

open Sys2Proof

set_option Elab.async false

/-- A move in flight is sound, with R and the trims within their limits. -/
theorem Feed.sound.of_move {f g : Feed} (h : f.sound) (hr : g.r < Config.residueScale) (hh : g.sHost = f.sHost)
    (ht : g.sTrack = f.sTrack) (hm : ∀ m, g.move = some m → m.sound) : g.sound := by
  obtain ⟨-, h1, h2, h3, h4, -⟩ := h
  exact ⟨hr, hh ▸ h1, hh ▸ h2, ht ▸ h3, ht ▸ h4, hm⟩

theorem clampInt_mem {lo hi v : Int} (h : lo ≤ hi) : lo ≤ clampInt lo hi v ∧ clampInt lo hi v ≤ hi := by
  unfold clampInt; omega

theorem totalS_mem (s : State) : -Config.totalTrimLimit ≤ totalS s ∧ totalS s ≤ Config.totalTrimLimit :=
  clampInt_mem (by decide)

theorem newResidue_lt (a k : Nat) (sUsed : Int) (r : Nat) : newResidue a k sUsed r < Config.residueScale :=
  Nat.mod_lt _ (by decide)

theorem allowed_of_taken {q : MoveAsk} {s : State} (h : moveAnswer q s = .taken) :
    allowed q.owner q.forward q.purpose = true ∧ lengthOk q.purpose q.a = true := by
  unfold moveAnswer at h
  split at h
  · cases h
  · split at h
    · cases h
    · split at h
      · cases h
      · simp_all

namespace Keeps

variable {long : Bool} {w x : Work}

theorem endMove {m : Move} {o : MoveOutcome} {d : Option Nat} (h : Keeps long w x) : Keeps long w (endMove m o d x) :=
  (h.setFeed (f := { x.feed with move := none }) fun hs => hs.of_move hs.1 rfl rfl (by simp)).post

/-- A move that R1 has taken is sound when it has counts to drive, and otherwise over at once. -/
theorem startMove {q : MoveAsk} (h : Keeps long w x) (hq : allowed q.owner q.forward q.purpose = true)
    (ha : lengthOk q.purpose q.a = true) : Keeps long w (startMove q x) := by
  have hS := totalS_mem x.toState
  unfold Machine.startMove
  split
  · dsimp only
    refine ite (fun _ => h.endMove) fun hc => h.setFeed fun hs => hs.of_move hs.1 rfl rfl ?_
    rintro m ⟨⟩
    exact ⟨hq, ha, by simp at hc ⊢; omega, show -Config.totalTrimLimit ≤ 0 by decide,
      show 0 ≤ Config.totalTrimLimit by decide⟩
  · refine ite (fun _ => h.endMove) fun _ => ?_
    have hr : Keeps long w { x with feed := { x.feed with r := newResidue q.a x.feed.k (totalS x.toState) x.feed.r } } :=
      h.setFeed fun hs => hs.of_move (newResidue_lt ..) rfl rfl hs.2.2.2.2.2
    dsimp only
    refine ite (fun _ => hr.endMove) fun hc => hr.setFeed fun hs => hs.of_move hs.1 rfl rfl ?_
    rintro m ⟨⟩
    exact ⟨hq, ha, by simp at hc ⊢; omega, hS.1, hS.2⟩

theorem askMove {q : MoveAsk} (h : Keeps long w x) : Keeps long w (askMove q x) := by
  unfold Machine.askMove
  split
  · obtain ⟨hq, ha⟩ := allowed_of_taken ‹_›
    exact h.startMove hq ha
  · exact h.setFeed fun hs => hs
  · exact h
  · exact h

theorem askAgainMove (h : Keeps long w x) : Keeps long w (askAgainMove x) := by
  unfold Machine.askAgainMove
  split
  · exact (h.setFeed (f := { x.feed with again := none }) fun hs => hs).askMove
  · exact h

theorem completeMove {m : Move} {d : Nat} (h : Keeps long w x) : Keeps long w (completeMove m d x) := by
  unfold Machine.completeMove
  refine ite (fun _ => h.endMove) fun _ => ite (fun _ => h.endMove) fun _ => endMove (h.setFeed fun hs => ?_)
  obtain ⟨hr, h1, h2, h3, h4, hm⟩ := hs
  have ht : -Config.trackTrimLimit ≤ trackAfter x.feed.sTrack m.ask.a d
      ∧ trackAfter x.feed.sTrack m.ask.a d ≤ Config.trackTrimLimit := by
    unfold trackAfter
    split
    · exact ⟨h3, h4⟩
    · exact clampInt_mem (by decide)
  exact ⟨hr, h1, h2, ht.1, ht.2, hm⟩

theorem countMove {d : Nat} (h : Keeps long w x) : Keeps long w (countMove d x) := by
  unfold Machine.countMove
  split
  · exact h
  · next m hm =>
    dsimp only
    refine ite (fun _ => h.completeMove) fun hc => h.setFeed fun hs => hs.of_move hs.1 rfl rfl ?_
    rintro n ⟨⟩
    obtain ⟨h1, h2, -, h4, h5⟩ := hs.2.2.2.2.2 m hm
    exact ⟨h1, h2, by simpa using hc, h4, h5⟩

theorem stallMove (h : Keeps long w x) : Keeps long w (stallMove x) := by
  unfold Machine.stallMove
  split
  · exact ite (fun _ => h.endMove) fun _ => h
  · exact h

theorem timeoutMove (h : Keeps long w x) : Keeps long w (timeoutMove x) := by
  unfold Machine.timeoutMove
  split
  · exact ite (fun _ => h.endMove) fun _ => h
  · exact h

theorem stopMove {o : Owner} {n : Nat} (h : Keeps long w x) : Keeps long w (stopMove o n x) := by
  unfold Machine.stopMove
  split
  · exact ite (fun _ => h) fun _ => ite (fun _ => h.completeMove) fun _ => h.endMove
  · exact h

theorem feedCut (h : Keeps long w x) : Keeps long w (feedCut x) :=
  h.setFeed fun hs => hs.of_move (show 0 < Config.residueScale by decide) rfl rfl hs.2.2.2.2.2

theorem feedLoaded (h : Keeps long w x) : Keeps long w (feedLoaded x) :=
  h.setFeed fun ⟨_, h1, h2, _, _, hm⟩ => ⟨show 0 < Config.residueScale by decide, h1, h2, show -Config.trackTrimLimit ≤ 0 by decide,
    show 0 ≤ Config.trackTrimLimit by decide, hm⟩

theorem resetFeed (h : Keeps long w x) : Keeps long w (resetFeed x) :=
  h.setFeed fun hs => hs.of_move (show 0 < Config.residueScale by decide) rfl rfl (by simp)

theorem feedTrimSet {v : Int} (h : Keeps long w x) : Keeps long w (feedTrimSet v x) := by
  have hv := clampInt_mem (lo := -Config.hostTrimLimit) (hi := Config.hostTrimLimit) (v := v) (by decide)
  exact okWith (h.setFeed fun ⟨hr, _, _, h3, h4, hm⟩ => ⟨hr, hv.1, hv.2, h3, h4, hm⟩)

end Keeps

end Sys2Proof.Machine
end

section
/-! ## What an event keeps (O57 to O60): the supply bay unit (Chapter 4) -/

namespace Sys2Proof.Machine

open Sys2Proof

set_option Elab.async false

/-- Another operation of the same channel and kind leaves the valves and the list as the pump's order has them. -/
theorem Pump.sound.withOp {p : Pump} {o n : PumpOp} (h : p.sound) (ho : p.op = some o) (hc : n.chan = o.chan)
    (hk : n.kind = o.kind) : Pump.sound { p with op := some n } := by
  obtain ⟨hnd, hl, hv, hf⟩ := h
  refine ⟨hnd, ?_, fun ch => ?_, fun ch hs => ?_⟩
  · rintro m ⟨⟩ r hr
    exact hc ▸ hl o ho r hr
  · rw [hv ch, ho]; simp only [valveFor, hc, hk]
  · obtain ⟨q, hq, hqc, hqk⟩ := hf ch hs
    obtain rfl : o = q := by simpa [ho] using hq
    exact ⟨n, rfl, hc.trans hqc, hk.trans hqk⟩

/-- Entries may leave the list. -/
theorem Pump.sound.filter {p : Pump} (h : p.sound) (f : PumpReq → Bool) : Pump.sound { p with list := p.list.filter f } := by
  obtain ⟨hnd, hl, hv, hf⟩ := h
  exact ⟨hnd.sublist (List.filter_sublist.map _), fun o ho r hr => hl o ho r (List.mem_of_mem_filter hr), hv, hf⟩

/-- W within C_w and last written within W, whatever the level (R131, R132, R134). -/
def Waste.bounded (x : Waste) : Prop :=
  match x.tank with
  | some t => t.w ≤ t.capacity ∧ t.written ≤ t.w
  | none => x.level = .none

theorem Waste.sound.bounded {x : Waste} (h : x.sound) : x.bounded := by
  unfold Waste.sound at h
  unfold Waste.bounded
  split <;> simp_all

namespace Keeps

variable {long : Bool} {w x : Work}

/-! ### The waste estimate takes a tank -/

/-- The level is set anew: only the bounds of the estimate need to hold before it (R133). -/
theorem wasteRelevel {f : Waste → Waste} (h : Keeps long w x) (hf : x.station.waste.sound → (f x.station.waste).bounded) :
    Keeps long w (wasteRelevel (setStation (fun t => { t with waste := f t.waste }) x)) := by
  unfold Machine.wasteRelevel
  split
  · next t ht =>
    refine when (setWaste (f := fun u => { f u with level := wasteLevelOf t.w t.capacity }) h fun hs => ?_) fun _ => event ?_
    · have hb := hf hs
      simp only [setStation_station] at ht
      unfold Waste.bounded at hb
      unfold Waste.sound
      simp_all
    · refine setWaste (f := fun u => { f u with level := wasteLevelOf t.w t.capacity }) h fun hs => ?_
      have hb := hf hs
      simp only [setStation_station] at ht
      unfold Waste.bounded at hb
      unfold Waste.sound
      simp_all
  · next ht =>
    refine h.setWaste fun hs => ?_
    have hb := hf hs
    simp only [setStation_station] at ht
    unfold Waste.bounded at hb
    unfold Waste.sound
    simp_all

theorem wasteTake {c n : Nat} (h : Keeps long w x) : Keeps long w (wasteTake c n x) :=
  h.wasteRelevel (f := fun u => { u with tank := some ⟨min n c, c, min n c⟩ })
    fun _ => ⟨Nat.min_le_right n c, Nat.le_refl _⟩

theorem wasteGone (h : Keeps long w x) : Keeps long w (wasteGone x) :=
  h.setWaste (f := fun u => { u with tank := none, level := .none }) fun _ => rfl

/-! ### Records and the module bus -/

theorem setBay {b : Bay} {r : BayRec} (h : Keeps long w x) : Keeps long w (setBay b r x) := h.setSupply
theorem setBayState {b : Bay} {st : BayState} (h : Keeps long w x) : Keeps long w (setBayState b st x) := h.setBay
theorem setTank {f : Tank → Tank} (h : Keeps long w x) : Keeps long w (setTank f x) := h.setSupply
theorem bayEvent {b : Bay} (h : Keeps long w x) : Keeps long w (bayEvent b x) := h.event
theorem tankEvent (h : Keeps long w x) : Keeps long w (tankEvent x) := h.event
theorem placeOp {o : BusOp} (h : Keeps long w x) : Keeps long w (placeOp o x) := h.setSupply
theorem busNext (h : Keeps long w x) : Keeps long w (busNext x) := h.setSupply
theorem busDrop {t : Target} (h : Keeps long w x) : Keeps long w (busDrop t x) := h.setSupply

theorem writeBack {b : Bay} (h : Keeps long w x) : Keeps long w (writeBack b x) := by
  unfold Machine.writeBack
  split
  · exact h.placeOp
  · exact h

theorem writeWaste {n : Nat} (h : Keeps long w x) : Keeps long w (writeWaste n x) :=
  ite (fun _ => h.placeOp) fun _ => h

/-! ### What the pump hears, selection, parameters, supply state -/

/-- The operation in flight changes, but neither its channel nor its kind. -/
theorem withOp {o n : PumpOp} (h : Keeps long w x) (ho : x.pump.op = some o) (hc : n.chan = o.chan)
    (hk : n.kind = o.kind) : Keeps long w { x with pump := { x.pump with op := some n } } :=
  h.modPump (f := fun p => { p with op := some n }) (fun hi => hi) fun hp => hp.withOp ho hc hk

theorem tellRemoved {b : Bay} (h : Keeps long w x) : Keeps long w (tellRemoved b x) := by
  unfold Machine.tellRemoved
  split
  · next ho => exact ite (fun _ => h.withOp ho rfl rfl) fun _ => h
  · exact h

theorem tellChanged {ch : Chan} (h : Keeps long w x) : Keeps long w (tellChanged ch x) := by
  unfold Machine.tellChanged
  split
  · next ho => exact ite (fun _ => h.withOp ho rfl rfl) fun _ => h
  · exact h

theorem toggleEvent {ch : Chan} {l : Option Letter} {n : Letter} (h : Keeps long w x) : Keeps long w (toggleEvent ch l n x) := h.event

theorem select {ch : Chan} {l : Option Letter} (h : Keeps long w x) : Keeps long w (select ch l x) := by
  unfold Machine.select
  split
  · exact h.setBayState.toggleEvent
  · exact h

theorem dropStir {ch : Chan} (h : Keeps long w x) : Keeps long w (dropStir ch x) :=
  ite (fun _ => post (h.modPump (f := fun p => { p with list := p.list.filter (fun r => !r.bareStir ch) }) (fun hi => hi)
    fun hp => hp.filter _)) fun _ => h

theorem handParams {ch : Chan} {p : Params} (h : Keeps long w x) : Keeps long w (handParams ch p x) := by
  have h1 := h.setSupply (f := fun u => { u with params := u.params.set ch p })
  have h2 := h1.when (c := decide (p.settle = 0) && decide ((x.supply.params.get ch).settle ≠ 0)) fun _ => h1.dropStir (ch := ch)
  exact h2.when fun _ => h2.post

theorem takeParams {ch : Chan} (h : Keeps long w x) : Keeps long w (takeParams ch x) := by
  unfold Machine.takeParams
  split
  · exact ite (fun _ => h) fun _ => h.handParams
  · exact h

theorem setSupplied {ch : Chan} (h : Keeps long w x) : Keeps long w (setSupplied ch x) :=
  ite (fun _ => h) fun _ => when h.setSupply.event.post fun _ => h.setSupply.event.post.post

theorem judged {ch : Chan} (h : Keeps long w x) : Keeps long w (judged ch x) := h.takeParams.setSupplied

/-! ### Bays, the acceptance table, the channel's bay -/

theorem insertBay {s : Bool} {b : Bay} (h : Keeps long w x) : Keeps long w (insertBay s b x) :=
  ite (fun _ => h.setBayState.placeOp.bayEvent) fun _ => h

theorem removeBay {b : Bay} (h : Keeps long w x) : Keeps long w (removeBay b x) :=
  ite (fun _ => h) fun _ => ite (fun _ => h.setBay.busDrop.bayEvent.tellRemoved.select.judged) fun _ => h.setBay.busDrop.bayEvent

theorem bayRead {b : Bay} {a : Option (List Byte)} (h : Keeps long w x) : Keeps long w (bayRead b a x) :=
  ite (fun _ => h) fun _ => h.setBay.bayEvent.judged

theorem reevaluate {ch : Chan} (h : Keeps long w x) : Keeps long w (reevaluate ch x) := by
  unfold Machine.reevaluate
  dsimp only
  generalize (if (activeLetter _ ch).isSome then none else activeLetter x.supply ch) = left
  generalize (if (activeLetter _ ch).isSome then none else selectionOf _ left) = chosen
  cases left <;> cases chosen
  · exact (((h.setSupply.whenever bayEvent).whenever bayEvent).whenever tellChanged).judged
  · exact (((h.setSupply.setBayState.whenever bayEvent).whenever bayEvent).toggleEvent.whenever tellChanged).judged
  · exact (((h.setSupply.whenever bayEvent).whenever bayEvent).writeBack.whenever tellChanged).judged
  · exact (((h.setSupply.setBayState.whenever bayEvent).whenever bayEvent).toggleEvent.writeBack.whenever tellChanged).judged

theorem acceptSet {i : Nat} {f : AcceptFields} (h : Keeps long w x) : Keeps long w (acceptSet i f x) := by
  unfold Machine.acceptSet
  split
  · exact ite (fun _ => h.refuse) fun _ => forEach _ h.okWith.setSupply fun _ _ k => k.reevaluate
  · exact h.refuse

theorem acceptRead {i : Nat} (h : Keeps long w x) : Keeps long w (acceptRead i x) := by
  unfold Machine.acceptRead
  split
  · exact h.okWith
  · exact h.refuse

theorem baySelect {c l : Nat} (h : Keeps long w x) : Keeps long w (baySelect c l x) := by
  unfold Machine.baySelect
  split
  · refine ite (fun _ => h.okWith) fun _ => ite (fun _ => h.refuse) fun _ => ite (fun _ => h.refuse) fun _ => ?_
    dsimp only
    split
    · exact h.okWith.setBayState.setBayState.toggleEvent.takeParams.writeBack.setSupplied
    · exact h.okWith.setBayState.toggleEvent.takeParams.setSupplied
  · exact h.refuse

theorem noFlow {b : Bay} (h : Keeps long w x) : Keeps long w (noFlow b x) :=
  ite (fun _ => h) fun _ => h.setBay.bayEvent.writeBack.select.judged

theorem charge {b : Bay} (h : Keeps long w x) : Keeps long w (charge b x) := by
  unfold Machine.charge
  dsimp only
  split
  · exact h.setBay
  · exact h

theorem clearMark {b : Bay} (h : Keeps long w x) : Keeps long w (clearMark b x) := h.setBay

theorem fillWriteBacks {ch : Chan} (h : Keeps long w x) : Keeps long w (fillWriteBacks ch x) :=
  ((h.whenever writeBack).whenever writeBack).clearMark.clearMark

/-! ### The tank and the ends of the bus operations -/

theorem insertTank {s : Bool} (h : Keeps long w x) : Keeps long w (insertTank s x) :=
  ite (fun _ => h.setTank.placeOp.tankEvent) fun _ => h

theorem removeTank (h : Keeps long w x) : Keeps long w (removeTank x) :=
  ite (fun _ => h) fun _ => h.setTank.busDrop.tankEvent.wasteGone

theorem tankRead {a : Option (List Byte)} (h : Keeps long w x) : Keeps long w (tankRead a x) := by
  unfold Machine.tankRead
  refine ite (fun _ => h) fun _ => ?_
  split
  · exact ite (fun _ => h.setTank.tankEvent.wasteTake) fun _ => h.setTank.tankEvent.event.wasteGone
  · exact h.setTank.tankEvent.event.wasteGone

theorem busRead {a : Option (List Byte)} (h : Keeps long w x) : Keeps long w (busRead a x) := by
  unfold Machine.busRead
  split
  · refine ite (fun _ => ?_) fun _ => h
    split
    · exact h.busNext.bayRead
    · exact h.busNext.tankRead
  · exact h

theorem bayWritten {b : Bay} {n : Nat} {a : Bool} (h : Keeps long w x) : Keeps long w (bayWritten b n a x) :=
  ite (fun _ => h.setBay) fun _ => ite (fun _ => h) fun _ => ite (fun _ => h.setBay.writeBack) fun _ =>
    ite (fun _ => h.setBay.bayEvent.tellRemoved.select.judged) fun _ => h.setBay.bayEvent

theorem tankWritten {n : Nat} {a : Bool} (h : Keeps long w x) : Keeps long w (tankWritten n a x) := by
  refine ite (fun _ => h.setTank) fun _ => ite (fun _ => ?_) fun _ => h.setTank.event
  dsimp only
  split
  · exact h.setTank.writeWaste
  · exact h.setTank

theorem busWritten {a : Bool} (h : Keeps long w x) : Keeps long w (busWritten a x) := by
  unfold Machine.busWritten
  split
  · refine ite (fun _ => ?_) fun _ => h
    split
    · exact h.busNext.bayWritten
    · exact h.busNext.tankWritten
  · exact h

theorem resetSupply (h : Keeps long w x) : Keeps long w (resetSupply x) :=
  forEach _ h fun _ _ k => k.clearMark.clearMark

end Keeps

end Sys2Proof.Machine
end

section
/-! ## What an event keeps (O57 to O60): the sub-tank and pump unit (Chapter 5) -/

namespace Sys2Proof.Machine

open Sys2Proof

set_option Elab.async false

/-! ### The ink account -/

theorem Channel.balanced.addStroke {c : Channel} (h : c.balanced) : (addStroke c).balanced := by
  obtain ⟨he, hcap, hres⟩ := h
  unfold Channel.balanced
  simp only [Machine.addStroke]
  refine ⟨?_, Nat.min_le_right _ _, hres⟩
  generalize Config.tankCapacity = cap at *
  omega

theorem Channel.balanced.overwrite {c : Channel} {mark : Nat} (h : c.balanced) (hm : mark ≤ Config.tankCapacity) :
    (overwrite mark c).balanced := by
  obtain ⟨he, -, hres⟩ := h
  refine ⟨?_, hm, hres⟩
  simp only [Machine.overwrite]
  omega

theorem Channel.balanced.debit {c : Channel} {t : Tally} {v : Nat} (h : c.balanced) : (debitChannel t v c).balanced := by
  obtain ⟨he, hcap, hres⟩ := h
  have hc : Config.tankCapacity = 20000000 := rfl
  rw [hc] at hcap
  unfold Channel.balanced
  rw [debitChannel_eq, hc]
  cases t <;> simp only <;> refine ⟨?_, ?_, hres⟩ <;> simp <;> omega

/-! ### The pump's order -/

/-- The operation may end: it is the one in flight, or it ends at its grant, no entry of its channel being left in the list. -/
def Pump.endable (p : Pump) (op : PumpOp) : Prop :=
  (∃ o, p.op = some o ∧ o.chan = op.chan ∧ o.kind = op.kind) ∨ (p.op = none ∧ ∀ r ∈ p.list, r.chan ≠ op.chan)

/-- The pump once an operation has stopped (R113, R114). -/
def Pump.stopped (p : Pump) (op : PumpOp) : Pump := { p with op := none, valves := p.valves.set op.chan .closed }

/-- What the order says of an operation that may end: no entry of its channel, no other valve open, no follow-on of another channel. -/
theorem Pump.sound.works {p : Pump} {op : PumpOp} (h : p.sound) (hop : p.endable op) :
    (∀ r ∈ p.list, r.chan ≠ op.chan) ∧ (∀ ch, (p.valves.set op.chan .closed).get ch = .closed)
      ∧ ∀ ch, (p.chans.get ch).follow.isSome → ch = op.chan ∧ op.kind = .stir := by
  obtain ⟨-, hl, hv, hf⟩ := h
  rcases hop with ⟨o, ho, hc, hk⟩ | ⟨ho, hn⟩
  · refine ⟨fun r hr => hc ▸ hl o ho r hr, fun ch => ?_, fun ch hs => ?_⟩
    · rw [Chans.get_set, hv, ho, ← hc]
      split
      · rfl
      · next hne => simp only [valveFor]; rw [if_neg (Ne.symm hne)]
    · obtain ⟨q, hq, hqc, hqk⟩ := hf ch hs
      obtain rfl : o = q := by simpa [ho] using hq
      exact ⟨hqc ▸ hc, hk ▸ hqk⟩
  · refine ⟨hn, fun ch => ?_, fun ch hs => ?_⟩
    · rw [Chans.get_set, hv, ho]
      split <;> rfl
    · obtain ⟨q, hq, -⟩ := hf ch hs
      simp [ho] at hq

/-- A fill stops: no channel has a follow-on (R113). -/
theorem Pump.sound.stopFill {p : Pump} {op : PumpOp} (h : p.sound) (hop : p.endable op) (hk : op.kind.isFill = true) :
    (p.stopped op).sound := by
  obtain ⟨-, hv, hf⟩ := h.works hop
  refine ⟨h.1, fun o ho => by simp [Pump.stopped] at ho, hv, fun ch hs => ?_⟩
  obtain ⟨-, hs⟩ := hf ch hs
  simp [hs, PumpKind.isFill] at hk

/-- The operation of a granted entry, its valve in position (R106, R107, R114). -/
theorem Pump.sound.starts {p : Pump} {o : PumpOp} {ch : Chan} {v : Valve} (h : p.sound) (hop : p.op = none) (hc : o.chan = ch)
    (hl : ∀ r ∈ p.list, r.chan ≠ ch) (hv : v = if o.kind.isFill then .fill else .circulate) :
    Pump.sound { p with op := some o, valves := p.valves.set ch v } := by
  obtain ⟨hnd, -, hval, hf⟩ := h
  refine ⟨hnd, ?_, fun x => ?_, fun x hs => ?_⟩
  · rintro q ⟨⟩; exact hc ▸ hl
  · simp only [Chans.get_set, hval, hop, valveFor, hc, hv, eq_comm (a := x)]
  · obtain ⟨q, hq, -⟩ := hf x hs
    simp [hop] at hq

/-- Entries change, but not their channels. -/
theorem Pump.sound.mapList {p : Pump} {f : PumpReq → PumpReq} (h : p.sound) (hf : ∀ r, (f r).chan = r.chan) :
    Pump.sound { p with list := p.list.map f } := by
  obtain ⟨hnd, hl, hv, hfo⟩ := h
  have hm : (p.list.map f).map PumpReq.chan = p.list.map PumpReq.chan := by simp [hf]
  refine ⟨hm ▸ hnd, fun o ho r hr => ?_, hv, hfo⟩
  obtain ⟨q, hq, rfl⟩ := List.mem_map.mp hr
  exact hf q ▸ hl o ho q hq

/-- An entry joins the list: its channel has none, and is not the one granted (R104). -/
theorem Pump.sound.append {p : Pump} {r : PumpReq} (h : p.sound) (hl : ∀ q ∈ p.list, q.chan ≠ r.chan)
    (ho : ∀ o, p.op = some o → o.chan ≠ r.chan) : Pump.sound { p with list := p.list ++ [r] } := by
  obtain ⟨hnd, hlo, hv, hf⟩ := h
  refine ⟨?_, fun o hop q hq => ?_, hv, hf⟩
  · rw [List.map_append, List.nodup_append]
    refine ⟨hnd, by simp, fun a ha b hb => ?_⟩
    obtain ⟨q, hq, rfl⟩ := List.mem_map.mp ha
    simp only [List.map_cons, List.map_nil, List.mem_singleton] at hb
    exact hb ▸ hl q hq
  · rcases List.mem_append.mp hq with hq | hq
    · exact hlo o hop q hq
    · rw [List.mem_singleton.mp hq]; exact (ho o hop).symm

/-- A channel's record changes, and gains no follow-on unless a stir of the channel is in flight. -/
theorem Pump.sound.setChan {p : Pump} {ch : Chan} {c : Channel} (h : p.sound)
    (hc : c.follow.isSome → (p.chans.get ch).follow.isSome ∨ ∃ o, p.op = some o ∧ o.chan = ch ∧ o.kind = .stir) :
    Pump.sound { p with chans := p.chans.set ch c } := by
  obtain ⟨hnd, hl, hv, hf⟩ := h
  refine ⟨hnd, hl, hv, fun x hs => ?_⟩
  simp only [Chans.get_set] at hs
  split at hs
  · next hx =>
    subst hx
    exact (hc hs).elim (hf x) id
  · exact hf x hs

/-- A stir has stopped and its follow-on has entered the list (R104, R114). -/
theorem Pump.sound.stopStir {p : Pump} {op : PumpOp} (h : p.sound) (hop : p.endable op) {f : FollowOn} {now : Nat} :
    Pump.sound { p.stopped op with
      chans := p.chans.set op.chan { p.chans.get op.chan with follow := none }
      list := p.list ++ [⟨op.chan, f.kind, f.number, now, 0, f.tags, f.service⟩] } := by
  obtain ⟨hl, hv, hf⟩ := h.works hop
  have hs : Pump.sound { p.stopped op with chans := p.chans.set op.chan { p.chans.get op.chan with follow := none } } := by
    refine ⟨h.1, fun o ho => by simp [Pump.stopped] at ho, hv, fun ch hs => ?_⟩
    rw [Chans.get_set] at hs
    split at hs
    · simp at hs
    · next hne => exact absurd (hf ch hs).1 hne
  refine hs.append (r := ⟨op.chan, f.kind, f.number, now, 0, f.tags, f.service⟩) hl fun o ho => ?_
  simp [Pump.stopped] at ho

/-! ### The end of a stir in parts -/

theorem enterFollowOn_event {c : Bool} {ch : Chan} {cat : Category} {k : Nat} {items : List Byte} {w : Work} :
    enterFollowOn ch (when c (event cat k items) w) = when c (event cat k items) (enterFollowOn ch w) := by
  cases c with
  | false => rfl
  | true =>
    simp only [enterFollowOn, when_true, event_toState]
    cases (chanRec w.toState ch).follow <;> rfl

theorem enterFollowOn_stirSince {c : Bool} {ch : Chan} {t : Option Nat} {w : Work} :
    enterFollowOn ch (when c (modChan ch (fun r => { r with stirSince := t })) w)
      = when c (modChan ch (fun r => { r with stirSince := t })) (enterFollowOn ch w) := by
  cases c with
  | false => rfl
  | true =>
    simp only [enterFollowOn, when_true, chanRec_modChan_same]
    cases (chanRec w.toState ch).follow with
    | none => rfl
    | some f => simp [modChan, modPump]

end Sys2Proof.Machine
end

section
/-! ## What an event keeps (O57 to O60): the operations of the pump unit (Chapter 5) -/

namespace Sys2Proof.Machine

open Sys2Proof

set_option Elab.async false

/-! ### What leaves the operation in flight as it is -/

section
variable (w : Work)

theorem dropStir_op (ch : Chan) : (dropStir ch w).pump.op = w.pump.op := by
  unfold dropStir; split <;> rfl

theorem when_op {c : Bool} {f : Work → Work} (hf : (f w).pump.op = w.pump.op) : (when c f w).pump.op = w.pump.op := by
  cases c
  · rfl
  · exact hf

theorem judged_op (ch : Chan) : (judged ch w).pump.op = w.pump.op := by
  have hp (p : Params) (w : Work) : (handParams ch p w).pump.op = w.pump.op :=
    (when_op _ rfl).trans (when_op _ (dropStir_op _ _))
  have ht : (takeParams ch w).pump.op = w.pump.op := by
    unfold takeParams
    split
    · split
      · rfl
      · exact hp _ w
    · rfl
  rw [← ht, judged, setSupplied]
  split
  · rfl
  · exact when_op _ rfl

theorem noFlow_op (b : Bay) : (noFlow b w).pump.op = w.pump.op := by
  have hs (ch : Chan) (l : Option Letter) (w : Work) : (select ch l w).pump.op = w.pump.op := by
    unfold select; split <;> rfl
  have hw (b : Bay) (w : Work) : (writeBack b w).pump.op = w.pump.op := by
    unfold writeBack; split <;> rfl
  unfold noFlow
  dsimp only
  split
  · rfl
  · rw [judged_op, hs, hw]; rfl

end

theorem closeWindow_chan (op : PumpOp) : (closeWindow op).chan = op.chan := by unfold closeWindow; split <;> rfl
theorem closeWindow_kind (op : PumpOp) : (closeWindow op).kind = op.kind := by unfold closeWindow; split <;> rfl

/-- A stir without a follow-on stops (R114). -/
theorem Pump.sound.stopLone {p : Pump} {op : PumpOp} (h : p.sound) (hop : p.endable op) (hn : (p.chans.get op.chan).follow = none) :
    (p.stopped op).sound := by
  obtain ⟨-, hv, hf⟩ := h.works hop
  refine ⟨h.1, fun o ho => by simp [Pump.stopped] at ho, hv, fun ch hs => ?_⟩
  obtain ⟨rfl, -⟩ := hf ch hs
  rw [show ((p.stopped op).chans.get op.chan).follow = none from hn] at hs
  simp at hs

theorem State.inkOk.set {s : State} {ch : Chan} {c : Channel} (h : s.inkOk) (hc : c.balanced) (y : Chan) :
    ((s.pump.chans.set ch c).get y).balanced := by
  rw [Chans.get_set]
  split
  · exact hc
  · exact h y

theorem State.inkOk.map {s : State} {f : Channel → Channel} (h : s.inkOk) (hf : ∀ c, c.balanced → (f c).balanced) (y : Chan) :
    ((s.pump.chans.map f).get y).balanced := by
  rw [Chans.get_map]
  exact hf _ (h y)

theorem forall_not_chan_of_entryOf {p : Pump} {ch : Chan} (h : (entryOf p ch).isSome = false) : ∀ r ∈ p.list, r.chan ≠ ch := by
  simpa [entryOf] using h

namespace Keeps

variable {long : Bool} {w x : Work}

/-- A channel's record changes: the account stays balanced and no follow-on is made. -/
theorem modChan {ch : Chan} {f : Channel → Channel} (h : Keeps long w x)
    (hb : (chanRec x.toState ch).balanced → (f (chanRec x.toState ch)).balanced)
    (hf : (f (chanRec x.toState ch)).follow = (chanRec x.toState ch).follow) : Keeps long w (modChan ch f x) :=
  h.modPump (fun hi => hi.set (hb (hi ch)))
    fun hp => hp.setChan fun hs => .inl (hf ▸ hs)

theorem setOp {o n : PumpOp} (h : Keeps long w x) (ho : x.pump.op = some o) (hc : n.chan = o.chan) (hk : n.kind = o.kind) :
    Keeps long w (setOp (some n) x) := h.withOp ho hc hk

/-! ### The end of an operation -/

theorem stirTimer {ch : Chan} {t : Option Nat} (h : Keeps long w x) :
    Keeps long w (Machine.modChan ch (fun c => { c with stirSince := t }) x) := h.modChan id rfl

theorem endFill {op : PumpOp} {c : Code} (h : Keeps long w x) (hop : x.pump.endable op) (hk : op.kind.isFill = true) :
    Keeps long w (endFill op c x) := by
  have hstop : Keeps long w (pumpStops op x) :=
    h.modPump (f := fun p => p.stopped op) (fun hi => hi) fun hp => hp.stopFill hop hk
  exact ((forEach _ hstop.fillWriteBacks.stirTimer fun _ _ k => k.opDone).whenever post |>.whenever event).post

theorem endStir {op : PumpOp} {c : Code} {t : Bool} (h : Keeps long w x) (hop : x.pump.endable op) :
    Keeps long w (endStir op c t x) := by
  have hfollow : Keeps long w (enterFollowOn op.chan (pumpStops op x)) := by
    unfold enterFollowOn
    split
    · exact h.modPump (f := fun p => { p.stopped op with
          chans := p.chans.set op.chan { p.chans.get op.chan with follow := none }, list := p.list ++ [_] })
        (fun hi => hi.set (hi op.chan)) fun hp => hp.stopStir hop
    · next hn =>
      exact h.modPump (f := fun p => p.stopped op) (fun hi => hi) fun hp => hp.stopLone hop hn
  show Keeps long w (Machine.post _ (enterFollowOn op.chan _))
  rw [enterFollowOn_event, enterFollowOn_stirSince]
  exact ((hfollow.whenever stirTimer).whenever event).post

/-! ### The arbiter and the requests -/

theorem nextStroke {o op : PumpOp} (h : Keeps long w x) (ho : x.pump.op = some o) (hc : op.chan = o.chan) (hk : op.kind = o.kind) :
    Keeps long w (nextStroke op x) := h.setOp ho hc hk

/-- A granted entry has left the list: its operation is the only one of its channel. -/
theorem grantEntry {r : PumpReq} (h : Keeps long w x) (ho : x.pump.op = none) : Keeps long w (grantEntry r x) := by
  have hlist : Keeps long w (Machine.modPump (fun p => { p with list := p.list.filter (fun y => y.chan ≠ r.chan) }) x) :=
    h.modPump (fun hi => hi) fun hp => hp.filter _
  have hnone : ∀ q ∈ x.pump.list.filter (fun y => y.chan ≠ r.chan), q.chan ≠ r.chan := by simp
  have hat : Keeps long w { Machine.modPump (fun p => { p with list := p.list.filter (fun y => y.chan ≠ r.chan) }) x with
      atOnce := r.chan :: x.atOnce } := hlist.frame
  have hstart {v : Valve} (op : PumpOp) (hc : op.chan = r.chan) (hv : v = if op.kind.isFill then .fill else .circulate) :
      Keeps long w (Machine.nextStroke op (setValve r.chan v
        (Machine.modPump (fun p => { p with list := p.list.filter (fun y => y.chan ≠ r.chan) }) x))) :=
    hlist.modPump (f := fun p => { p with
        op := some { op with count := op.count + 1, strokeStart := x.now, window := .open }, valves := p.valves.set r.chan v })
      (fun hi => hi) fun hp => hp.starts ho hc hnone hv
  unfold Machine.grantEntry
  refine ite
    (fun hk => ite (fun _ => hat.endFill (.inr ⟨ho, hnone⟩) hk) fun _ =>
      ite (fun _ => hat.endFill (.inr ⟨ho, hnone⟩) hk) fun _ => ?_)
    fun hk => ite (fun _ => hat.endStir (.inr ⟨ho, hnone⟩)) fun _ => ?_
  · exact hstart _ rfl (if_pos hk).symm
  · exact hstart _ rfl (if_neg hk).symm

theorem grant (h : Keeps long w x) : Keeps long w (grant x) := by
  unfold Machine.grant
  refine ite (fun _ => h) fun ho => ?_
  split
  · exact h.grantEntry (by simpa using ho)
  · exact h

theorem raiseEntry {ch : Chan} {k : PumpKind} {tags : List Nat} {s : Bool} (h : Keeps long w x)
    (ho : ∀ o, x.pump.op = some o → o.chan ≠ ch) : Keeps long w (raiseEntry ch k tags s x) := by
  unfold Machine.raiseEntry
  refine ite (fun _ => ?_) fun hn => ?_
  · exact grant (h.modPump (fun hi => hi) fun hp => hp.mapList fun r => by split <;> rfl)
  · exact grant (h.modPump (fun hi => hi) fun hp => hp.append (forall_not_chan_of_entryOf (by simpa using hn)) ho)

theorem raise {ch : Chan} {k : PumpKind} {tags : List Nat} {s : Bool} (h : Keeps long w x) :
    Keeps long w (raise ch k tags s x) := by
  unfold Machine.raise
  split
  · next op ho =>
    refine ite (fun hc => ite (fun _ => h.setOp ho rfl rfl) fun hk => ?_) fun hc => h.raiseEntry fun o h' => ?_
    · have hstir : op.kind = .stir := by cases hop : op.kind <;> simp_all [PumpKind.isFill]
      exact h.modPump (fun hi => hi.set (hi ch)) fun hp => hp.setChan fun _ => .inr ⟨op, ho, hc, hstir⟩
    · obtain rfl : op = o := by simpa [ho] using h'
      exact hc
  · next ho => exact h.raiseEntry (by simp [ho])

theorem lookRefill {ch : Chan} (h : Keeps long w x) : Keeps long w (lookRefill ch x) := h.whenever raise
theorem lookStir {ch : Chan} (h : Keeps long w x) : Keeps long w (lookStir ch x) := h.whenever raise
theorem requestLook {ch : Chan} (h : Keeps long w x) : Keeps long w (requestLook ch x) := h.lookRefill.post
theorem pumpFreed {ch : Chan} (h : Keeps long w x) : Keeps long w (pumpFreed ch x) := h.grant.requestLook

theorem stirLook {ch : Chan} (h : Keeps long w x) : Keeps long w (stirLook ch x) := by
  unfold Machine.stirLook
  split
  · exact h.lookStir
  · exact h.frame

/-! ### Changes of E -/

theorem setDry {ch : Chan} {v : Bool} (h : Keeps long w x) : Keeps long w (setDry ch v x) :=
  ite (fun _ => h) fun _ => post (event (h.modChan id rfl))

theorem setHold {ch : Chan} {v : Bool} (h : Keeps long w x) : Keeps long w (setHold ch v x) :=
  ite (fun _ => h) fun _ => post (event (h.modChan id rfl))

theorem levelChanged {ch : Chan} {c : Bool} (h : Keeps long w x) : Keeps long w (levelChanged ch c x) :=
  h.setDry.setHold.lookRefill

theorem debitVolume {t : Tally} {ch : Chan} {v : Nat} (h : Keeps long w x) : Keeps long w (debitVolume t ch v x) :=
  ite (fun _ => h) fun _ => levelChanged (h.modChan (fun hb => hb.debit) (by rw [debitChannel_eq]))

theorem debitDrops {t : Tally} {ch : Chan} {n : Nat} (h : Keeps long w x) : Keeps long w (debitDrops t ch n x).2 :=
  debitVolume (h.modChan (fun ⟨he, hcap, hres⟩ => ⟨he, hcap, dropResidue_lt n hres⟩) rfl)

theorem fullCame {ch : Chan} (h : Keeps long w x) : Keeps long w (fullCame ch x) := by
  unfold Machine.fullCame
  split
  · next ho => exact ite (fun _ => h.setOp ho rfl rfl) fun _ => h
  · exact h

theorem floatChange {ch : Chan} {f : FloatSwitch} {a : Bool} (h : Keeps long w x) : Keeps long w (floatChange ch f a x) := by
  unfold Machine.floatChange
  cases f with
  | full =>
    have hlevel : Keeps long w (Machine.modChan ch (fun c => { c with full := a }) x) := h.modChan id rfl
    exact ite (fun _ => levelChanged (fullCame (hlevel.modChan
      (fun hb => (hb.overwrite (mark := Config.fullMark) (by decide) : Channel.balanced _)) rfl))) fun _ => hlevel
  | low =>
    have hlevel : Keeps long w (Machine.modChan ch (fun c => { c with low := a }) x) := h.modChan id rfl
    exact ite (fun _ => levelChanged (hlevel.modChan (fun hb => hb.overwrite (mark := Config.lowMark) (by decide)) rfl)) fun _ => hlevel

/-! ### Strokes -/

theorem flowPulse (h : Keeps long w x) : Keeps long w (flowPulse x) := by
  unfold Machine.flowPulse
  split
  · exact h
  · next op ho =>
    refine ite (fun _ => h) fun _ => ite (fun _ => ?_) fun _ => h.setOp ho rfl rfl
    have hop := h.setOp (n := { op with
      window := .pulsed, missing := 0, pulsed := op.pulsed + 1, drawn := op.drawn + Config.strokeVolume }) ho rfl rfl
    exact levelChanged ((hop.modChan (f := addStroke) Channel.balanced.addStroke (by rw [addStroke])).whenever charge)

theorem pulseWindowEnd (h : Keeps long w x) : Keeps long w (pulseWindowEnd x) := by
  unfold Machine.pulseWindowEnd
  split
  · next op ho => exact ite (fun _ => h.setOp ho (closeWindow_chan op) (closeWindow_kind op)) fun _ => h
  · exact h

theorem fillGoesOn {o op : PumpOp} (h : Keeps long w x) (ho : x.pump.op = some o) (hc : op.chan = o.chan) (hk : op.kind = o.kind)
    (hf : op.kind.isFill = true) : Keeps long w (fillGoesOn op x) := by
  unfold Machine.fillGoesOn
  split
  · exact h.nextStroke ho hc hk
  · exact h.endFill (.inl ⟨o, ho, hc.symm, hk.symm⟩) hf

theorem fillStrokeEnd {o op : PumpOp} (h : Keeps long w x) (ho : x.pump.op = some o) (hc : op.chan = o.chan) (hk : op.kind = o.kind)
    (hf : op.kind.isFill = true) : Keeps long w (fillStrokeEnd op x) := by
  have hend : x.pump.endable op := .inl ⟨o, ho, hc.symm, hk.symm⟩
  exact ite (fun _ => h.endFill hend hf) fun _ => ite (fun _ => h.fillGoesOn ho hc hk hf) fun _ =>
    ite (fun _ => (h.modChan id rfl).endFill hend hf) fun _ =>
      ite (fun _ => h.noFlow.fillGoesOn ((noFlow_op x op.bay).trans ho) hc hk hf) fun _ => h.nextStroke ho hc hk

theorem stirStrokeEnd {o op : PumpOp} (h : Keeps long w x) (ho : x.pump.op = some o) (hc : op.chan = o.chan) (hk : op.kind = o.kind) :
    Keeps long w (stirStrokeEnd op x) := by
  have hend : x.pump.endable op := .inl ⟨o, ho, hc.symm, hk.symm⟩
  exact ite (fun _ => h.endStir hend) fun _ => ite (fun _ => h.endStir hend) fun _ => ite (fun _ => h.endStir hend) fun _ =>
    h.nextStroke ho hc hk

theorem strokeEnd (h : Keeps long w x) : Keeps long w (strokeEnd x) := by
  unfold Machine.strokeEnd
  split
  · next op ho =>
    have hc := closeWindow_chan op
    have hk := closeWindow_kind op
    exact ite (fun _ => ite (fun hf => h.fillStrokeEnd ho hc hk (hk ▸ hf)) fun _ => h.stirStrokeEnd ho hc hk) fun _ => h
  · exact h

/-! ### Ageing, and what others ask of the pump -/

theorem requestAgeing {ch : Chan} (h : Keeps long w x) : Keeps long w (requestAgeing ch x) :=
  h.modPump (fun hi => hi) fun hp => hp.mapList fun r => by unfold ageEntry; split <;> [split <;> rfl; rfl]

theorem topUp {tag c : Nat} (h : Keeps true w x) : Keeps true w (topUp tag c x) := by
  unfold Machine.topUp
  split
  · exact ite (fun _ => h.refuse) fun _ => lookRefill (raise (h.started.modChan id rfl))
  · exact h.refuse

theorem raiseIfShort {ch : Chan} {c : Cover} (h : Keeps long w x) : Keeps long w (raiseIfShort ch c x) := h.whenever raise

theorem giveUpWaits (h : Keeps long w x) : Keeps long w (giveUpWaits x) :=
  h.modPump (fun hi => hi.map fun _ hb => hb) fun hp => by
    obtain ⟨hnd, hl, hv, hf⟩ := hp.mapList (f := fun r => { r with service := false }) fun _ => rfl
    refine ⟨hnd, fun o ho => ?_, fun ch => ?_, fun ch hs => ?_⟩
    · obtain ⟨q, hq, rfl⟩ := Option.map_eq_some_iff.mp ho
      exact hl q hq
    · rw [hv ch]; cases x.pump.op <;> rfl
    · simp only [Chans.get_map, Option.isSome_map] at hs
      obtain ⟨q, hq, hc, hk⟩ := hf ch hs
      exact ⟨{ q with service := false }, congrArg (Option.map fun o => { o with service := false }) hq, hc, hk⟩

theorem resetPump (h : Keeps long w x) : Keeps long w (resetPump x) := by
  have hclear : Keeps long w (Machine.modPump
      (fun p => ⟨p.chans.map (fun c => { c with follow := none }), [], none, Chans.all .closed⟩) x) :=
    h.modPump (fun hi => hi.map fun _ hb => hb) fun _ => ⟨by simp, by simp, fun ch => by simp [valveFor], by simp⟩
  exact forEach _ (forEach _ hclear fun _ _ k => k.lookRefill) fun _ _ k => k.lookStir

end Keeps

end Sys2Proof.Machine
end

section
/-! ## What an event keeps (O57 to O60): the service station's mechanisms (Chapter 6) -/

namespace Sys2Proof.Machine

open Sys2Proof

set_option Elab.async false

/-- What the cut needs of the carriage record; the idle time is its own matter (R126, R135). -/
def Carriage.safe (c : Carriage) : Prop :=
  (c.hold = .granted → c.state.isParked = true ∧ c.still = true)
    ∧ (c.resetReturn.isSome → c.state = .serviceMove ∧ c.still = true ∧ c.sled = .still)

/-- A carriage move is in flight (R127). -/
def Carriage.moving (c : Carriage) : Prop := ∃ m, c.move = some m ∧ m.inFlight = true

/-- Each change of the record times the idle time anew, so that the last part of its soundness always holds (R124). -/
theorem Carriage.timed_sound {c : Carriage} {n : Nat} (h : c.safe) : (c.timed n).sound := by
  refine ⟨h.1, h.2, fun hi => ?_⟩
  simp only [Carriage.timed] at hi
  split at hi
  · assumption
  · simp at hi

theorem Carriage.still_eq_false {c : Carriage} (h : c.moving) : c.still = false := by
  obtain ⟨m, hm, hf⟩ := h
  simp [Carriage.still, hm, hf]

/-- While a move is in flight no hold is granted and no reset's return runs. -/
theorem State.cutOk.of_moving {s : State} (h : s.cutOk) (hm : s.station.car.moving) :
    s.station.car.hold ≠ .granted ∧ s.station.car.resetReturn = none := by
  obtain ⟨⟨hg, hr, -⟩, -, -⟩ := h
  have hst := Carriage.still_eq_false hm
  refine ⟨fun hh => ?_, ?_⟩
  · simp [hst] at hg; exact hg hh
  · cases hx : s.station.car.resetReturn with
    | none => rfl
    | some t => simp [hx, hst] at hr

/-- A reset's return runs in SERVICE_MOVE only (R135). -/
theorem State.cutOk.no_return {s : State} (h : s.cutOk) (hs : s.station.car.state ≠ .serviceMove) :
    s.station.car.resetReturn = none := by
  obtain ⟨⟨-, hr, -⟩, -, -⟩ := h
  cases hx : s.station.car.resetReturn with
  | none => rfl
  | some t => exact absurd (hr (by simp [hx])).1 hs

theorem carTo_car (f : Carriage → Carriage) (w : Work) : (carTo f w).station.car = (f w.station.car).timed w.now := by
  have hz {c : Bool} {v : Work} : (when c zeroWets v).station.car = v.station.car := by cases c <;> rfl
  have hp {c : Bool} {v : Work} : (when c (post .carriageParked) v).station.car = v.station.car := by cases c <;> rfl
  unfold carTo
  dsimp only
  split
  · rfl
  · rw [hp, hz]; rfl

namespace Keeps

variable {long : Bool} {w x : Work}

/-! ### One rule per kind of change of the carriage record -/

/-- Any change of the carriage record that stays safe for the cut. -/
theorem car {f : Carriage → Carriage} (h : Keeps long w x)
    (hf : x.cutOk → (f x.station.car).safe ∧ (∀ c, x.media.cut = some c → c.start.isSome → (f x.station.car).hold = .granted)
      ∧ ((f x.station.car).resetReturn.isSome → x.station.service = none)) : Keeps long w (Machine.modCar f x) :=
  h.modCar fun hc => by
    obtain ⟨hs, hrun, hret⟩ := hf hc
    exact ⟨Carriage.timed_sound hs, hrun, hret⟩

/-- A change that leaves the hold, and for which the record stays safe. -/
theorem carSafe {f : Carriage → Carriage} (h : Keeps long w x) (hh : (f x.station.car).hold = x.station.car.hold)
    (hr : (f x.station.car).resetReturn.isSome → x.station.car.resetReturn.isSome) (hs : x.cutOk → (f x.station.car).safe) :
    Keeps long w (Machine.modCar f x) :=
  h.car fun hc => ⟨hs hc, fun c h1 h2 => hh.trans (hc.2.1 c h1 h2), fun hi => hc.2.2 (hr hi)⟩

/-- A change that touches neither the hold, the state, the sled, the return nor whether a move is in flight. -/
theorem carAside {f : Carriage → Carriage} (h : Keeps long w x)
    (hf : (fun c : Carriage => (c.hold, c.state, c.still, c.sled, c.resetReturn)) (f x.station.car)
      = (fun c : Carriage => (c.hold, c.state, c.still, c.sled, c.resetReturn)) x.station.car) : Keeps long w (Machine.modCar f x) := by
  simp only [Prod.mk.injEq] at hf
  obtain ⟨hh, hst, hmv, hsl, hr⟩ := hf
  refine h.carSafe hh (by rw [hr]; exact id) fun hc => ?_
  unfold Carriage.safe
  rw [hh, hst, hmv, hsl, hr]
  exact ⟨hc.1.1, hc.1.2.1⟩

/-- While no reset's return runs, a change of the sled leaves the record safe. -/
theorem carSled {f : Carriage → Carriage} (h : Keeps long w x) (hn : x.cutOk → x.station.car.resetReturn = none)
    (hf : (fun c : Carriage => (c.hold, c.state, c.still, c.resetReturn)) (f x.station.car)
      = (fun c : Carriage => (c.hold, c.state, c.still, c.resetReturn)) x.station.car) : Keeps long w (Machine.modCar f x) := by
  simp only [Prod.mk.injEq] at hf
  obtain ⟨hh, hst, hmv, hr⟩ := hf
  refine h.carSafe hh (by rw [hr]; exact id) fun hc => ?_
  unfold Carriage.safe
  rw [hh, hst, hmv, hr, hn hc]
  exact ⟨hc.1.1, by simp⟩

/-- While no hold is granted and no reset's return runs, any change that leaves both is safe. -/
theorem carFree {f : Carriage → Carriage} (h : Keeps long w x)
    (hn : x.cutOk → x.station.car.hold ≠ .granted ∧ x.station.car.resetReturn = none)
    (hh : (f x.station.car).hold = x.station.car.hold) (hr : (f x.station.car).resetReturn = x.station.car.resetReturn) :
    Keeps long w (Machine.modCar f x) := by
  refine h.carSafe hh (by rw [hr]; exact id) fun hc => ?_
  obtain ⟨hg, hret⟩ := hn hc
  unfold Carriage.safe
  rw [hh, hr, hret]
  exact ⟨fun hx => absurd hx hg, by simp⟩

/-- A change of the move in flight. -/
theorem carMoving {f : Carriage → Carriage} (h : Keeps long w x) (hm : x.station.car.moving)
    (hh : (f x.station.car).hold = x.station.car.hold) (hr : (f x.station.car).resetReturn = x.station.car.resetReturn) :
    Keeps long w (Machine.modCar f x) := h.carFree (fun hc => hc.of_moving hm) hh hr

/-! ### Wet clocks and the carriage state -/

theorem restartWet {ch : Chan} (h : Keeps long w x) : Keeps long w (restartWet ch x) := h.frame
theorem zeroWets (h : Keeps long w x) : Keeps long w (zeroWets x) := forEach _ h fun _ _ k => k.restartWet

theorem dueSpit {ch : Chan} (h : Keeps long w x) : Keeps long w (dueSpit ch x) := ite (fun _ => event h.frame) fun _ => h

theorem setCleanDue {hd : Head} {v : Bool} (h : Keeps long w x) : Keeps long w (setCleanDue hd v x) :=
  ite (fun _ => h) fun _ => event h.frame

theorem dueClean {ch : Chan} (h : Keeps long w x) : Keeps long w (dueClean ch x) := ite (fun _ => h.setCleanDue) fun _ => h
theorem spitDueLimit {ch : Chan} (h : Keeps long w x) : Keeps long w (spitDueLimit ch x) := h.dueSpit
theorem cleanDueLimit {ch : Chan} (h : Keeps long w x) : Keeps long w (cleanDueLimit ch x) := h.dueSpit.dueClean

theorem keepWetTaken {ch : Chan} (h : Keeps long w x) : Keeps long w (keepWetTaken ch x) :=
  dueClean (dueSpit (h.whenever fun k => k.frame))

theorem carTo {f : Carriage → Carriage} (h : Keeps long w (Machine.modCar f x)) : Keeps long w (carTo f x) :=
  ite (fun _ => h) fun _ => (h.whenever zeroWets).whenever post

/-! ### Moves and the hold -/

theorem testHold (h : Keeps long w x) : Keeps long w (testHold x) := by
  refine ite (fun hc => post (h.car fun hx => ?_)) fun _ => h
  simp only [Bool.and_eq_true, decide_eq_true_eq] at hc
  obtain ⟨⟨-, hp⟩, hm⟩ := hc
  exact ⟨⟨fun _ => ⟨hp, hm⟩, hx.1.2.1⟩, fun _ _ _ => rfl, hx.2.2⟩

theorem beginAction {m : CarMove} (h : Keeps long w x)
    (hn : x.cutOk → x.station.car.hold ≠ .granted ∧ x.station.car.resetReturn = none) : Keeps long w (beginAction m x) := by
  have hmove : Keeps long w (Machine.carTo
      (fun c => { c with state := .serviceMove, move := some { m with phase := .action x.now, acted := true } }) x) :=
    carTo (h.carFree hn rfl rfl)
  unfold Machine.beginAction
  dsimp only
  split
  · exact hmove.post
  · exact hmove
  · exact hmove

theorem tryMove (h : Keeps long w x) : Keeps long w (tryMove x) := by
  unfold Machine.tryMove
  dsimp only
  split
  · refine ite (fun hc => ?_) fun _ => h
    simp only [Bool.and_eq_true, decide_eq_true_eq] at hc
    obtain ⟨⟨⟨-, hg⟩, -⟩, -⟩ := hc
    split
    · next hs => exact h.carFree (fun hx => ⟨hg, hx.no_return (by simp [hs])⟩) rfl rfl
    · next hs => exact h.beginAction fun hx => ⟨hg, hx.no_return (by simp [hs])⟩
    · exact h
    · exact h
  · exact h

theorem lookCarriage (h : Keeps long w x) : Keeps long w (lookCarriage x) := h.testHold.tryMove

theorem askCarMove {b : Block} {k : MoveKind} (h : Keeps long w x) : Keeps long w (askCarMove b k x) := by
  refine ite (fun _ => h.post) fun _ => ite (fun _ => h) fun hn => tryMove (h.carAside ?_)
  have hnone : x.station.car.move = none := by simpa using hn
  simp [Carriage.still, hnone, CarMove.fresh, CarMove.inFlight]

theorem endCarMove {m : CarMove} {st : CarState} {o : Code} {b : Bool} (h : Keeps long w x) (hm : x.station.car.moving) :
    Keeps long w (endCarMove m st o b x) := post (testHold (carTo (h.carMoving hm rfl rfl)))

theorem endAction {m : CarMove} {o : Option Code} (h : Keeps long w x) (hm : x.station.car.moving) :
    Keeps long w (endAction m o x) := h.carMoving hm rfl rfl

end Keeps

theorem moving_of_movingAction {s : State} {p : CarMove × Nat} (h : movingAction s = some p) : s.station.car.moving := by
  unfold movingAction at h
  split at h
  · next m hm =>
    split at h
    · next hp => exact ⟨m, hm, by simp [CarMove.inFlight, hp]⟩
    all_goals simp at h
  · simp at h

/-- What a mechanism reset leaves of the carriage record (R135). -/
def Carriage.reset (now : Nat) (c : Carriage) : Carriage :=
  { c with
    state := if c.sled = .still then c.state else .open
    sled := .still, tags := [], serviceWaits := false, claims := ⟨false, false, false⟩, move := none, hold := .none
    idleSince := none, suction := none
    resetReturn := if c.sled = .still && c.state = .serviceMove then some now else none }

theorem Carriage.reset_safe (now : Nat) (c : Carriage) : (c.reset now).safe := by
  refine ⟨nofun, fun hr => ?_⟩
  simp only [Carriage.reset] at hr
  split at hr
  · next hs =>
    simp only [Bool.and_eq_true, decide_eq_true_eq] at hs
    exact ⟨by simp [Carriage.reset, hs], rfl, rfl⟩
  · simp at hr

theorem moving_of_loweringMove {c : Carriage} {m : CarMove} (h : loweringMove c = some m) : c.moving := by
  obtain ⟨hm, hp⟩ := Option.filter_eq_some_iff.mp h
  simp only [decide_eq_true_eq] at hp
  exact ⟨m, hm, by simp [CarMove.inFlight, hp]⟩

namespace Keeps

variable {long : Bool} {w x : Work}

theorem actionDeadline (h : Keeps long w x) : Keeps long w (actionDeadline x) := by
  unfold Machine.actionDeadline
  split
  · next hm => exact ite (fun _ => h.endAction (moving_of_movingAction hm)) fun _ => h
  · exact h

theorem wipeComplete (h : Keeps long w x) : Keeps long w (wipeComplete x) := by
  unfold Machine.wipeComplete
  split
  · next hm => exact ite (fun _ => h.endAction (moving_of_movingAction hm)) fun _ => h
  · exact h

theorem widthScanPassEnd (h : Keeps long w x) : Keeps long w (widthScanPassEnd x) := by
  unfold Machine.widthScanPassEnd
  split
  · next hm => exact ite (fun _ => h.endAction (moving_of_movingAction hm)) fun _ => h
  · exact h

theorem patternLegEnd (h : Keeps long w x) : Keeps long w (patternLegEnd x) := by
  unfold Machine.patternLegEnd
  split
  · next hm =>
    split
    · exact ite (fun _ => restartWet (h.carMoving (moving_of_movingAction hm) rfl rfl)) fun _ => h
    · exact h
    · exact h
  · exact h

theorem checkSample {hd : Head} {m : CarMove} {d : Nat} (h : Keeps long w x) (hm : x.station.car.moving) :
    Keeps long w (checkSample hd m d x) := by
  refine ite (fun _ => h.carMoving hm rfl rfl) fun _ => ?_
  split
  · exact post (h.carMoving hm rfl rfl)
  · exact h.endAction hm

theorem scanReading {d : Nat} (h : Keeps long w x) : Keeps long w (scanReading d x) := by
  unfold Machine.scanReading
  split
  · next hm =>
    have hmov := moving_of_movingAction hm
    split
    · exact h.carMoving hmov rfl rfl
    · exact ite (fun _ => h) fun _ => h.checkSample hmov
    · exact h
  · exact h

/-! ### Raisings, returns, the sled -/

theorem raiseAlone (h : Keeps long w x) (hn : x.cutOk → x.station.car.resetReturn = none) : Keeps long w (raiseAlone x) :=
  h.carSled hn rfl

theorem autoCap (h : Keeps long w x) : Keeps long w (autoCap x) := by
  refine h.when fun hr => h.raiseAlone fun hc => hc.no_return ?_
  have hidle : x.station.car.idleSince.isSome := by
    unfold autoCapReady at hr
    split at hr
    · next ht => simp [ht]
    · simp at hr
  have hi := hc.1.2.2 hidle
  simp only [Carriage.idles, Bool.and_eq_true, decide_eq_true_eq] at hi
  simp [hi.1.1.1.1.1]

theorem homeReport (h : Keeps long w x) : Keeps long w (homeReport x) := by
  unfold Machine.homeReport
  dsimp only
  split
  · next t hr =>
    refine lookCarriage (raiseAlone (carTo (h.carSafe rfl (by simp) fun hc => ?_)) fun _ => ?_)
    · obtain ⟨-, hst, -⟩ := hc.1.2.1 (by simp [hr])
      exact ⟨fun _ => ⟨rfl, hst⟩, by simp⟩
    · rw [carTo_car]; rfl
  · split
    · next m hm =>
      split
      · next hp =>
        refine (h.carAside rfl).endCarMove ⟨m, ?_, by simp [CarMove.inFlight, hp]⟩
        exact hm
      all_goals exact h
    · exact h

theorem returnTimeout (h : Keeps long w x) : Keeps long w (returnTimeout x) := by
  unfold Machine.returnTimeout
  dsimp only
  split
  · next t hr =>
    refine ite (fun _ => event (carTo (h.carSafe rfl (by simp) fun hc => ⟨fun hg => ?_, by simp⟩))) fun _ => h
    have hst := (hc.1.2.1 (by simp [hr])).1
    have hp := (hc.1.1 hg).1
    simp [hst, CarState.isParked] at hp
  · split
    · next m hm =>
      split
      · next hp =>
        refine ite (fun _ => (h.carAside rfl).endCarMove ⟨m, ?_, by simp [CarMove.inFlight, hp]⟩) fun _ => h
        exact hm
      all_goals exact h
    · exact h

/-- A sled motion that ends where it may: in OPEN, in CAPPED, or where the carriage stands (R118, R119). -/
theorem endSled {k : Nat} {st : CarState} {o : Code} (h : Keeps long w x) (hs : x.station.car.sled ≠ .still)
    (hst : st.isParked = true ∨ st = x.station.car.state) : Keeps long w (endSled k st o x) := by
  have hto : Keeps long w (Machine.carTo (fun c => { c with state := st, sled := .still, tags := [], serviceWaits := false }) x) := by
    refine carTo (h.carSafe rfl id fun hc => ⟨fun hg => ?_, fun hr => absurd (hc.1.2.1 hr).2.2 hs⟩)
    obtain ⟨hp, hm⟩ := hc.1.1 hg
    exact ⟨hst.elim id fun he => he ▸ hp, hm⟩
  have htold := ((forEach x.station.car.tags hto fun t _ k' => k'.opDone (k := k) (tag := t) (o := o) (d := u8 st.num)).whenever
    (c := x.station.car.serviceWaits) (f := Machine.post (.sledEnded (o = .ok))) post).whenever
    (c := decide (k = kindCap) && decide (o ≠ .ok) && x.station.car.tags.isEmpty && !x.station.car.serviceWaits)
    (f := capFaultEvent) event
  unfold Machine.endSled
  dsimp only
  split
  · next m hm =>
    have hmov := moving_of_loweringMove hm
    exact ite (fun _ => htold.beginAction fun hc => hc.of_moving hmov) fun _ => htold.endCarMove hmov
  · exact htold.lookCarriage

theorem capDownComplete (h : Keeps long w x) : Keeps long w (capDownComplete x) := by
  unfold Machine.capDownComplete
  split
  · next hs => exact h.endSled (by simp [hs]) (.inl rfl)
  · exact h
  · exact h

theorem capUpComplete (h : Keeps long w x) : Keeps long w (capUpComplete x) := by
  unfold Machine.capUpComplete
  split
  · next hs => exact h.endSled (by simp [hs]) (.inl rfl)
  · exact h
  · exact h

theorem sledTimeout (h : Keeps long w x) : Keeps long w (sledTimeout x) := by
  unfold Machine.sledTimeout
  split
  · next hs => exact ite (fun _ => h.endSled (by simp [hs]) (.inr rfl)) fun _ => h
  · next hs => exact ite (fun _ => h.endSled (by simp [hs]) (.inr rfl)) fun _ => h
  · exact h

/-! ### The requests about the carriage -/

theorem uncap {tag : Nat} (h : Keeps true w x) : Keeps true w (uncap tag x) := by
  unfold Machine.uncap
  refine ite (fun _ => h.refuse) fun _ => ?_
  split
  · exact h.refuse
  · next hs _ => exact started (h.carSled (fun hc => hc.no_return (by simp [hs])) rfl)
  · exact started (h.carAside rfl)
  · exact h.okWith
  all_goals exact h.refuse

theorem cap {tag : Nat} (h : Keeps true w x) : Keeps true w (cap tag x) := by
  unfold Machine.cap
  refine ite (fun _ => h.refuse) fun _ => ?_
  split
  · exact h.refuse
  · next hs _ => exact started (h.carSled (fun hc => hc.no_return (by simp [hs])) rfl)
  · exact started (h.carAside rfl)
  · exact h.okWith
  all_goals exact h.refuse

theorem release (h : Keeps long w x) : Keeps long w (release x) := by
  unfold Machine.release
  refine ite (fun _ => h.refuse) fun hb => ?_
  simp only [Bool.or_eq_true, decide_eq_true_eq, not_or, Decidable.not_not] at hb
  obtain ⟨⟨⟨⟨-, hh⟩, -⟩, -⟩, -⟩ := hb
  split
  · next hs =>
    exact okWith (carTo (h.carFree (fun hc => ⟨by simp [hh], hc.no_return (by simp [hs])⟩) rfl rfl))
  · exact h.okWith
  · exact h.refuse
  · exact h.refuse

theorem park (h : Keeps long w x) : Keeps long w (park x) := by
  refine ite
    (fun hs => ite (fun _ => lookCarriage (okWith (carTo (h.carFree (fun hc => ⟨fun hg => ?_, ?_⟩) rfl rfl)))) fun _ => h.refuse)
    fun _ => h.okWith
  · have hp := (hc.1.1 hg).1
    simp [hs, CarState.isParked] at hp
  · exact hc.no_return (by simp [hs])

/-! ### Claims, the hold, suction, the waste estimate -/

theorem setMediaClaim {v : Bool} (h : Keeps long w x) : Keeps long w (setMediaClaim v x) := h.carAside rfl
theorem setCheckClaim {v : Bool} (h : Keeps long w x) : Keeps long w (setCheckClaim v x) := h.carAside rfl
theorem setServiceClaim {v : Bool} (h : Keeps long w x) : Keeps long w (setServiceClaim v x) := h.carAside rfl

theorem askHold (h : Keeps long w x) : Keeps long w (askHold x) := by
  refine ite (fun hh => testHold (h.car fun hc => ⟨⟨by simp, hc.1.2.1⟩, fun c h1 h2 => ?_, hc.2.2⟩)) fun _ => h
  have := hc.2.1 c h1 h2
  simp [hh] at this

/-- The hold goes once the cutter does not run (R40, R126). -/
theorem giveUpHold (h : Keeps long w x) (hc : ∀ c, x.media.cut = some c → c.start = none) : Keeps long w (giveUpHold x) := by
  refine tryMove (h.car fun hx => ⟨⟨by simp, hx.1.2.1⟩, fun c h1 h2 => ?_, hx.2.2⟩)
  simp [hc c h1] at h2

theorem startSuction {hd : Head} {v : Nat} (h : Keeps long w x) : Keeps long w (startSuction hd v x) := h.carAside rfl
theorem endSuction {o : Code} (h : Keeps long w x) : Keeps long w (endSuction o x) := post (h.carAside rfl)
theorem suctionComplete (h : Keeps long w x) : Keeps long w (suctionComplete x) := ite (fun _ => h.endSuction) fun _ => h

theorem suctionTimeout (h : Keeps long w x) : Keeps long w (suctionTimeout x) := by
  unfold Machine.suctionTimeout
  split
  · exact ite (fun _ => h.endSuction) fun _ => h
  · exact h

theorem writeBackWaste (h : Keeps long w x) : Keeps long w (writeBackWaste x) := by
  unfold Machine.writeBackWaste
  split
  · next t ht =>
    refine writeWaste (h.setWaste (f := fun u => { u with tank := some { t with written := t.w } }) fun hs => ?_)
    simp only [Waste.sound, ht] at hs
    exact ⟨hs.1, Nat.le_refl _, hs.2.2⟩
  · exact h

theorem credit {v : Nat} (h : Keeps long w x) : Keeps long w (credit v x) := by
  refine whenever (h.wasteRelevel (f := creditWaste v) fun hs => ?_) writeBackWaste
  unfold Waste.sound at hs
  unfold Waste.bounded creditWaste
  split at hs <;> simp only [*]
  · omega


/-- No service is in progress any more. -/
theorem noService (h : Keeps long w x) : Keeps long w (setStation (fun t => { t with service := none }) x) :=
  h.trans ⟨id, id, id, id, id, fun hx => ⟨hx.1, hx.2.1, fun _ => rfl⟩, rfl, rfl, id, id⟩

/-- The mechanism reset of the station: no cut runs by then (R44, R135, R153). -/
theorem resetStation (h : Keeps long w x) (hc : x.media.cut = none) : Keeps long w (resetStation x) := by
  have hcar : Keeps long w (Machine.carTo (Carriage.reset x.now) (setStation (fun t => { t with service := none }) x)) :=
    carTo (h.noService.car fun _ => ⟨Carriage.reset_safe _ _, by simp [hc], fun _ => rfl⟩)
  refine hcar.when fun ho => hcar.raiseAlone fun hx => hx.no_return ?_
  have hopen : (Machine.carTo (Carriage.reset x.now) (setStation (fun t => { t with service := none }) x)).station.car.state = .open :=
    of_decide_eq_true ho
  simp [hopen]

end Keeps

end Sys2Proof.Machine
end

section
/-! ## What an event keeps (O57 to O60): services (Chapter 7) -/

namespace Sys2Proof.Machine

open Sys2Proof

set_option Elab.async false

namespace Keeps

variable {long : Bool} {w x : Work}

/-- A service is taken or goes on while no reset's return runs. -/
theorem setService {v : Service} (h : Keeps long w x)
    (hn : x.cutOk → x.station.car.resetReturn = none) : Keeps long w (setStation (fun t => { t with service := some v }) x) :=
  h.trans ⟨id, id, id, id, id, fun hx => ⟨hx.1, hx.2.1, fun hr => by simp [hn hx] at hr⟩, rfl, rfl, id, id⟩

theorem endStep {o : Code} (h : Keeps long w x) : Keeps long w (endStep o x) := h.post

theorem sledStep {g : CarState} (h : Keeps long w x) : Keeps long w (sledStep g x) := by
  refine ite (fun _ => modService (h.carAside rfl)) fun _ => ite (fun _ => h.endStep) fun _ => ?_
  split
  · next hs => exact modService (h.carSled (fun hc => hc.no_return (by simp [hs])) rfl)
  · next hs => exact modService (h.carSled (fun hc => hc.no_return (by simp [hs])) rfl)
  · exact h.modService
  · exact h.endStep

theorem askInk {v : Service} (h : Keeps long w x) : Keeps long w (askInk v x) :=
  ite (fun _ => h.raiseIfShort.raiseIfShort.modService.giveUpWaits.endStep) fun _ =>
    ite (fun _ => h.raiseIfShort.raiseIfShort.modService.endStep) fun _ => h.raiseIfShort.raiseIfShort.modService

theorem addServiced {ch : Chan} {n : Nat} (h : Keeps long w x) : Keeps long w (addServiced ch n x) := h.modService

theorem suctionStep {v : Service} (h : Keeps long w x) : Keeps long w (suctionStep v x) :=
  ite (fun _ => credit (forEach _ h.startSuction fun _ _ k => k.debitVolume.addServiced)) fun _ => h.endStep

theorem wipeStep (h : Keeps long w x) : Keeps long w (wipeStep x) :=
  ite (fun _ => h.modService.tryMove) fun _ => h.modService.askCarMove

theorem spitChannel {ch : Chan} (h : Keeps long w x) : Keeps long w (spitChannel ch x) :=
  h.debitDrops.credit.addServiced.restartWet

theorem spitStep {v : Service} (h : Keeps long w x) : Keeps long w (spitStep v x) :=
  modService (forEach _ h fun _ _ k => k.spitChannel)

theorem runStep {v : Service} (h : Keeps long w x) : Keeps long w (runStep v x) := by
  unfold Machine.runStep
  cases v.step with
  | uncap => exact h.sledStep
  | cap => exact h.sledStep
  | precondition => exact h.askInk
  | suction => exact h.suctionStep
  | wipe => exact h.wipeStep
  | wipe2 => exact h.wipeStep
  | spit => exact h.spitStep

theorem startStep {hd : Head} {st : ServiceStep} (h : Keeps long w x) : Keeps long w (startStep hd st x) := by
  unfold Machine.startStep
  dsimp only
  split
  · exact h.modService.runStep
  · exact h.modService

theorem takeService {b : ServiceBy} {m : Heads Bool} {l : Nat} (h : Keeps long w x) (hn : x.cutOk → x.station.car.resetReturn = none) :
    Keeps long w (takeService b m l x) := by
  unfold Machine.takeService
  split
  · exact h
  · exact startStep (setServiceClaim (h.setService hn))

end Keeps

/-- A service is taken only of a parked carriage (R140). -/
theorem parked_of_serviceRefusal {r : Bool} {m : Heads Bool} {l : Nat} {s : State} (h : serviceRefusal r m l s = none) :
    s.station.car.state.isParked = true := by
  by_contra hp
  rw [serviceRefusal, if_pos (by simpa using hp)] at h
  cases h

theorem State.cutOk.no_return_of_parked {s : State} (h : s.cutOk) (hp : s.station.car.state.isParked = true) :
    s.station.car.resetReturn = none :=
  h.no_return fun hs => by simp [hs, CarState.isParked] at hp

namespace Keeps

variable {long : Bool} {w x : Work}

theorem service {tag hs l : Nat} (h : Keeps true w x) : Keeps true w (service tag hs l x) := by
  unfold Machine.service
  split
  · refine ite (fun _ => h.refuse) fun _ => ?_
    split
    · exact h.refuse
    · next hr => exact h.started.takeService fun hc => hc.no_return_of_parked (parked_of_serviceRefusal hr)
  · exact h.refuse

theorem endService {v : Service} {o : Code} {e : Option Head} (h : Keeps long w x) : Keeps long w (endService v o e x) := by
  have hclosed := h.writeBackWaste.setServiceClaim (v := false) |>.testHold.post (r := .carriageParked)
  unfold Machine.endService
  dsimp only
  split
  · exact hclosed.opDone.noService.tryMove
  · exact hclosed.post.noService.tryMove

theorem completeHead {v : Service} (h : Keeps long w x) (hv : x.station.service.isSome) : Keeps long w (completeHead v x) := by
  have hset : Keeps long w (setStation (fun t => { t with service := some { v with completed := v.completed ++ [v.head] } }) x) :=
    h.frame (by simp [Work.kept, hv])
  have hdone := (forEach (f := Machine.restartWet) (headChans v.head) hset fun _ _ k => k.restartWet).setCleanDue
    (hd := v.head) (v := false)
  unfold Machine.completeHead
  dsimp only
  split
  · exact hdone.startStep
  · exact hdone.endService

theorem onStepEnded {o : Code} (h : Keeps long w x) : Keeps long w (onStepEnded o x) := by
  unfold Machine.onStepEnded
  split
  · next hv =>
    refine ite (fun _ => ?_) fun _ => h.endService
    split
    · exact h.startStep
    · exact h.completeHead (by simp [hv])
  · exact h

theorem onSledEnded {b : Bool} (h : Keeps long w x) : Keeps long w (onSledEnded b x) := by
  unfold Machine.onSledEnded
  split
  · exact ite (fun _ => ite (fun _ => h.endStep) fun _ => h.runStep) fun _ => h
  · exact h

theorem onFillAnswered {ch : Chan} (h : Keeps long w x) : Keeps long w (onFillAnswered ch x) := by
  unfold Machine.onFillAnswered
  split
  · exact ite (fun _ => h.askInk) fun _ => h
  · exact h

theorem endWait (h : Keeps long w x) : Keeps long w (endWait x) := h.modService.giveUpWaits.endStep

theorem serviceHearsInk {ch : Chan} {c : InkChange} (h : Keeps long w x) : Keeps long w (serviceHearsInk ch c x) := by
  unfold Machine.serviceHearsInk
  split
  · exact ite (fun _ => h.endWait) fun _ => h
  · exact h

theorem prePurgeWaitEnd (h : Keeps long w x) : Keeps long w (prePurgeWaitEnd x) := by
  unfold Machine.prePurgeWaitEnd
  split
  · exact ite (fun _ => h.endWait) fun _ => h
  · exact h

theorem onSuctionEnded {o : Code} (h : Keeps long w x) : Keeps long w (onSuctionEnded o x) := by
  unfold Machine.onSuctionEnded
  split
  · exact ite (fun _ => h.endStep) fun _ => h
  · exact h

theorem serviceCarMoveEnded {o : Code} (h : Keeps long w x) : Keeps long w (serviceCarMoveEnded o x) := by
  unfold Machine.serviceCarMoveEnded
  split
  · exact ite (fun _ => h.endStep) fun _ => h
  · exact h

theorem serviceAskAgain (h : Keeps long w x) : Keeps long w (serviceAskAgain x) := by
  unfold Machine.serviceAskAgain
  split
  · exact ite (fun _ => h.modService.runStep) fun _ => h
  · exact h

theorem spitFiringEnd (h : Keeps long w x) : Keeps long w (spitFiringEnd x) := by
  unfold Machine.spitFiringEnd
  split
  · exact ite (fun _ => h.modService.endStep) fun _ => h
  · exact h

end Keeps

end Sys2Proof.Machine
end

section
/-! ## What an event keeps (O57 to O60): the media path controller (Chapter 2) -/

namespace Sys2Proof.Machine

open Sys2Proof

set_option Elab.async false

namespace Keeps

variable {long : Bool} {w x : Work}

/-! ### Records, notices, cuts -/

theorem modRoll {s : Slot} {f : Roll → Roll} (h : Keeps long w x) : Keeps long w (modRoll s f x) := h.modMedia
theorem modSeq {f : Sequence → Sequence} (h : Keeps long w x) : Keeps long w (modSeq f x) := h.modMedia
theorem setOwner {o : Owner} (h : Keeps long w x) : Keeps long w (setOwner o x) := h.modMedia
theorem setContent {c : Content} (h : Keeps long w x) : Keeps long w (setContent c x) := h.modMedia
theorem pathFault {c : Code} {s : Option Slot} (h : Keeps long w x) : Keeps long w (pathFault c s x) := event h.modMedia

/-- A change of the cut: what runs of it afterwards runs under a granted hold. -/
theorem setCut {f : Media → Media} (h : Keeps long w x)
    (hf : ∀ c, (f x.media).cut = some c → c.start.isSome → x.station.car.hold = .granted) : Keeps long w (Machine.modMedia f x) :=
  h.trans ⟨id, id, id, id, id, fun hx => ⟨hx.1, hf, hx.2.2⟩, rfl, rfl, id, id⟩

theorem requestCut {o : Owner} {p : Piece} (h : Keeps long w x) : Keeps long w (requestCut o p x) := by
  refine ite (fun _ => h) fun _ => askHold (h.setCut ?_)
  rintro c ⟨⟩ hs
  simp at hs

theorem onHoldGranted (h : Keeps long w x) : Keeps long w (onHoldGranted x) := by
  unfold Machine.onHoldGranted
  split
  · exact ite (fun hg => post (h.setCut fun _ _ _ => hg)) fun _ => h
  · next hc => exact h.giveUpHold fun c hx => by simp [hc] at hx

/-- The cut is over: the hold is given up. -/
theorem cutOver (h : Keeps long w x) : Keeps long w (Machine.giveUpHold (Machine.modMedia (fun m => { m with cut := none }) x)) :=
  (h.setCut (f := fun m => { m with cut := none }) nofun).giveUpHold nofun

theorem cutComplete (h : Keeps long w x) : Keeps long w (cutComplete x) := by
  unfold Machine.cutComplete
  split
  · refine post (whenever h.cutOver.feedCut.setContent fun k => k.modMedia ?_)
    rfl
  · exact h

theorem cutterTimeout (h : Keeps long w x) : Keeps long w (cutterTimeout x) := by
  unfold Machine.cutterTimeout
  split
  · exact ite (fun _ => h.cutOver.pathFault.post) fun _ => h
  · exact h

/-! ### The starts of the sequences -/

theorem ejectMove {a : Nat} (h : Keeps long w x) : Keeps long w (ejectMove a x) := h.askMove
theorem ejectMoves {s : Slot} (h : Keeps long w x) : Keeps long w (ejectMoves s x) :=
  ite (fun _ => h.modSeq.ejectMove) fun _ => h.modSeq.ejectMove
theorem startEjection {s : Slot} (h : Keeps long w x) : Keeps long w (startEjection s x) := ejectMoves h.modMedia
theorem startLoadPart {s : Slot} (h : Keeps long w x) : Keeps long w (startLoadPart s x) := h.setOwner.modSeq.askMove
theorem unloadRewind (h : Keeps long w x) : Keeps long w (unloadRewind x) := h.modSeq.askMove
theorem startUnloadPart (h : Keeps long w x) : Keeps long w (startUnloadPart x) :=
  ite (fun _ => h.setOwner.modSeq.requestCut) fun _ => h.setOwner.unloadRewind
theorem takeSeq {q : Sequence} (h : Keeps long w x) : Keeps long w (takeSeq q x) := setMediaClaim h.modMedia

theorem startSwitch {j : Job} {t : Option Nat} {s : Slot} (h : Keeps long w x) : Keeps long w (startSwitch j t s x) := by
  unfold Machine.startSwitch
  dsimp only
  split
  · exact h.takeSeq.startUnloadPart
  · exact h.takeSeq.startLoadPart

theorem startAuto (h : Keeps long w x) : Keeps long w (startAuto x) := by
  unfold Machine.startAuto
  split
  · exact startSwitch h.event
  · exact h

theorem lookSwitch (h : Keeps long w x) : Keeps long w (lookSwitch x) := by
  unfold Machine.lookSwitch
  split
  · exact h
  · exact h
  · exact h.startAuto
  · exact h.modMedia

theorem handOn (h : Keeps long w x) : Keeps long w (handOn x) := by
  unfold Machine.handOn
  split
  · exact h.startEjection
  · exact h.startEjection
  · exact h.startEjection
  · exact h.setOwner.lookSwitch

theorem trySwitch (h : Keeps long w x) : Keeps long w (trySwitch x) := h.whenever lookSwitch
theorem dropSwitch (h : Keeps long w x) : Keeps long w (dropSwitch x) := h.modMedia
theorem releasePath {o : Owner} (h : Keeps long w x) : Keeps long w (releasePath o x) := ite (fun _ => h.handOn) fun _ => h

/-! ### The ends of the sequences -/

theorem seqNotices {q : Sequence} {o : Code} {b : Bool} (h : Keeps long w x) : Keeps long w (seqNotices q o b x) := by
  unfold Machine.seqNotices
  dsimp only
  split
  · exact (h.opDone.whenever event).whenever event
  · exact (h.opDone.whenever event).whenever event
  · exact (h.opDone.whenever event).whenever event
  · exact (h.whenever event).whenever event

theorem endSeq {q : Sequence} {o : Code} {b : Bool} (h : Keeps long w x) : Keeps long w (endSeq q o b x) :=
  seqNotices (handOn (setMediaClaim h.modMedia))

theorem completeLoad {q : Sequence} (h : Keeps long w x) : Keeps long w (completeLoad q x) := h.modRoll.setContent.feedLoaded.endSeq
theorem failLoad {q : Sequence} {c : Code} {n : Option Nat} (h : Keeps long w x) : Keeps long w (failLoad q c n x) := askMove h.modMedia

theorem loadRewound {q : Sequence} {o : MoveOutcome} (h : Keeps long w x) : Keeps long w (loadRewound q o x) :=
  ite (fun _ => h.modRoll.endSeq) fun _ => h.modRoll.pathFault.endSeq

theorem loadNamed {q : Sequence} (h : Keeps long w x) : Keeps long w (loadNamed q x) := by
  unfold Machine.loadNamed
  split
  · exact ite (fun _ => h.startLoadPart) fun _ => h.endSeq
  all_goals exact h.endSeq

theorem unloadRewound {q : Sequence} {r : MoveReport} (h : Keeps long w x) : Keeps long w (unloadRewound q r x) :=
  ite (fun _ => ite (fun _ => h.modRoll.setContent.endSeq) fun _ => h.modRoll.setContent.loadNamed) fun _ =>
    h.modRoll.pathFault.endSeq

theorem askWidthScan (h : Keeps long w x) : Keeps long w (askWidthScan x) :=
  ite (fun _ => h.modSeq) fun _ => h.modSeq.askCarMove

theorem edgeSearchEnded {q : Sequence} {r : MoveReport} (h : Keeps long w x) : Keeps long w (edgeSearchEnded q r x) := by
  have hseq {q : Sequence} : Keeps long w (Machine.modMedia (fun m => { m with seq := some q }) x) := h.modMedia
  refine ite (fun _ => hseq.failLoad) fun _ => ?_
  dsimp only
  split
  · exact hseq.failLoad
  · exact hseq.failLoad
  · exact ite (fun _ => hseq.askWidthScan) fun _ => hseq.failLoad

theorem widthScanned {q : Sequence} {o : Code} {n : Nat} (h : Keeps long w x) : Keeps long w (widthScanned q o n x) :=
  ite (fun _ => h.failLoad) fun _ => ite (fun _ => h.failLoad) fun _ => askMove h.modMedia

theorem leadTrimEnded {q : Sequence} {r : MoveReport} (h : Keeps long w x) : Keeps long w (leadTrimEnded q r x) :=
  ite (fun _ => h.failLoad) fun _ => ite (fun _ => h.completeLoad) fun _ => requestCut h.modMedia

theorem ejectFailed {s : Slot} {c : Code} (h : Keeps long w x) : Keeps long w (ejectFailed s c x) :=
  handOn (h.pathFault.modRoll.modMedia)

theorem ejectDone {s : Slot} (h : Keeps long w x) : Keeps long w (ejectDone s x) := by
  unfold Machine.ejectDone
  refine handOn (modMedia h.modRoll ?_)
  rfl

theorem ejectMoveEnded {q : Sequence} {r : MoveReport} (h : Keeps long w x) : Keeps long w (ejectMoveEnded q r x) :=
  ite (fun _ => h.ejectFailed) fun _ => ite (fun _ => ite (fun _ => h.ejectFailed) fun _ => h.modSeq.ejectMove) fun _ => h.ejectDone

/-! ### What the media path controller hears -/

theorem accountMove {r : MoveReport} (h : Keeps long w x) : Keeps long w (accountMove r x) := by
  unfold Machine.accountMove
  split
  · exact ite (fun _ => h.modRoll) fun _ => h
  · exact h

theorem mediaMoveEnded {r : MoveReport} (h : Keeps long w x) : Keeps long w (mediaMoveEnded r x) := by
  unfold Machine.mediaMoveEnded
  split
  · split
    · exact h.edgeSearchEnded
    · exact h.leadTrimEnded
    · exact h.loadRewound
    · exact h.unloadRewound
    · exact h.ejectMoveEnded
    · exact h.ejectMoveEnded
    · exact h
  · exact h

theorem dirtyCutJammed {q : Sequence} (h : Keeps long w x) : Keeps long w (dirtyCutJammed q x) := h.modRoll.endSeq

theorem mediaCutEnded {b : Bool} (h : Keeps long w x) : Keeps long w (mediaCutEnded b x) := by
  unfold Machine.mediaCutEnded
  split
  · split
    · exact ite (fun _ => h.dirtyCutJammed) fun _ => h.unloadRewind
    · exact ite (fun _ => h.modRoll.endSeq) fun _ => h.completeLoad
    · exact ite (fun _ => handOn h.modRoll.modMedia) fun _ => h.modRoll.ejectMoves
    all_goals exact h
  · exact h

theorem mediaCarMoveEnded {m : CarMove} {o : Code} (h : Keeps long w x) : Keeps long w (mediaCarMoveEnded m o x) := by
  unfold Machine.mediaCarMoveEnded
  split
  · split
    · exact h.widthScanned
    · exact h.ejectMoves
    all_goals exact h
  · exact h

theorem mediaAskAgain (h : Keeps long w x) : Keeps long w (mediaAskAgain x) := by
  unfold Machine.mediaAskAgain
  split
  · exact ite (fun _ => h.askWidthScan) fun _ => h
  · exact h

/-! ### Roll switches, roll ends, sensors -/

theorem standbyEnded {s : Slot} (h : Keeps long w x) : Keeps long w (standbyEnded s x) := dropSwitch h.modRoll.event

theorem threadedEnded {s : Slot} (h : Keeps long w x) : Keeps long w (threadedEnded s x) :=
  (h.modRoll.modMedia (f := fun m => { m with ejecting := some s })).event.post.whenever startEjection

theorem loadEnded {q : Sequence} (h : Keeps long w x) : Keeps long w (loadEnded q x) :=
  event (seqNotices (whenever (setMediaClaim (modMedia h.stopMove.modRoll.dropSwitch)) ejectMoves))

theorem rollEndReport {s : Slot} (h : Keeps long w x) : Keeps long w (rollEndReport s x) := by
  unfold Machine.rollEndReport
  split
  · refine ite (fun _ => h.loadEnded) fun _ => ite (fun _ => h) fun _ => ?_
    split
    · exact h.threadedEnded
    · exact h.standbyEnded
    all_goals exact h
  · split
    · exact h.threadedEnded
    · exact h.standbyEnded
    all_goals exact h

theorem rollPresentClose {s : Slot} {b : Bool} (h : Keeps long w x) : Keeps long w (rollPresentClose s b x) :=
  ite (fun _ => (h.modMedia (f := fun m => { m with present := m.present.set s true })).modRoll.whenever standbyEnded) fun _ => h.modMedia

theorem rollPresentOpen {s : Slot} (h : Keeps long w x) : Keeps long w (rollPresentOpen s x) := by
  have hopen : Keeps long w (Machine.modMedia (fun m => { m with present := m.present.set s false }) x) := h.modMedia
  refine ite (fun _ => hopen.rollEndReport) fun _ => ?_
  split
  · exact hopen.rollEndReport
  · exact hopen.modRoll.dropSwitch
  · exact hopen.modRoll.dropSwitch
  · exact ite (fun _ => hopen) fun _ => hopen.modRoll
  · exact hopen

theorem edgeSeen {e : EdgeSensor} {l n : Nat} {q : Sequence} (h : Keeps long w x) : Keeps long w (edgeSeen e l q n x) := by
  unfold Machine.edgeSeen
  split
  · exact h.modSeq
  · exact ite (fun _ => h.modSeq.stopMove) fun _ => h

theorem leadEdgeChange {e : EdgeSensor} {b : Bool} {l : Nat} (h : Keeps long w x) : Keeps long w (leadEdgeChange e b l x) := by
  have hleft : Keeps long w (Machine.modMedia (fun m => { m with edgeLeft := b }) x) := h.modMedia
  have hright : Keeps long w (Machine.modMedia (fun m => { m with edgeRight := b }) x) := h.modMedia
  cases e with
  | left =>
    unfold Machine.leadEdgeChange
    dsimp only
    split
    · exact ite (fun _ => hleft.edgeSeen) fun _ => hleft
    · exact hleft
  | right =>
    unfold Machine.leadEdgeChange
    dsimp only
    split
    · exact ite (fun _ => hright.edgeSeen) fun _ => hright
    · exact hright

theorem pathEntryChange {s : Slot} {b : Bool} {l : Nat} (h : Keeps long w x) : Keeps long w (pathEntryChange s b l x) := by
  unfold Machine.pathEntryChange
  dsimp only
  split
  · exact ite (fun _ => stopMove h.modMedia) fun _ => h.modMedia
  · exact h.modMedia

theorem exitPass (h : Keeps long w x) : Keeps long w (exitPass x) := ite (fun _ => post h.modMedia) fun _ => h

theorem exitWatchTimeout (h : Keeps long w x) : Keeps long w (exitWatchTimeout x) := by
  unfold Machine.exitWatchTimeout
  split
  · exact ite (fun _ => post (pathFault h.modMedia)) fun _ => h
  · exact h

theorem basketEmptied (h : Keeps long w x) : Keeps long w (basketEmptied x) := post h.modMedia

/-! ### The requests about media, and the reset -/

theorem mediaLoad {t s n : Nat} {r : Option Nat} {p : Nat} (h : Keeps true w x) : Keeps true w (mediaLoad t s n r p x) := by
  unfold Machine.mediaLoad
  split
  · exact h.refuse
  · refine ite (fun _ => h.refuse) fun _ => ?_
    split
    · exact h.refuse
    · exact h.started.modRoll.takeSeq.startLoadPart

theorem mediaUnload {t : Nat} (h : Keeps true w x) : Keeps true w (mediaUnload t x) := by
  refine ite (fun _ => h.refuse) fun _ => ite (fun _ => h.refuse) fun _ => ?_
  split
  · exact h.refuse
  · exact ite (fun _ => h.refuse) fun _ => h.started.takeSeq.startUnloadPart

theorem rollSelect {t s : Nat} (h : Keeps true w x) : Keeps true w (rollSelect t s x) := by
  unfold Machine.rollSelect
  split
  · exact h.refuse
  · exact ite (fun _ => h.okWith) fun _ => ite (fun _ => h.refuse) fun _ => ite (fun _ => h.refuse) fun _ => ite (fun _ => h.refuse)
      fun _ => ite (fun _ => h.refuse) fun _ => ite (fun _ => h.refuse) fun _ => h.started.startSwitch

theorem profileSet {i : Nat} {f : ProfileFields} (h : Keeps long w x) : Keeps long w (profileSet i f x) := by
  unfold Machine.profileSet
  split
  · exact h.refuse
  · exact ite (fun _ => h.refuse) fun _ => ite (fun _ => h.refuse) fun _ => okWith h.modMedia

theorem profileRead {i : Nat} (h : Keeps long w x) : Keeps long w (profileRead i x) := by
  refine ite (fun _ => h.refuse) fun _ => ?_
  split
  · exact h.okWith
  · exact h.okWith

theorem pathClear (h : Keeps long w x) : Keeps long w (pathClear x) :=
  ite (fun _ => h.refuse) fun _ => trySwitch (post (modMedia h.okWith))

theorem resetMedia (h : Keeps long w x) : Keeps long w (resetMedia x) := h.setCut nofun

theorem ejectAfterReset (h : Keeps long w x) : Keeps long w (ejectAfterReset x) := by
  unfold Machine.ejectAfterReset
  split
  · exact h.whenever startEjection
  · exact h

end Keeps

end Sys2Proof.Machine
end

section
/-! ## What an event keeps (O57 to O60): the sheet transaction unit (Chapter 3) -/

namespace Sys2Proof.Machine

open Sys2Proof

set_option Elab.async false

namespace Keeps

variable {long : Bool} {w x : Work}

/-! ### Notices, faults, the cut -/

theorem sheetEvent {k : Nat} {i : List Byte} (h : Keeps long w x) : Keeps long w (sheetEvent k i x) := h.event

theorem swathDone {t : Nat} {o m : Code} {c s : Nat} {d : Option Nat} {u : Int} (h : Keeps long w x) :
    Keeps long w (swathDone t o m c s d u x) := h.give rfl

theorem openDone {t : Nat} (h : Keeps long w x) : Keeps long w (openDone t x) := h.opDone
theorem openFailed {t : Nat} {c : Code} (h : Keeps long w x) : Keeps long w (openFailed t c x) := h.opDone
theorem cutDone {k t : Nat} {c : Code} (h : Keeps long w x) : Keeps long w (cutDone k t c x) := h.opDone
theorem sheetMove {p : Purpose} {a : Nat} (h : Keeps long w x) : Keeps long w (sheetMove p a x) := h.askMove

theorem discardWaiting (h : Keeps long w x) : Keeps long w (discardWaiting x) :=
  forEach _ h fun _ _ k => k.modSheet.swathDone

theorem endOperation {c : Code} {p : SheetPhase} (h : Keeps long w x) : Keeps long w (endOperation c p x) := by
  unfold Machine.endOperation
  dsimp only
  split <;> [apply cutDone; apply openFailed; skip]
  all_goals
    split <;> [apply cutDone; skip]
  all_goals
    split <;> [apply openFailed; skip]
  all_goals exact h.modSheet

theorem faultNow {c : Code} (h : Keeps long w x) : Keeps long w (faultNow c x) :=
  h.modSheet.discardWaiting.endOperation.sheetEvent

theorem sheetFault {st : List SheetPhase} {c : Code} (h : Keeps long w x) : Keeps long w (sheetFault st c x) :=
  ite (fun _ => h.faultNow) fun _ => h

theorem askRoom (h : Keeps long w x) : Keeps long w (askRoom x) := ite (fun _ => h.modSheet.requestCut) fun _ => h.modSheet
theorem enterCutWait (h : Keeps long w x) : Keeps long w (enterCutWait x) := h.modSheet.sheetEvent.askRoom

/-! ### The queue, the tail, drying, the open -/

theorem startHead {e : Swath} (h : Keeps long w x) : Keeps long w (startHead e x) := h.modSheet.sheetMove

theorem enterDrying (h : Keeps long w x) : Keeps long w (enterDrying x) :=
  ite (fun _ => h.modSheet.sheetEvent.enterCutWait) fun _ => h.modSheet.sheetEvent

theorem tailDone (h : Keeps long w x) : Keeps long w (tailDone x) := h.modSheet.enterDrying
theorem nextTail (h : Keeps long w x) : Keeps long w (nextTail x) := ite (fun _ => h.tailDone) fun _ => h.sheetMove
theorem enterTail (h : Keeps long w x) : Keeps long w (enterTail x) := h.modSheet.sheetEvent.nextTail

theorem sheetLook (h : Keeps long w x) : Keeps long w (sheetLook x) := by
  unfold Machine.sheetLook
  split
  · exact h.startHead
  · exact ite (fun _ => h.enterTail) fun _ => h

theorem marginDone (h : Keeps long w x) : Keeps long w (marginDone x) := by
  unfold Machine.marginDone
  dsimp only
  split
  · exact h.modSheet.openDone.modSheet.sheetLook
  · exact h.modSheet.modSheet.sheetLook

theorem feedMargin (h : Keeps long w x) : Keeps long w (feedMargin x) := ite (fun _ => h.marginDone) fun _ => h.sheetMove

theorem beginSheet {q : OpenReq} (h : Keeps long w x) : Keeps long w (beginSheet q x) :=
  ite (fun _ => h.modSheet.requestCut) fun _ => h.modSheet.feedMargin

theorem reopen {q : OpenReq} (h : Keeps long w x) : Keeps long w (reopen q x) :=
  ite (fun _ => h.modSheet.faultNow) fun _ => ite (fun _ => h.modSheet.faultNow) fun _ => h.beginSheet

/-! ### The end of a sheet, and what the sheet unit hears -/

theorem endSheet (h : Keeps long w x) : Keeps long w (endSheet x) := by
  have hended := (h.modSheet (f := closedSheet)).releasePath (o := .sheet)
  unfold Machine.endSheet
  dsimp only
  split
  · exact ite (fun _ => h.reopen) fun _ => hended.openFailed
  · exact hended.cutDone
  · exact hended.cutDone
  · exact hended

theorem abortGoesOn (h : Keeps long w x) : Keeps long w (abortGoesOn x) :=
  ite (fun _ => h) fun _ => ite (fun _ => h.enterCutWait) fun _ => h.modSheet.endSheet

theorem marginEnded {r : MoveReport} (h : Keeps long w x) : Keeps long w (marginEnded r x) :=
  ite (fun _ => ite (fun _ => h.faultNow) fun _ => h.marginDone) fun _ => h.abortGoesOn

theorem swathEnded {r : MoveReport} (h : Keeps long w x) : Keeps long w (swathEnded r x) := by
  unfold Machine.swathEnded
  split
  · exact h
  · exact ite (fun _ => ite (fun _ => h.modSheet.swathDone.faultNow) fun _ => h.modSheet.swathDone.sheetLook) fun _ =>
      h.modSheet.swathDone.abortGoesOn

theorem tailEnded {r : MoveReport} (h : Keeps long w x) : Keeps long w (tailEnded r x) :=
  ite (fun _ => ite (fun _ => h.faultNow) fun _ => h.modSheet.nextTail) fun _ => h.abortGoesOn

theorem sheetMoveEnded {r : MoveReport} (h : Keeps long w x) : Keeps long w (sheetMoveEnded r x) := by
  have hfed := h.modSheet (f := fun y => { y with fed := y.fed || decide (0 < r.seen) })
  refine ite (fun _ => h) fun _ => ?_
  dsimp only
  split
  · exact hfed.marginEnded
  · exact hfed.swathEnded
  · exact hfed.tailEnded
  all_goals exact hfed

theorem sheetCutStarted (h : Keeps long w x) : Keeps long w (sheetCutStarted x) :=
  ite (fun _ => h.modSheet.sheetEvent) fun _ => h

theorem sheetCutEnded {p : Piece} {b : Bool} (h : Keeps long w x) : Keeps long w (sheetCutEnded p b x) := by
  cases p with
  | scrap =>
    exact ite (fun _ => ite (fun _ => h.faultNow) fun _ => h) fun _ => ite (fun _ => h.feedMargin) fun _ => h.abortGoesOn
  | sheet => exact ite (fun _ => h) fun _ => ite (fun _ => h.faultNow) fun _ => h.modSheet.sheetEvent

theorem sheetExitEnded {b : Bool} (h : Keeps long w x) : Keeps long w (sheetExitEnded b x) :=
  ite (fun _ => h) fun _ => ite (fun _ => h.faultNow) fun _ => h.sheetEvent.endSheet

theorem sheetRoom (h : Keeps long w x) : Keeps long w (sheetRoom x) := ite (fun _ => h.askRoom) fun _ => h

theorem sheetRollEnded (h : Keeps long w x) : Keeps long w (sheetRollEnded x) :=
  ite (fun _ => h.modSheet) fun _ => h.sheetFault

theorem sheetPathCleared (h : Keeps long w x) : Keeps long w (sheetPathCleared x) :=
  ite (fun _ => h.modSheet.releasePath) fun _ => h

theorem rememberDry {ch : Chan} (h : Keeps long w x) : Keeps long w (rememberDry ch x) := by
  unfold Machine.rememberDry
  split
  · exact ite (fun _ => h.modSheet) fun _ => h
  · exact h

theorem sheetHearsInk {ch : Chan} {c : InkChange} (h : Keeps long w x) : Keeps long w (sheetHearsInk ch c x) := by
  have hdry := h.whenever (c := decide (c = .dry)) (f := Machine.rememberDry ch) rememberDry
  refine ite (fun _ => hdry) fun _ => ?_
  cases c with
  | dry => exact hdry.whenever sheetFault
  | hold => exact ite (fun _ => hdry.sheetFault) fun _ => hdry.whenever sheetLook
  | supply => exact ite (fun _ => hdry.sheetFault) fun _ => hdry.whenever sheetLook

theorem dryEnd (h : Keeps long w x) : Keeps long w (dryEnd x) := ite (fun _ => h.enterCutWait) fun _ => h

/-! ### The ink of a request, and the requests -/

theorem printDrops {p : Chans Nat} {ch : Chan} {y : Nat × Work} (h : Keeps long w y.2) : Keeps long w (printDrops p ch y).2 := by
  unfold Machine.printDrops
  split
  · exact h
  · exact h.debitDrops

theorem printAll {p : Chans Nat} {chs : List Chan} {y : Nat × Work} (h : Keeps long w y.2) :
    Keeps long w (chs.foldl (fun z ch => Machine.printDrops p ch z) y).2 := by
  induction chs generalizing y with
  | nil => exact h
  | cons ch chs ih => exact ih h.printDrops

theorem spitDrops {p : Chans Nat} {ch : Chan} (h : Keeps long w x) : Keeps long w (spitDrops p ch x) :=
  ite (fun _ => h) fun _ => h.debitDrops.credit

theorem takeDrops {p q : Chans Nat} (h : Keeps long w x) : Keeps long w (takeDrops p q x).2 :=
  forEach _ (forEach _ (printAll (y := (0, x)) h) fun _ _ k => k.spitDrops) fun _ _ k => k.whenever restartWet

theorem openShort {q : OpenReq} (h : Keeps long w x) : Keeps long w (openShort q x) := by
  refine ite (fun _ => ?_) fun _ => h.refuse
  split
  · exact trySwitch (modMedia h.waitReply)
  · exact h.refuse

theorem openTaken {q : OpenReq} (h : Keeps true w x) : Keeps true w (openTaken q x) :=
  ite (fun _ => ite (fun _ => h.started.setOwner.beginSheet) fun _ => h.waitReply) fun _ =>
    h.started.modSheet.discardWaiting.abortGoesOn

theorem sheetOpen {t l c k : Nat} (h : Keeps true w x) : Keeps true w (sheetOpen t l c k x) := by
  unfold Machine.sheetOpen
  split
  · exact h.refuse
  · split
    · exact h.refuse
    · exact h.waitReply
    · exact h.openShort
    · exact h.openTaken

theorem swath {t a : Nat} {p q : Chans Nat} (h : Keeps true w x) : Keeps true w (swath t a p q x) := by
  unfold Machine.swath
  split
  · exact h.refuse
  · exact ite (fun _ => h.refuse.faultNow) fun _ => (h.takeDrops.modSheet.answerWith fun _ => rfl).post

theorem sheetClose {t : Nat} {p q : Chans Nat} (h : Keeps true w x) : Keeps true w (sheetClose t p q x) := by
  unfold Machine.sheetClose
  split
  · exact h.refuse
  · exact h.takeDrops.started.modSheet.post

theorem endAborted (h : Keeps long w x) : Keeps long w (endAborted x) := by
  unfold Machine.endAborted
  dsimp only
  split <;> [apply cutDone; skip]
  all_goals split <;> [apply openFailed; skip]
  all_goals exact h.modSheet

theorem sheetAbort {t : Nat} {p q : Chans Nat} (h : Keeps true w x) : Keeps true w (sheetAbort t p q x) := by
  unfold Machine.sheetAbort
  split
  · exact h.refuse
  · exact h.takeDrops.started.modSheet.discardWaiting.endAborted.abortGoesOn

theorem resetSheet (h : Keeps long w x) : Keeps long w (resetSheet x) := h.modSheet

end Keeps

end Sys2Proof.Machine
end

section
/-! ## What an event keeps (O57 to O60): the nozzle check unit (Chapter 8) -/

namespace Sys2Proof.Machine

open Sys2Proof

set_option Elab.async false

theorem setEscalation_station (h : Head) (e : Escalation) (w : Work) : (setEscalation h e w).station = w.station := by
  unfold setEscalation
  dsimp only
  split <;> rfl

namespace Keeps

variable {long : Bool} {w x : Work}

theorem setHealth {hd : Head} {r : Row} {y : HealthRow} (h : Keeps long w x) : Keeps long w (setHealth hd r y x) := h.modChecker
theorem setNote {hd : Head} {r : Row} {f : RowNote → RowNote} (h : Keeps long w x) : Keeps long w (setNote hd r f x) := h.modCheck
theorem noteFault {c : Code} (h : Keeps long w x) : Keeps long w (noteFault c x) := h.modCheck

theorem setEscalation {hd : Head} {e : Escalation} (h : Keeps long w x) : Keeps long w (setEscalation hd e x) :=
  ite (fun _ => h) fun _ => h.modChecker.event

/-! ### Rows -/

theorem voidRow {hd : Head} {r : Row} {c : Code} (h : Keeps long w x) : Keeps long w (voidRow hd r c x) := h.setHealth.setNote

theorem evaluateRow {c : Check} {hd : Head} {r : Row} {l : List Nat} (h : Keeps long w x) : Keeps long w (evaluateRow c hd r l x) := by
  unfold Machine.evaluateRow
  split
  · exact h.voidRow
  · exact h.setHealth.setNote

theorem settleRow {c : Check} {hd : Head} {r : Row} {b : Bool} {d : Option (List Nat)} (h : Keeps long w x) :
    Keeps long w (settleRow c hd r b d x) := by
  unfold Machine.settleRow
  split
  · exact h.evaluateRow
  · exact ite (fun _ => h.voidRow) fun _ => h

theorem settleScan {c : Check} {hd : Head} {m : CarMove} (h : Keeps long w x) : Keeps long w (settleScan c hd m x) :=
  h.settleRow.settleRow

/-! ### The end of a check -/

theorem finishCheck (h : Keeps long w x) : Keeps long w (finishCheck x) := by
  unfold Machine.finishCheck
  split
  · exact h.setCheckClaim.releasePath.opDone.modChecker
  · exact h

theorem checkCut (h : Keeps long w x) : Keeps long w (checkCut x) := by
  unfold Machine.checkCut
  split
  · exact ite (fun _ => requestCut (modCheck (h.whenever noteFault))) fun _ => finishCheck (h.whenever noteFault)
  · exact h

theorem checkMove {p : Purpose} {a : Nat} (h : Keeps long w x) : Keeps long w (checkMove p a x) := h.askMove

theorem endCheck (h : Keeps long w x) : Keeps long w (endCheck x) := by
  unfold Machine.endCheck
  split
  · exact ite (fun _ => h.modCheck.checkMove) fun _ => h.modCheck.checkCut
  · exact h

theorem unlessRollEnded {f : Work → Work} (h : Keeps long w x) (hf : ∀ {y}, Keeps long w y → Keeps long w (f y)) :
    Keeps long w (unlessRollEnded f x) := by
  unfold Machine.unlessRollEnded
  split
  · exact ite (fun _ => h.noteFault.endCheck) fun _ => hf h
  · exact h

/-! ### The steps -/

theorem checkLead (h : Keeps long w x) : Keeps long w (checkLead x) := h.modCheck.checkMove
theorem checkPattern (h : Keeps long w x) : Keeps long w (checkPattern x) := h.modCheck.checkMove

theorem askScan (h : Keeps long w x) : Keeps long w (askScan x) := by
  unfold Machine.askScan
  split
  · exact ite (fun _ => h.modCheck) fun _ => h.modCheck.askCarMove
  · exact h

theorem headDone (h : Keeps long w x) : Keeps long w (headDone x) := by
  unfold Machine.headDone
  split
  · split
    · exact h.modCheck.unlessRollEnded checkPattern
    · exact h.modCheck.unlessRollEnded endCheck
  · exact h

theorem askRound {n : Nat} (h : Keeps long w x) : Keeps long w (askRound n x) := by
  unfold Machine.askRound
  split
  · dsimp only
    split
    · exact h.modCheck.setEscalation.noteFault.endCheck
    · next hr =>
      refine h.modCheck.setEscalation.modCheck.takeService fun hc => hc.no_return_of_parked ?_
      have hp := parked_of_serviceRefusal hr
      rwa [← setEscalation_station] at hp
  · exact h

theorem judgeHead {m : CarMove} (h : Keeps long w x) : Keeps long w (judgeHead m x) := by
  unfold Machine.judgeHead
  split
  · dsimp only
    split
    · exact ite (fun _ => h.setEscalation.endCheck) fun _ => h.setEscalation.headDone
    · exact h.askRound
  · exact h

theorem calibrated {a b : Option Nat} (h : Keeps long w x) : Keeps long w (calibrated a b x) := by
  unfold Machine.calibrated
  dsimp only
  split
  · exact ite (fun _ => h.modChecker.unlessRollEnded checkLead) fun _ => h.modChecker.noteFault.endCheck
  · exact h.modChecker.noteFault.endCheck

/-! ### What the nozzle check unit hears -/

theorem carriageReading {d : Nat} (h : Keeps long w x) : Keeps long w (carriageReading d x) := by
  unfold Machine.carriageReading
  split
  · split
    · exact h.modCheck
    · exact h.calibrated
    all_goals exact h.scanReading
  · exact h.scanReading

theorem calibrationTimeout (h : Keeps long w x) : Keeps long w (calibrationTimeout x) := by
  unfold Machine.calibrationTimeout
  split
  · split
    · exact ite (fun _ => h.calibrated) fun _ => h
    · exact ite (fun _ => h.calibrated) fun _ => h
    all_goals exact h
  · exact h

theorem checkMoveEnded {r : MoveReport} (h : Keeps long w x) : Keeps long w (checkMoveEnded r x) := by
  unfold Machine.checkMoveEnded
  split
  · next c _ =>
    have hfed := h.modCheck (f := fun c => { c with fed := c.fed + r.travel })
    have hnoted : Keeps long w (if r.outcome.isFault then
        Machine.noteFault r.outcome.code (Machine.when c.fault.isNone (Machine.modCheck (fun c => { c with failSeen := some r.seen }))
          (Machine.modCheck (fun c => { c with fed := c.fed + r.travel }) x))
        else Machine.modCheck (fun c => { c with fed := c.fed + r.travel }) x) :=
      ite (fun _ => noteFault (hfed.whenever modCheck)) fun _ => hfed
    dsimp only
    split
    · exact ite (fun _ => hnoted.endCheck) fun _ => hnoted.unlessRollEnded checkPattern
    · exact ite (fun _ => hnoted.endCheck) fun _ => hnoted.unlessRollEnded askScan
    · exact hnoted.checkCut
    all_goals exact hnoted
  · exact h

theorem onPassStarted {hd : Head} {r : Row} (h : Keeps long w x) : Keeps long w (onPassStarted hd r x) := h.debitDrops.modCheck

theorem checkCarMoveEnded {m : CarMove} {o : Code} (h : Keeps long w x) : Keeps long w (checkCarMoveEnded m o x) := by
  unfold Machine.checkCarMoveEnded
  split
  · exact ite (fun _ => h) fun _ => ite (fun _ => h.noteFault.endCheck) fun _ => (h.settleScan.whenever noteFault).judgeHead
  · exact h

theorem checkAskAgain (h : Keeps long w x) : Keeps long w (checkAskAgain x) := by
  unfold Machine.checkAskAgain
  split
  · exact ite (fun _ => h.askScan) fun _ => h
  · exact h

theorem onServiceEnded {r : ServiceReport} (h : Keeps long w x) : Keeps long w (onServiceEnded r x) := by
  unfold Machine.onServiceEnded
  split
  · exact ite (fun _ => h) fun _ => ite (fun _ => h.unlessRollEnded checkLead) fun _ => h.noteFault.endCheck
  · exact h

theorem checkCutEnded {b : Bool} (h : Keeps long w x) : Keeps long w (checkCutEnded b x) := by
  unfold Machine.checkCutEnded
  split
  · exact ite (fun _ => h) fun _ => ite (fun _ => h.modCheck.noteFault.finishCheck) fun _ => h.modCheck.finishCheck
  · exact h

theorem checkRollEnded (h : Keeps long w x) : Keeps long w (checkRollEnded x) := h.modCheck

/-! ### The requests, and the reset -/

theorem nozzleCheck {t m : Nat} (h : Keeps true w x) : Keeps true w (nozzleCheck t m x) := by
  unfold Machine.nozzleCheck
  split
  · exact h.refuse
  · split
    · exact h.refuse
    · split
      · exact h.refuse
      · exact h.started.setOwner.setCheckClaim.modChecker

theorem maskSet {i : Nat} {f : MaskFields} (h : Keeps long w x) : Keeps long w (maskSet i f x) := by
  unfold Machine.maskSet
  split
  · exact ite (fun _ => h.refuse) fun _ => h.modChecker.okWith
  · exact h.refuse

theorem healthRead {a b c : Nat} (h : Keeps long w x) : Keeps long w (healthRead a b c x) := by
  unfold Machine.healthRead
  split
  · exact ite (fun _ => h.refuse) fun _ => h.okWith
  · exact h.refuse

theorem resetRow {hd : Head} {r : Row} {b : Bool} (h : Keeps long w x) : Keeps long w (resetRow hd r b x) := h.whenever setHealth

theorem resetChecker (h : Keeps long w x) : Keeps long w (resetChecker x) := by
  unfold Machine.resetChecker
  dsimp only
  split
  · split
    · exact h.resetRow.resetRow.modChecker
    · exact h.modChecker
    · exact h.modChecker
  · exact h.modChecker

end Keeps

end Sys2Proof.Machine
end

section
/-! ## What an event keeps (O57 to O60): settings, reset, reports and requests (Chapters 9 and 10) -/

namespace Sys2Proof.Machine

open Sys2Proof

set_option Elab.async false

theorem clampInt_toNat_mem {lo hi : Nat} {v : Int} (h : lo ≤ hi) :
    lo ≤ (clampInt lo hi v).toNat ∧ (clampInt lo hi v).toNat ≤ hi := by
  unfold clampInt; omega

namespace Keeps

variable {long : Bool} {w x : Work}

/-! ### The configuration -/

theorem configReply {i : Nat} {a v : Int} (h : Keeps long w x) : Keeps long w (configReply i a v x) := h.okWith

/-- A parameter with a range: every value within it leaves the configuration sound. -/
theorem setNumber {i lo hi : Nat} {v : Int} {f : Conf → Nat → Conf} (h : Keeps long w x)
    (hf : x.conf.sound → lo ≤ hi ∧ ∀ n, lo ≤ n → n ≤ hi → (f x.conf n).sound) : Keeps long w (setNumber i lo hi v f x) :=
  configReply (h.setConf fun hs => by
    obtain ⟨hl, hn⟩ := hf hs
    have hv := clampInt_toNat_mem (v := v) hl
    exact hn _ hv.1 hv.2)

theorem setSwitch {i : Nat} {v : Int} {f : Conf → Bool → Conf} (h : Keeps long w x) (hf : ∀ b, x.conf.sound → (f x.conf b).sound) :
    Keeps long w (setSwitch i v f x) :=
  ite (fun _ => configReply (h.setConf (hf false))) fun _ => ite (fun _ => configReply (h.setConf (hf true))) fun _ => h.refuse

theorem setTw {i : Nat} {v : Int} (h : Keeps long w x) : Keeps long w (setTw i v x) := by
  have hv := clampInt_toNat_mem (v := v) (show 20 ≤ 200 by decide)
  refine ite (fun ht => okWith (h.setConf fun hs => ?_)) fun ht => configReply (h.setConf fun hs => ?_)
  all_goals
    unfold Conf.sound at *
    simp only [Nat.cast_ofNat] at *
    omega

theorem configSet {i : Nat} {v : Int} (h : Keeps long w x) : Keeps long w (configSet i v x) := by
  unfold Machine.configSet
  split
  · exact (h.setSwitch fun _ hs => hs).whenever modMedia
  · exact h.setSwitch fun _ hs => hs
  · exact h.setSwitch fun _ hs => hs
  · exact autoCap (h.setNumber fun hs => ⟨by decide, fun n _ _ => by unfold Conf.sound at *; dsimp only; omega⟩)
  · exact whenever (h.setNumber fun hs => ⟨by decide, fun n _ _ => by unfold Conf.sound at *; dsimp only; omega⟩) post
  · exact h.setTw
  · exact h.setNumber fun hs => ⟨by unfold Conf.sound at hs; omega, fun n _ _ => by unfold Conf.sound at *; dsimp only; omega⟩
  · exact h.setNumber fun hs => ⟨by decide, fun n _ _ => by unfold Conf.sound at *; dsimp only; omega⟩
  · exact h.setNumber fun hs => ⟨by decide, fun n _ _ => by unfold Conf.sound at *; dsimp only; omega⟩
  · exact h.setNumber fun hs => ⟨by decide, fun n _ _ => by unfold Conf.sound at *; dsimp only; omega⟩
  · exact h.setNumber fun hs => ⟨by decide, fun n _ _ => by unfold Conf.sound at *; dsimp only; omega⟩
  · exact h.setNumber fun hs => ⟨by decide, fun n _ _ => by unfold Conf.sound at *; dsimp only; omega⟩
  · exact h.setNumber fun hs => ⟨by decide, fun n _ _ => by unfold Conf.sound at *; dsimp only; omega⟩
  · exact h.refuse

theorem statusRead (h : Keeps long w x) : Keeps long w (statusRead x) := h.okWith
theorem configRead (h : Keeps long w x) : Keeps long w (configRead x) := h.okWith

theorem supplyRead {c : Nat} (h : Keeps long w x) : Keeps long w (supplyRead c x) := by
  unfold Machine.supplyRead
  split
  · exact h.okWith
  · exact h.refuse

/-! ### Mechanism reset and power-on -/

/-- The blocks act on a reset: the media path gives up its cut before the station gives up the hold (R44, R187). -/
theorem resetBlocks (h : Keeps long w x) : Keeps long w (resetBlocks x) :=
  (h.resetChecker.resetMedia.resetSheet.resetFeed.resetStation rfl).resetSupply.resetPump.ejectAfterReset

/-! ### Reports -/

theorem moveRequester {r : MoveReport} (h : Keeps long w x) : Keeps long w (moveRequester r x) := by
  unfold Machine.moveRequester
  cases r.ask.requester with
  | media => exact h.mediaMoveEnded
  | sheet => exact h.sheetMoveEnded
  | check => exact h.checkMoveEnded
  | service => exact h

theorem cutRequester {o : Owner} {p : Piece} {b : Bool} (h : Keeps long w x) : Keeps long w (cutRequester o p b x) := by
  cases o with
  | sheet => exact h.sheetCutEnded
  | check => exact h.checkCutEnded
  | loading => exact h.mediaCutEnded
  | unloading => exact h.mediaCutEnded
  | idle => exact h

theorem carMoveRequester {m : CarMove} {o : Code} (h : Keeps long w x) : Keeps long w (carMoveRequester m o x) := by
  unfold Machine.carMoveRequester
  cases m.requester with
  | media => exact h.mediaCarMoveEnded
  | check => exact h.checkCarMoveEnded
  | service => exact h.serviceCarMoveEnded
  | sheet => exact h

theorem deliver {r : Report} (h : Keeps long w x) : Keeps long w (deliver r x) := by
  cases r with
  | moveEnded r => exact h.accountMove.moveRequester.askAgainMove
  | holdGranted => exact h.onHoldGranted
  | cutStarted owner => exact h.whenever sheetCutStarted
  | cutEnded owner piece jam => exact h.cutRequester
  | exitEnded jam => exact h.sheetExitEnded
  | roomAppeared => exact h.sheetRoom
  | pathCleared => exact h.sheetPathCleared
  | rollEnded => exact h.sheetRollEnded.checkRollEnded
  | carriageParked => exact h.trySwitch
  | carMoveEnded m outcome home => exact h.carMoveRequester.post
  | askAgain => exact h.mediaAskAgain.serviceAskAgain.checkAskAgain
  | sledEnded ok => exact h.onSledEnded
  | passStarted hd r => exact h.onPassStarted
  | inkChanged ch what => exact h.sheetHearsInk.serviceHearsInk
  | requestLook ch => exact h.requestLook
  | stirLook ch => exact h.stirLook
  | fillAnswered ch => exact h.onFillAnswered
  | pumpFreed ch => exact h.pumpFreed
  | keepWetTaken ch => exact h.keepWetTaken
  | suctionEnded outcome => exact h.onSuctionEnded
  | stepEnded outcome => exact h.onStepEnded
  | serviceEnded r => exact h.onServiceEnded
  | sheetLook => exact h.sheetLook

/-- The reports of an event keep what its start keeps (R176). -/
theorem drain {n : Nat} {t : Work} (h : Keeps long w x) (hd : drain n x = some t) : Keeps long w t :=
  (drain_keeps (P := fun y => Keeps long w y) (fun _ _ y _ hy => (hy.frame (y := { y with agenda := _ })).deliver) n x t h hd).1

/-- Only a long-capable request is answered with an outstanding entry (R175, Table 9-3). -/
theorem route {q : Request} (h : Keeps (longCapable q.body) w x) : Keeps (longCapable q.body) w (route q x) := by
  obtain ⟨kind, tag, body⟩ := q
  cases body with
  | sheetOpen => exact h.sheetOpen
  | swath => exact h.swath
  | sheetClose => exact h.sheetClose
  | sheetAbort => exact h.sheetAbort
  | mediaLoad => exact h.mediaLoad
  | mediaUnload => exact h.mediaUnload
  | rollSelect => exact h.rollSelect
  | profileSet => exact h.profileSet
  | profileRead => exact h.profileRead
  | pathClear => exact h.pathClear
  | feedTrimSet => exact h.feedTrimSet
  | acceptSet => exact h.acceptSet
  | acceptRead => exact h.acceptRead
  | baySelect => exact h.baySelect
  | topUp => exact h.topUp
  | supplyRead => exact h.supplyRead
  | uncap => exact h.uncap
  | cap => exact h.cap
  | release => exact h.release
  | park => exact h.park
  | service => exact h.service
  | nozzleCheck => exact h.nozzleCheck
  | maskSet => exact h.maskSet
  | healthRead => exact h.healthRead
  | statusRead => exact h.statusRead
  | configSet => exact h.configSet
  | configRead => exact h.configRead
  | unknownKind => exact h
  | badLength => exact h
  | reset => exact h

end Keeps

end Sys2Proof.Machine
end

section
/-! ## What a step keeps (O57 to O60): the link interface, and the step -/

namespace Sys2Proof.Machine

open Sys2Proof

set_option Elab.async false

/-! ### Room in the link interface (R173, R175, R178) -/

/-- `linkOk` of a phase and a link. -/
def Link.fits (p : StartPhase) (l : Link) : Prop :=
  l.buffer.length ≤ Config.bufferSlots ∧ l.table.length ≤ Config.tableSlots ∧ (l.table.map Entry.tag).Nodup
    ∧ l.queue.length + l.table.length ≤ Config.queueSlots ∧ (p ≠ .ready → l.table = [])
    ∧ (p = .starting → l.queue.length ≤ Config.queueSlots - Config.keptSlots + 1)

theorem linkOk_iff_fits (s : State) : s.linkOk ↔ s.link.fits s.phase := Iff.rfl

theorem mayDecide_iff (l : Link) : mayDecide l = true ↔ l.queue.length ≤ 31 := by
  have h : mayDecide l = decide (17 ≤ 48 - l.queue.length) := rfl
  rw [h, decide_eq_true_eq]
  omega

/-- A frame that is placed while 17 slots are free, with what it may add to the table (R178). -/
theorem Link.fits.place {p : StartPhase} {l m : Link} {f : Frame} {es : List Entry} (h : l.fits p) (hroom : mayDecide l = true)
    (hq : m.queue = l.queue ++ [f]) (ht : m.table = l.table ++ es) (hb : m.buffer = l.buffer)
    (hlen : m.table.length ≤ Config.tableSlots) (hnd : (m.table.map Entry.tag).Nodup) (hp : p ≠ .ready → es = []) : m.fits p := by
  obtain ⟨hbuf, -, -, -, hnr, -⟩ := h
  rw [mayDecide_iff] at hroom
  simp only [Config.tableSlots] at hlen
  have hql : m.queue.length = l.queue.length + 1 := by simp [hq]
  refine ⟨hb ▸ hbuf, hlen, hnd, ?_, fun hx => by simp [ht, hnr hx, hp hx], fun _ => ?_⟩
  · simp only [Config.queueSlots]; omega
  · simp only [Config.queueSlots, Config.keptSlots]; omega

theorem mayDecide_of_eventRoom {l : Link} (h : eventRoom l = true) : mayDecide l = true := by
  simp only [eventRoom, mayDecide, decide_eq_true_eq] at *
  omega

/-- An event frame (R178, R179). -/
theorem Link.fits.placeEvent {p : StartPhase} {l : Link} {f : Frame} {c : Option Categories} (h : l.fits p) (hroom : eventRoom l = true) :
    Link.fits p { enqueue f l with changed := c } :=
  h.place (es := []) (mayDecide_of_eventRoom hroom) rfl (List.append_nil _).symm rfl h.2.1 h.2.2.1 fun _ => rfl

/-- What only the pending STATUS_CHANGED, the receiver or the error count distinguishes. -/
theorem Link.fits.aside {p : StartPhase} {l m : Link} (h : l.fits p) (hb : m.buffer = l.buffer) (ht : m.table = l.table)
    (hq : m.queue = l.queue) : m.fits p := by
  unfold Link.fits at *
  rwa [hb, ht, hq]

/-- A notice other than READY takes a slot of its entry, or one beyond the 17 kept (R178). -/
theorem Link.fits.placeNotice {p : StartPhase} {l : Link} {n : Notice} (h : l.fits p) (hn : n.plain = true) : (placeNotice n l).fits p := by
  cases n with
  | ready => simp [Notice.plain] at hn
  | event cat payload =>
    unfold Machine.placeNotice
    dsimp only
    split
    · exact h.aside rfl rfl rfl
    · split
      · exact h.placeEvent (c := l.changed) ‹_›
      · exact h.aside rfl rfl rfl
  | completion kind tag payload =>
    unfold Machine.placeNotice
    dsimp only
    split
    · next ho =>
      obtain ⟨hb, ht, hnd, hroom, hnr, hst⟩ := h
      have hlt : (l.table.filter (fun e => e.tag ≠ tag)).length < l.table.length := by
        rw [List.length_filter_lt_length_iff_exists]
        simpa [outstanding] using ho
      have hne : l.table ≠ [] := by intro he; simp [he] at hlt
      refine ⟨hb, ?_, hnd.sublist (List.filter_sublist.map _), ?_, fun hx => absurd (hnr hx) hne, fun hx => ?_⟩
      · exact (Nat.le_of_lt hlt).trans ht
      · simp only [enqueue, List.length_append, List.length_cons, List.length_nil]; omega
      · exact absurd (hnr (by simp [hx])) hne
    · exact h

theorem Link.fits.told {p : StartPhase} {l : Link} {ns : List Notice} (h : l.fits p) (hn : ∀ n ∈ ns, n.plain = true) :
    (told ns l).fits p := by
  induction ns generalizing l with
  | nil => exact h
  | cons n ns ih =>
    rw [told_cons]
    exact ih (h.placeNotice (hn n (by simp))) fun m hm => hn m (by simp [hm])

/-- READY ends the start-up: one slot more than the rest of the start-up may use, and the table is empty (R182). -/
theorem Link.fits.placeReady {l : Link} {b : List Byte} (h : l.fits .starting) : (Machine.placeNotice (.ready b) l).fits .ready := by
  obtain ⟨hb, ht, hnd, hroom, hnr, hst⟩ := h
  have he : l.table = [] := hnr (by simp)
  have hq := hst rfl
  simp only [Config.queueSlots, Config.keptSlots] at hq
  refine ⟨hb, ht, hnd, ?_, by simp, by simp⟩
  simp only [Machine.placeNotice, enqueue, List.length_append, List.length_cons, List.length_nil, he, Config.queueSlots]
  omega

/-! ### The end of an event -/

theorem close_link (w : Work) : (close w).link = told (lookReady w).outbox (lookReady w).link := rfl

/-- The end of an event changes the phase and the link alone. -/
theorem close_eq (w : Work) : close w = { w.toState with phase := (close w).phase, link := (close w).link } := by
  unfold close flush lookReady
  split <;> rfl

theorem close_fits {w : Work} (h : w.link.fits w.phase) (hn : ∀ n ∈ w.outbox, n.plain = true) : (close w).linkOk := by
  have ht : (told w.outbox w.link).fits w.phase := h.told hn
  rw [linkOk_iff_fits, close_link]
  unfold close lookReady
  split
  · next hc =>
    simp only [Bool.and_eq_true, decide_eq_true_eq] at hc
    rw [hc.1] at ht
    show (told (w.outbox ++ [_]) w.link).fits .ready
    rw [told_append, told_cons, told_nil]
    exact ht.placeReady
  · exact ht

/-- What one step keeps: all seven invariants. -/
structure Kept (s t : State) : Prop where
  ink : s.inkOk → t.inkOk
  feed : s.feed.sound → t.feed.sound
  waste : s.station.waste.sound → t.station.waste.sound
  conf : s.conf.sound → t.conf.sound
  pump : s.pump.sound → t.pump.sound
  cut : s.cutOk → t.cutOk
  link : s.linkOk → t.linkOk

namespace Kept

variable {s t u : State}

theorem refl (s : State) : Kept s s := ⟨id, id, id, id, id, id, id⟩

theorem trans (h : Kept s t) (k : Kept t u) : Kept s u :=
  ⟨k.ink ∘ h.ink, k.feed ∘ h.feed, k.waste ∘ h.waste, k.conf ∘ h.conf, k.pump ∘ h.pump, k.cut ∘ h.cut, k.link ∘ h.link⟩

/-- A change of the link alone. -/
theorem setLink {f : Link → Link} (hf : s.link.fits s.phase → (f s.link).fits s.phase) : Kept s (setLink f s) :=
  ⟨id, id, id, id, id, id, hf⟩

/-- An event that has run to its end, its reply placed. -/
theorem close {long : Bool} {w : Work} {l : Link} (k : Keeps long (Work.of s) w) (hl : s.linkOk → l.fits s.phase) :
    Kept s (close { w with link := l }) := by
  have hlink (hs : s.linkOk) : (Machine.close { w with link := l }).linkOk :=
    close_fits (w := { w with link := l }) (k.phase ▸ hl hs) (k.outbox (by simp))
  rw [close_eq] at hlink ⊢
  exact ⟨k.ink, k.feed, k.waste, k.conf, k.pump, k.cut, hlink⟩

/-- An event of the mechanism. -/
theorem occur {f : Work → Work} (hf : ∀ {w x : Work}, Keeps false w x → Keeps false w (f x)) (h : occur f s = .next t) :
    Kept s t := by
  rcases occur_next h with ⟨-, rfl⟩ | ⟨-, w, hd, rfl⟩
  · exact refl t
  · have k := (hf (Keeps.refl false (Work.of s))).drain hd
    exact close (l := w.link) k fun hs => k.link ▸ hs

/-! ### Requests -/

/-- The reply of a request that the checks turn away. -/
theorem turnedAway {q : Request} {r : Reply} (hm : mayDecide s.link = true) (hr : ¬ (r.answer = .started ∨ r.answer = .queued)) :
    Kept s (Machine.setLink (placeReply q r) s) := by
  refine setLink fun h => ?_
  unfold placeReply
  rw [if_neg (by simpa using hr)]
  exact h.place (es := []) hm rfl (List.append_nil _).symm rfl h.2.1 h.2.2.1 fun _ => rfl

end Kept

/-- No link check answers STARTED or QUEUED (Table 9-2). -/
theorem not_opens_of_linkCheck {q : Request} {s : State} {r : Reply} (h : linkCheck q s = some r) :
    ¬ (r.answer = .started ∨ r.answer = .queued) := by
  unfold linkCheck at h
  repeat' split at h
  all_goals simp only [Option.some.injEq, reduceCtorEq] at h
  all_goals simp [← h]

/-- A request that the checks let through: READY or STATUS_READ, its tag free, and room in the table for a long-capable one (R174). -/
theorem linkCheck_eq_none {q : Request} {s : State} (h : linkCheck q s = none) :
    (s.phase = .ready ∨ q.body = .statusRead) ∧ outstanding s.link q.tag = false
      ∧ (longCapable q.body = true → s.link.table.length < Config.tableSlots) := by
  by_cases h1 : q.tag = 0
  · simp [linkCheck, h1] at h
  by_cases h2 : q.body = .unknownKind
  · simp [linkCheck, h1, h2] at h
  by_cases h3 : q.body = .badLength
  · simp [linkCheck, h1, h3] at h
  by_cases h4 : s.phase ≠ .ready ∧ q.body ≠ .statusRead
  · simp [linkCheck, h1, h2, h3, h4] at h
  have h5 : ¬(s.phase = .ready ∨ q.body = .statusRead) → False := fun hn => h4 (by simpa [not_or] using hn)
  rw [linkCheck, if_neg h1, if_neg h2, if_neg h3, if_neg (by simpa using h4)] at h
  split at h
  · cases h
  · next hf =>
    refine ⟨Decidable.not_not.mp h5, ?_, fun hl => ?_⟩
    · simpa [outstanding] using hf
    · by_contra hlen
      rw [hl, Bool.true_and, if_pos (by simpa using hlen)] at h
      cases h

namespace Kept

variable {s t : State}

/-- The reply of a request that has been routed (R175, R176). -/
theorem fits_placeReply {q : Request} {r : Reply} (hl : s.linkOk) (hm : mayDecide s.link = true) (hc : linkCheck q s = none)
    (hr : r.opens → longCapable q.body = true) : (placeReply q r s.link).fits s.phase := by
  obtain ⟨hp, ho, hroom⟩ := linkCheck_eq_none hc
  unfold placeReply
  dsimp only
  split
  · next hx =>
    have hlong := hr (by simpa [Reply.opens] using hx)
    refine Link.fits.place (es := [⟨q.tag, q.kind, r.subject⟩]) hl hm rfl rfl rfl ?_ ?_ fun hn => ?_
    · simpa [enqueue] using hroom hlong
    · have hnd := hl.2.2.1
      simp only [outstanding, List.any_eq_false, decide_eq_true_eq] at ho
      simpa [enqueue, List.nodup_append, hnd] using ho
    · have hb := hp.resolve_left hn
      simp [hb, longCapable] at hlong
  · exact Link.fits.place (es := []) hl hm rfl (List.append_nil _).symm rfl hl.2.1 hl.2.2.1 fun _ => rfl

theorem routed {q : Request} (hm : mayDecide s.link = true) (hc : linkCheck q s = none) (h : routed q s = some t) : Kept s t := by
  simp only [Machine.routed, Option.map_eq_some_iff] at h
  obtain ⟨w, hd, rfl⟩ := h
  have k : Keeps (longCapable q.body) (Work.of s) w := (Keeps.refl _ _).route.drain hd
  unfold settle
  split
  · next r hr =>
    have hopens := k.reply (by simp) r hr
    exact close k fun hl => by rw [k.link]; exact fits_placeReply hl hm hc hopens
  · exact close (l := w.link) k fun hl => by rw [k.link]; exact hl

/-- RESET empties the table before the blocks act (R187). -/
theorem resetRequest {q : Request} (hm : mayDecide s.link = true) (h : resetRequest q s = some t) : Kept s t := by
  simp only [Machine.resetRequest, Option.map_eq_some_iff] at h
  obtain ⟨w, hd, rfl⟩ := h
  have k := (Keeps.refl false (Work.of (Machine.setLink (fun l => resetLink (placeReply q ⟨.ok, .ok, [], 0⟩ l)) s)))
    |>.resetBlocks.drain hd
  refine (setLink fun hl => ?_).trans (close (l := w.link) k fun hs => by rw [k.link]; exact hs)
  have hq := (mayDecide_iff _).mp hm
  have hlen : (resetLink (placeReply q ⟨.ok, .ok, [], 0⟩ s.link)).queue.length ≤ s.link.queue.length + 1 := by
    simp only [resetLink, placeReply, enqueue]
    cases s.link.queue with
    | nil => simp
    | cons f rest => exact Nat.succ_le_succ ((List.length_filter_le _ _).trans (by simp))
  refine ⟨hl.1, by simp [resetLink], by simp [resetLink], ?_, fun _ => rfl, fun _ => ?_⟩
  · simp only [resetLink, Config.queueSlots, List.length_nil] at *; omega
  · simp only [Config.queueSlots, Config.keptSlots]; omega

theorem decideOne {q : Request} (hm : mayDecide s.link = true) (h : decideOne q s = some t) : Kept s t := by
  unfold Machine.decideOne at h
  split at h
  · next r hr =>
    cases h
    exact turnedAway hm (not_opens_of_linkCheck hr)
  · next hc =>
    split at h
    · exact resetRequest hm h
    · exact routed hm hc h

theorem decideAll {n : Nat} (h : decideAll n s = some t) : Kept s t := by
  induction n generalizing s with
  | zero => cases h; exact refl _
  | succ n ih =>
    unfold Machine.decideAll at h
    split at h
    · cases h; exact refl _
    · next q rest hb =>
      split at h
      · next hm =>
        obtain ⟨u, hu, ht⟩ := Option.bind_eq_some_iff.mp h
        have hpop : Kept s (Machine.setLink (fun l => { l with buffer := rest }) s) :=
          setLink fun ⟨hlen, hrest⟩ => ⟨by rw [hb] at hlen; exact (Nat.le_succ _).trans hlen, hrest⟩
        exact (hpop.trans (decideOne hm hu)).trans (ih ht)
      · cases h; exact refl _

theorem serve (h : serve s = .next t) : Kept s t := by
  unfold Machine.serve at h
  cases hd : Machine.decideAll s.link.buffer.length s with
  | none => simp [hd, finish] at h
  | some u => rw [hd] at h; cases h; exact decideAll hd

theorem arrive {q : Request} : Kept s (Machine.setLink (arrive q) s) := by
  refine setLink fun hl => ?_
  unfold Machine.arrive
  split
  · next hb => exact ⟨by simpa using hb, hl.2⟩
  · exact Link.fits.aside hl rfl rfl rfl

theorem ask {q : Request} (h : ask q s = .next t) : Kept s t := arrive.trans (serve h)

end Kept

end Sys2Proof.Machine
end

section
/-! ## What a step keeps (O56 to O60): power-on, the line, and the statements -/

namespace Sys2Proof.Machine

open Sys2Proof

set_option Elab.async false

/-- All that the manual promises of every state. -/
structure State.Promised (s : State) : Prop where
  ink : s.inkOk
  feed : s.feed.sound
  waste : s.station.waste.sound
  conf : s.conf.sound
  pump : s.pump.sound
  cut : s.cutOk
  link : s.linkOk

theorem Kept.promised {s t : State} (h : Kept s t) (k : s.Promised) : t.Promised :=
  ⟨h.ink k.ink, h.feed k.feed, h.waste k.waste, h.conf k.conf, h.pump k.pump, h.cut k.cut, h.link k.link⟩

theorem Kept.of_promised {s t : State} (h : t.Promised) : Kept s t :=
  ⟨fun _ => h.ink, fun _ => h.feed, fun _ => h.waste, fun _ => h.conf, fun _ => h.pump, fun _ => h.cut, fun _ => h.link⟩

/-! ### Power-on (R20, R116, R136, R180, R181) -/

theorem powerOn_balanced (full low : Bool) : (Channel.powerOn full low).balanced := by
  cases full <;> cases low <;> exact ⟨by decide, by decide, by decide⟩

/-- A pump with nothing to do (R116). -/
theorem Pump.idle_sound {c : Chans Channel} (h : ∀ ch, (c.get ch).follow = none) : Pump.sound ⟨c, [], none, Chans.all .closed⟩ :=
  ⟨by simp, by simp, fun ch => by simp [valveFor], fun ch hs => by simp [h ch] at hs⟩

theorem Conf.default_sound : Conf.default.sound := by unfold Conf.sound; decide

theorem Feed.idle_sound (k : Nat) : Feed.sound ⟨k, 0, 0, 0, none, none⟩ := by
  unfold Feed.sound; simp [Config.residueScale, Config.hostTrimLimit, Config.trackTrimLimit]

theorem Link.powerOn_fits (p : StartPhase) : Link.powerOn.fits p := by
  unfold Link.fits Link.powerOn; simp

theorem Carriage.rest_safe {c : Carriage} (hh : c.hold = .none) (hr : c.resetReturn = none) : c.safe :=
  ⟨by simp [hh], by simp [hr]⟩

theorem powerState_promised (x : Store) (y : Sensors) (pending : List Instr) : (powerState x y pending).Promised where
  ink ch := by cases ch <;> exact powerOn_balanced _ _
  feed := Feed.idle_sound _
  waste := rfl
  conf := Conf.default_sound
  pump := Pump.idle_sound fun ch => by cases ch <;> rfl
  cut := ⟨Carriage.timed_sound (Carriage.rest_safe rfl rfl), nofun, nofun⟩
  link := Link.powerOn_fits _

/-- Another phase with the queue and the table empty. -/
theorem State.Promised.phase {s : State} (h : s.Promised) (p : StartPhase) (hl : s.link = Link.powerOn) :
    State.Promised { s with phase := p } :=
  ⟨h.ink, h.feed, h.waste, h.conf, h.pump, h.cut, by rw [linkOk_iff_fits, hl]; exact Link.powerOn_fits p⟩

theorem powerOn_keeps (x : Store) (y : Sensors) (pending : List Instr) (h : storeOk x = true) :
    Keeps false (Work.of (powerState x y pending)) (powerOn x y pending) := by
  have hbays := Keeps.forEach (f := fun ch w => insertAtPowerOn y ⟨ch, .b⟩ (insertAtPowerOn y ⟨ch, .a⟩ w)) allChans
    (Keeps.refl false (Work.of (powerState x y pending))) fun _ _ k => (k.whenever Keeps.insertBay).whenever Keeps.insertBay
  rw [powerOn, if_pos h]
  exact ((hbays.whenever Keeps.insertTank).whenever Keeps.event).whenever Keeps.event

namespace Kept

variable {s t : State}

theorem execPowerOn {x : Store} {y : Sensors} (h : execPowerOn x y s = .next t) : Kept s t := by
  unfold Machine.execPowerOn at h
  cases hd : drain reportBound (powerOn x y s.pending) with
  | none => simp [hd, finish] at h
  | some w =>
    rw [hd] at h
    cases h
    by_cases hx : storeOk x = true
    · have k := (powerOn_keeps x y s.pending hx).drain hd
      exact .of_promised ((close (l := w.link) k fun hs => by rw [k.link]; exact hs).promised (powerState_promised x y s.pending))
    · rw [powerOn, if_neg hx] at hd
      have k := (Keeps.refl false _).drain hd
      exact .of_promised ((close (l := w.link) k fun hs => by rw [k.link]; exact hs).promised
        ((powerState_promised _ _ _).phase .storeFault rfl))

/-! ### The line (R172, R178, R179) -/

theorem withHome {b : Bool} : Kept s (withHome b s) := ⟨id, id, id, id, id, id, id⟩

end Kept

theorem arrive_fits {q : Request} {l : Link} {p : StartPhase} (h : l.fits p) : (arrive q l).fits p := by
  unfold arrive
  split
  · next hb => exact ⟨by simpa using hb, h.2⟩
  · exact h.aside rfl rfl rfl

theorem discardFrame_fits {l : Link} {p : StartPhase} (h : l.fits p) : (discardFrame l).fits p := h.aside rfl rfl rfl

theorem frameEnd_fits {bs : List Byte} {l : Link} {p : StartPhase} (h : l.fits p) : (frameEnd bs l).fits p := by
  have hrx : Link.fits p { l with rx := { l.rx with phase := .hunt, bytes := [] } } := h.aside rfl rfl rfl
  unfold frameEnd
  dsimp only
  split
  · split
    · exact arrive_fits hrx
    · exact hrx
  · exact hrx.aside rfl rfl rfl

theorem receive_fits {now : Nat} {b : Byte} {ok : Bool} {l : Link} {p : StartPhase} (h : l.fits p) : (receive now b ok l).fits p := by
  have hgap : (if gapPassed now l then discardFrame l else l).fits p := by
    split
    · exact discardFrame_fits h
    · exact h
  unfold receive
  generalize (if gapPassed now l then discardFrame l else l) = m at hgap
  dsimp only
  split
  · unfold huntByte
    split
    · exact hgap.aside rfl rfl rfl
    · exact hgap
  · split
    · exact discardFrame_fits hgap
    · exact hgap.aside rfl rfl rfl
  · split
    · exact discardFrame_fits hgap
    · split
      · exact frameEnd_fits hgap
      · exact hgap.aside rfl rfl rfl

theorem frameLeft_fits {l : Link} {p : StartPhase} (h : l.fits p) : (frameLeft l).fits p := by
  unfold frameLeft
  split
  · exact h
  · next f rest hq =>
    obtain ⟨hb, ht, hnd, hroom, hnr, hst⟩ := h
    have hlen : l.queue.length = rest.length + 1 := by rw [hq]; rfl
    have hless : Link.fits p { l with queue := rest } :=
      ⟨hb, ht, hnd, by dsimp only; omega, hnr, fun hp => by have := hst hp; dsimp only; omega⟩
    unfold placeChanged
    split
    · split
      · next hr => exact hless.placeEvent hr
      · exact hless
    · exact hless

namespace Kept

variable {s t : State}

theorem exec {c : Instr} (h : exec c s = .next t) : Kept s t := by
  cases c with
  | powerOn => exact execPowerOn h
  | receiveByte => exact (withHome.trans (setLink receive_fits)).trans (serve h)
  | frameGapTimeout =>
    simp only [Machine.exec, execFrameGapTimeout] at h
    split at h
    · cases h; exact setLink discardFrame_fits
    · cases h; exact refl _
  | frameSent => exact (withHome.trans (setLink frameLeft_fits)).trans (serve h)
  | unknownRequestKind => exact ask h
  | sheetOpen => exact ask h
  | swath => exact ask h
  | sheetClose => exact ask h
  | sheetAbort => exact ask h
  | mediaLoad => exact ask h
  | mediaUnload => exact ask h
  | rollSelect => exact ask h
  | profileSet => exact ask h
  | profileRead => exact ask h
  | pathClear => exact ask h
  | feedTrimSet => exact ask h
  | acceptSet => exact ask h
  | acceptRead => exact ask h
  | baySelect => exact ask h
  | topUp => exact ask h
  | supplyRead => exact ask h
  | uncap => exact ask h
  | cap => exact ask h
  | release => exact ask h
  | park => exact withHome.trans (ask h)
  | service => exact ask h
  | nozzleCheck => exact ask h
  | maskSet => exact ask h
  | healthRead => exact ask h
  | statusRead => exact ask h
  | configSet => exact ask h
  | configRead => exact ask h
  | reset => exact withHome.trans (ask h)
  | encoderCount => exact occur Keeps.countMove h
  | stallDeadline => exact occur Keeps.stallMove h
  | completionDeadline => exact occur Keeps.timeoutMove h
  | rollPresentClose => exact occur Keeps.rollPresentClose h
  | rollPresentOpen => exact occur Keeps.rollPresentOpen h
  | rollEndReport => exact occur Keeps.rollEndReport h
  | leadEdgeChange => exact occur Keeps.leadEdgeChange h
  | pathEntryChange => exact occur Keeps.pathEntryChange h
  | cutComplete => exact occur Keeps.cutComplete h
  | cutterTimeout => exact occur Keeps.cutterTimeout h
  | exitPass => exact occur Keeps.exitPass h
  | exitWatchTimeout => exact occur Keeps.exitWatchTimeout h
  | basketEmptied => exact occur Keeps.basketEmptied h
  | dryEnd => exact occur Keeps.dryEnd h
  | bayInserted => exact occur Keeps.insertBay h
  | bayRemoved => exact occur Keeps.removeBay h
  | tankInserted => exact occur Keeps.insertTank h
  | tankRemoved => exact occur Keeps.removeTank h
  | moduleReadComplete => exact occur Keeps.busRead h
  | moduleWriteComplete => exact occur Keeps.busWritten h
  | flowPulse => exact occur Keeps.flowPulse h
  | pulseWindowEnd => exact occur Keeps.pulseWindowEnd h
  | strokeEnd => exact occur Keeps.strokeEnd h
  | floatChange => exact occur Keeps.floatChange h
  | requestAgeing => exact occur Keeps.requestAgeing h
  | stirTimerDue => exact occur Keeps.lookStir h
  | capDownComplete => exact occur Keeps.capDownComplete h
  | capUpComplete => exact occur Keeps.capUpComplete h
  | sledTimeout => exact occur Keeps.sledTimeout h
  | autoCap => exact occur Keeps.autoCap h
  | actionDeadline => exact occur Keeps.actionDeadline h
  | wipeComplete => exact occur Keeps.wipeComplete h
  | widthScanPassEnd => exact occur Keeps.widthScanPassEnd h
  | carriageSensorReading => exact occur Keeps.carriageReading h
  | patternLegEnd => exact occur Keeps.patternLegEnd h
  | calibrationTimeout => exact occur Keeps.calibrationTimeout h
  | homeReport => exact occur Keeps.homeReport h
  | returnTimeout => exact occur Keeps.returnTimeout h
  | suctionComplete => exact occur Keeps.suctionComplete h
  | suctionTimeout => exact occur Keeps.suctionTimeout h
  | spitDueLimit => exact occur Keeps.spitDueLimit h
  | cleanDueLimit => exact occur Keeps.cleanDueLimit h
  | prePurgeWaitEnd => exact occur Keeps.prePurgeWaitEnd h
  | spitFiringEnd => exact occur Keeps.spitFiringEnd h

theorem queued {p : List Instr} : Kept s { s with pending := p } := ⟨id, id, id, id, id, id, id⟩
theorem ticked {n : Nat} : Kept s { s with now := n } := ⟨id, id, id, id, id, id, id⟩

/-- Every step keeps all that the manual promises of a state. -/
theorem step (h : step s = .next t) : Kept s t := by
  unfold Machine.step at h
  split at h
  · exact queued.trans (exec h)
  · unfold idle at h
    split at h
    · exact ticked.trans (occur Keeps.grant h)
    · cases h; exact queued

end Kept

theorem reset_promised : State.reset.Promised where
  ink ch := by cases ch <;> exact powerOn_balanced _ _
  feed := Feed.idle_sound _
  waste := rfl
  conf := Conf.default_sound
  pump := Pump.idle_sound fun ch => by cases ch <;> rfl
  cut := ⟨⟨nofun, nofun, nofun⟩, nofun, nofun⟩
  link := ⟨Nat.zero_le _, Nat.zero_le _, List.nodup_nil, by decide, fun _ => rfl, nofun⟩

/-- Settles O56, by the rules about idle records that POWER_ON rests on too. -/
theorem resetSatisfiesTheInvariants : Obligations.ResetSatisfiesTheInvariants := by
  obtain ⟨hi, hf, hw, hc, hp, hk, hl⟩ := reset_promised
  exact ⟨hi, hf, hw, hc, hp, hk, hl⟩

/-- Settles O57: the accounts and the ranges, read off what a step keeps. -/
theorem stepKeepsTheAccounts : Obligations.StepKeepsTheAccounts :=
  ⟨fun _ _ h hs => (Kept.step hs).ink h, fun _ _ h hs => (Kept.step hs).feed h, fun _ _ h hs => (Kept.step hs).waste h,
    fun _ _ h hs => (Kept.step hs).conf h⟩

/-- Settles O58: the pump's order, read off what a step keeps. -/
theorem stepKeepsOneGrant : Obligations.StepKeepsOneGrant := fun _ _ h hs => (Kept.step hs).pump h

/-- Settles O59: the cut's safety, read off what a step keeps. -/
theorem stepKeepsTheCutSafe : Obligations.StepKeepsTheCutSafe := fun _ _ h hs => (Kept.step hs).cut h

/-- Settles O60: the link's promises, read off what a step keeps. -/
theorem stepKeepsRoomForCompletions : Obligations.StepKeepsRoomForCompletions := fun _ _ h hs => (Kept.step hs).link h

end Sys2Proof.Machine
end

section
/-! ## The step (O1) -/

namespace Sys2Proof.Machine

open Sys2Proof

set_option Elab.async false

/-- Settles O1: the step reads the front of the queue. -/
theorem stepRunsTheFrontCommand : Obligations.StepRunsTheFrontCommand := by
  intro s c rest hp
  rw [step, hp]

end Sys2Proof.Machine
end

section
/-! ## The outcome of a heard request and of an event, in the statements' words (R174 to R178) -/

namespace Sys2Proof.Machine

open Sys2Proof

set_option Elab.async false

/-- A body that some block decides (Table 9-3). -/
def routable : Body → Bool
  | .unknownKind | .badLength | .reset => false
  | _ => true

theorem routable_ne {b : Body} (h : routable b = true) : b ≠ .unknownKind ∧ b ≠ .badLength ∧ b ≠ .reset := by
  refine ⟨?_, ?_, ?_⟩ <;> rintro rfl <;> cases h

/-- A heard request: its reply and its notices are placed; the link is otherwise as it stood. -/
theorem ask_drained {s : State} {q : Request} {w : Work} {r : Reply} (h : s.hears q.tag = true) (hb : routable q.body = true)
    (hd : drain reportBound (route q (Work.of s)) = some w) (hr : w.reply = some r) :
    ask q s = .next { w.toState with link := replied q.kind q.tag q.body r w.outbox s.link } := by
  obtain ⟨h1, h2, h3⟩ := routable_ne hb
  have k : Keeps (longCapable q.body) (Work.of s) w := (Keeps.refl _ _).route.drain hd
  rw [ask_routed h h1 h2 h3 hd hr (k.phase.trans (hears_parts h).1), k.link]
  rfl

/-- A heard request whose decision gives no report. -/
theorem ask_decided {s : State} {q : Request} {w : Work} {r : Reply} (h : s.hears q.tag = true) (hb : routable q.body = true)
    (hw : route q (Work.of s) = w) (hr : w.reply = some r) (ha : w.agenda = []) :
    ask q s = .next { w.toState with link := replied q.kind q.tag q.body r w.outbox s.link } :=
  ask_drained h hb (by rw [hw]; exact drain_nil _ ha) hr

/-- An event while READY: its notices are placed; the link is otherwise as it stood. -/
theorem occur_drained {f : Work → Work} {s : State} {w : Work} (hs : s.running = true)
    (hf : ∀ {w x : Work}, Keeps false w x → Keeps false w (f x)) (hd : drain reportBound (f (Work.of s)) = some w) :
    occur f s = .next { w.toState with link := told w.outbox s.link } := by
  have hp : s.phase = .ready := by simpa [State.running] using hs
  have k := (hf (Keeps.refl false (Work.of s))).drain hd
  rw [occur_ready hp hd (k.phase.trans hp), k.link]
  rfl

/-- An event that gives no report. -/
theorem occur_done {f : Work → Work} {s : State} {w : Work} (hs : s.running = true)
    (hf : ∀ {w x : Work}, Keeps false w x → Keeps false w (f x)) (hw : f (Work.of s) = w) (ha : w.agenda = []) :
    occur f s = .next { w.toState with link := told w.outbox s.link } :=
  occur_drained hs hf (by rw [hw]; exact drain_nil _ ha)

/-- An event without effect. -/
theorem occur_void {f : Work → Work} {s : State} (hs : s.running = true) (hw : f (Work.of s) = Work.of s) :
    occur f s = .next s := by
  have hp : s.phase = .ready := by simpa [State.running] using hs
  have h := occur_quiet (f := f) hp (by rw [hw]; rfl) (by rw [hw]; exact hp)
  rwa [hw] at h

/-- A heard request answered OK, with neither a report nor a notice: the frame of its reply. -/
theorem ask_ok {s : State} {q : Request} {w : Work} {items : List Byte} (h : s.hears q.tag = true) (hb : routable q.body = true)
    (hw : route q (Work.of s) = okWith items w) (ha : w.agenda = []) (ho : w.outbox = []) :
    ask q s = .next { w.toState with
      link := enqueue ⟨.reply, replyKind q.kind, q.tag, u8 0 ++ u8 0 ++ items⟩ s.link } := by
  have hq := ask_decided h hb hw rfl ha
  rw [okWith_outbox, ho] at hq
  exact hq

end Sys2Proof.Machine
end

section
/-! ## The settings that a request writes at once (R5, R24, R78, R161, R185; O10, O12, O18, O34, O55) -/

namespace Sys2Proof.Machine

open Sys2Proof

set_option Elab.async false

/-- Settles O12. -/
theorem feedTrimSetStoresTheClampedTrim : Obligations.FeedTrimSetStoresTheClampedTrim := by
  intro s tag v h
  have hset := ask_ok (q := ⟨0x0E, tag, .feedTrimSet v⟩) h rfl rfl rfl rfl
  rw [← List.append_assoc] at hset
  exact hset

/-! ### PROFILE_SET -/

theorem profileSet_busy {i : Nat} {f : ProfileFields} {b : Bool} {w : Work} (hb : boolOf f.tracking = some b) (hi : i ≤ 7)
    (h : profileBusy w.toState i = true) : profileSet i f w = refuse .busy w := by
  rw [profileSet, hb]
  simp [h, Nat.not_lt.mpr hi]

theorem profileSet_free {i : Nat} {f : ProfileFields} {b : Bool} {w : Work} (hb : boolOf f.tracking = some b) (hi : i ≤ 7)
    (h : profileBusy w.toState i = false) :
    profileSet i f w = okWith (profileFlags (profileOf b f) f)
      (modMedia (fun m => { m with profiles := m.profiles.set i (some (profileOf b f)) }) w) := by
  rw [profileSet, hb]
  simp [h, Nat.not_lt.mpr hi]

theorem boolOf_ite (b : Bool) : boolOf (if b then 1 else 0) = some b := by cases b <;> rfl

/-- Settles O18: the entry is in use, or it is written. -/
theorem profileSetWritesTheClampedEntry : Obligations.ProfileSetWritesTheClampedEntry := by
  intro s tag i f tracking h hi ht
  have hb : boolOf f.tracking = some tracking := ht ▸ boolOf_ite tracking
  refine ⟨fun hfree => ?_, fun hbusy => ?_⟩
  · exact ask_decided (q := ⟨0x0B, tag, .profileSet i f⟩) h rfl (profileSet_free hb hi hfree) rfl rfl
  · exact ask_decided (q := ⟨0x0B, tag, .profileSet i f⟩) h rfl (profileSet_busy hb hi hbusy) rfl rfl

/-! ### ACCEPT_SET without a bay to judge -/

theorem acceptSet_eq {i : Nat} {f : AcceptFields} {e : Bool} {k : AcceptKind} {set : Chans Bool} {w : Work} (hi : i ≤ 15)
    (he : f.enabled = if e then 1 else 0) (hk : f.kind = if k = .accept then 0 else 1) (hc : chanSetOf f.chans = some set) :
    acceptSet i f w
      = let p : Params :=
          ⟨clampNat 10 400 f.drop, clampNat 50 200 f.purge, clampNat 5000 120000 f.keepWet, clampNat 0 3600 f.settle⟩
        forEach allChans reevaluate
          (setSupply (fun u => { u with accepts := u.accepts.set i ⟨e, k, f.code, f.mask, set, p⟩ })
            (okWith (flag (p.drop ≠ f.drop) ++ flag (p.purge ≠ f.purge) ++ flag (p.keepWet ≠ f.keepWet)
              ++ flag (p.settle ≠ f.settle)) w)) := by
  have hb : boolOf f.enabled = some e := he ▸ boolOf_ite e
  rw [acceptSet, hb, hc, hk]
  cases k <;> simp [Nat.not_lt.mpr hi]

/-- A bay that a re-evaluation passes over (R79). -/
def BayRec.unjudged (r : BayRec) : Prop := r.state ≠ .active ∧ r.state ≠ .standby ∧ r.state ≠ .rejected

theorem rejudge_unjudged {t : List Accept} {ch : Chan} {r : BayRec} (h : r.unjudged) : rejudge t ch r = r := by
  simp [rejudge, h.1, h.2.1, h.2.2]

/-- A STARVED channel without a bay to judge is left as it is (R79, R83). -/
theorem reevaluate_unjudged {ch : Chan} {w : Work} (ha : (w.supply.bays.get ch).a.unjudged) (hb : (w.supply.bays.get ch).b.unjudged)
    (hs : w.supply.supplied.get ch = false) : reevaluate ch w = w := by
  have hact : activeLetter w.supply ch = none := by simp [activeLetter, ha.1, hb.1]
  have hset : setSupply (fun u => { u with bays := u.bays.set ch (w.supply.bays.get ch) }) w = w := by
    simp [setSupply]
  simp [reevaluate, rejudge_unjudged ha, rejudge_unjudged hb, hact, hset, selectionOf, ha.2.1, hb.2.1, when, judged, takeParams,
    activeParams, setSupplied, hs]

/-- Settles O34: no channel has a bay to judge. -/
theorem acceptSetWritesTheEntry : Obligations.AcceptSetWritesTheEntry := by
  intro s tag i f enabled kind set h hi he hk hc hbays hsup p
  have hun (ch : Chan) : (s.supply.bays.get ch).a.unjudged ∧ (s.supply.bays.get ch).b.unjudged :=
    ⟨hbays ⟨ch, .a⟩, hbays ⟨ch, .b⟩⟩
  have hw := acceptSet_eq (w := Work.of s) hi he hk hc
  simp only [allChans, forEach_cons, forEach_nil] at hw
  have hch (ch : Chan) (w : Work) (hwb : w.supply.bays = s.supply.bays) (hws : w.supply.supplied = s.supply.supplied) :
      reevaluate ch w = w :=
    reevaluate_unjudged (hwb ▸ (hun ch).1) (hwb ▸ (hun ch).2) (by rw [hws, hsup]; exact Chans.get_all _ _)
  rw [hch .c0 _ rfl rfl, hch .c1 _ rfl rfl, hch .c2 _ rfl rfl, hch .c3 _ rfl rfl, hch .c4 _ rfl rfl, hch .c5 _ rfl rfl] at hw
  exact ask_decided (q := ⟨0x10, tag, .acceptSet i f⟩) h rfl hw rfl rfl

end Sys2Proof.Machine
end

section
/-! ## The configuration, the reading requests, the masks and the advance (R3, R160, R163, R185; O9, O10, O13, O55) -/

namespace Sys2Proof.Machine

open Sys2Proof

set_option Elab.async false

/-! ### CONFIG_SET -/

/-- CONFIG_SET of one parameter, once its block has answered with the configuration left. -/
theorem configSet_taken {s : State} {tag ident : Nat} {v applied : Int} {c : Conf} (h : s.hears tag = true)
    (hw : configSet ident v (Work.of s) = configReply ident applied v { Work.of s with conf := c }) :
    exec (.configSet tag ident v) s
      = .next { s with
          conf := c
          link := enqueue ⟨.reply, 0xA1, tag, u8 0 ++ u8 0 ++ u8 ident ++ s32 applied ++ flag (applied ≠ v)⟩ s.link } := by
  have hset := ask_ok (q := ⟨0x21, tag, .configSet ident v⟩) h rfl hw rfl rfl
  rw [← List.append_assoc, ← List.append_assoc] at hset
  exact hset

theorem setSwitch_onOff {ident : Nat} {v : Int} {store : Conf → Bool → Conf} {w : Work} (hv : v = 0 ∨ v = 1) :
    setSwitch ident v store w = configReply ident v v { w with conf := store w.conf (v = 1) } := by
  obtain rfl | rfl := hv <;> rfl

theorem afterAutoRoll_kept {w : Work} (h : w.conf.autoRoll = true ∨ w.media.switch = none) : afterAutoRoll w = w := by
  have hsame (hs : w.media.switch = none) : modMedia (fun m => { m with switch := none }) w = w := by
    unfold modMedia
    rw [← hs]
  cases hr : w.conf.autoRoll
  · have hs := h.resolve_left (by simp [hr])
    simp [afterAutoRoll, hr, when, hsame hs]
  · simp [afterAutoRoll, hr, when]

theorem autoCap_awake {w : Work} (h : w.station.car.idleSince = none) : autoCap w = w := by
  simp [autoCap, autoCapReady, when, h]

theorem afterStackLimit_room {old : Nat} {w : Work} (h : w.media.stack < old) : afterStackLimit old w = w := by
  simp [afterStackLimit, when, Nat.not_le.mpr h]

theorem setTw_beside {ident : Nat} {v : Int} {w : Work} (h : clampInt 20 200 v + 10 ≤ w.conf.ts) :
    setTw ident v w
      = configReply ident (clampInt 20 200 v) v { w with conf := { w.conf with tw := (clampInt 20 200 v).toNat } } := by
  have hmem := clampInt_mem (lo := 20) (hi := 200) (v := v) (by decide)
  have hle : ¬ w.conf.ts < (clampInt 20 200 v).toNat + 10 := by omega
  rw [setTw]
  exact if_neg hle

/-- Settles O10: one block per parameter. -/
theorem configSetClamps : Obligations.ConfigSetClamps := by
  intro s tag v h takes
  refine ⟨fun hv => ⟨fun hroll => ?_, ?_, ?_⟩, fun hidle => ?_, fun hroom => ?_, fun hts => ?_, ?_⟩
  · refine configSet_taken h ?_
    rw [show configSet 1 v (Work.of s) = afterAutoRoll (setSwitch 1 v (fun c b => { c with autoRoll := b }) (Work.of s)) from rfl,
      setSwitch_onOff hv, afterAutoRoll_kept]
    · rfl
    · exact hroll.imp (fun h1 => decide_eq_true h1) id
  · exact configSet_taken h (setSwitch_onOff (store := fun c b => { c with autoRecover := b }) (w := Work.of s) hv)
  · exact configSet_taken h (setSwitch_onOff (store := fun c b => { c with degradedAllowed := b }) (w := Work.of s) hv)
  · exact configSet_taken h (autoCap_awake hidle)
  · exact configSet_taken h (afterStackLimit_room hroom)
  · exact configSet_taken h (setTw_beside hts)
  · refine ⟨?_, ?_, ?_, ?_, ?_, ?_, ?_⟩ <;> exact configSet_taken h rfl

/-! ### The requests that only read -/

theorem ask_read {s : State} {q : Request} {items : List Byte} (h : s.hears q.tag = true) (hb : routable q.body = true)
    (hw : route q (Work.of s) = okWith items (Work.of s)) :
    ask q s = .next { s with link := enqueue ⟨.reply, replyKind q.kind, q.tag, u8 0 ++ u8 0 ++ items⟩ s.link } :=
  ask_ok h hb hw rfl rfl

theorem notGood_eq (start : Nat) (xs : List NozzleState) (i : Nat) :
    notGood start i xs = ((xs.zipIdx i).filter (fun p => start ≤ p.2 ∧ p.1 ≠ .good)).map Prod.swap := by
  induction xs generalizing i with
  | nil => rfl
  | cons x xs ih =>
    by_cases hs : start ≤ i <;> by_cases hx : x = .good <;> simp [notGood, hs, hx, ih]

/-- The number after the sixtieth nozzle reported, where there is a further one (R163). -/
theorem nextStart_swap (bad : List (NozzleState × Nat)) :
    nextStart (bad.map Prod.swap) = if 60 < bad.length then bad[59]?.map (fun p => p.2 + 1) else none := by
  unfold nextStart
  rw [List.length_map]
  split
  · next h =>
    have hlt : 60 < bad.length := h
    have h59 : 59 < bad.length := by omega
    rw [← List.map_take, List.getLast?_eq_getElem?, if_pos hlt]
    simp [Config.healthPairs, Nat.min_eq_left hlt.le, h59]
  · next h => exact (if_neg h).symm

theorem healthItems_eq (x : HealthRow) (n : Nat) :
    let bad := x.nozzles.zipIdx.filter (fun p => n ≤ p.2 ∧ p.1 ≠ .good)
    healthItems x n
      = u8 x.status.num ++ u16 x.counts.unchecked ++ u16 x.counts.good ++ u16 x.counts.weak ++ u16 x.counts.out
        ++ u16 x.counts.masked ++ u16 x.checks ++ u8 (min 60 bad.length)
        ++ o16 (if 60 < bad.length then bad[59]?.map (fun p => p.2 + 1) else none)
        ++ (bad.take 60).flatMap (fun p => u16 p.2 ++ u8 p.1.num) := by
  intro bad
  have hl : notGood n 0 x.nozzles = bad.map Prod.swap := notGood_eq n x.nozzles 0
  rw [healthItems, hl, ← nextStart_swap, ← List.map_take, List.length_map, List.length_take, List.flatMap_map]
  rfl

/-- Settles O9: each reading request is answered with its items by its block. -/
theorem readsChangeNothing : Obligations.ReadsChangeNothing := by
  intro s tag h answers
  refine ⟨ask_read (q := ⟨0x20, tag, .statusRead⟩) h rfl rfl, ?_, fun ch => ?_, fun i e he => ?_, fun i hi => ?_,
    fun hd r n hn => ?_⟩
  · refine ask_read (q := ⟨0x22, tag, .configRead⟩) h rfl ?_
    change configRead (Work.of s) = _
    simp only [configRead, List.flatMap_cons, List.flatMap_nil, List.append_nil, List.append_assoc, apply_ite s32]
    rfl
  · refine ask_read (q := ⟨0x14, tag, .supplyRead ch.num⟩) h rfl ?_
    cases ch <;> rfl
  · refine ask_read (q := ⟨0x11, tag, .acceptRead i⟩) h rfl ?_
    change acceptRead i (Work.of s) = _
    rw [acceptRead, Work.of_supply, he]
  · refine ask_read (q := ⟨0x0C, tag, .profileRead i⟩) h rfl ?_
    change profileRead i (Work.of s) = _
    rw [profileRead, if_neg (Nat.not_lt.mpr hi), Work.of_toState]
    cases profileAt s i <;> rfl
  · refine ask_read (q := ⟨0x1F, tag, .healthRead hd.num r.num n⟩) h rfl ?_
    rw [← healthItems_eq]
    change healthRead hd.num r.num n (Work.of s) = _
    cases hd <;> cases r <;> exact if_neg (Nat.not_lt.mpr hn)

/-! ### The mask windows -/

/-- A window matches exactly the nozzles that agree with its base in the bits it heeds (R160). -/
theorem windowMatches_iff {x : MaskWindow} {n : Nat} (hn : n < 1024) (hx : x.base < 1024) :
    windowMatches x n = true ↔ ∀ i, i < 10 → x.ignore.testBit i = false → n.testBit i = x.base.testBit i := by
  have hhigh (i : Nat) (hi : 10 ≤ i) : n.testBit i = false ∧ x.base.testBit i = false :=
    ⟨Nat.testBit_lt_two_pow (hn.trans_le (b := 2 ^ 10) (Nat.pow_le_pow_right (n := 2) (by decide) hi)),
      Nat.testBit_lt_two_pow (hx.trans_le (b := 2 ^ 10) (Nat.pow_le_pow_right (n := 2) (by decide) hi))⟩
  have hbits : windowMatches x n = true ↔ ∀ i, ((n ^^^ x.base) ||| x.ignore).testBit i = x.ignore.testBit i := by
    rw [windowMatches, beq_iff_eq]
    exact ⟨fun h i => by rw [h], Nat.eq_of_testBit_eq⟩
  rw [hbits]
  constructor
  · intro h i _ hi
    have := h i
    simpa [hi] using this
  · intro h i
    rw [Nat.testBit_or, Nat.testBit_xor]
    cases hg : x.ignore.testBit i
    · have heq : n.testBit i = x.base.testBit i := by
        by_cases hi : i < 10
        · exact h i hi hg
        · rw [(hhigh i (Nat.le_of_not_lt hi)).1, (hhigh i (Nat.le_of_not_lt hi)).2]
      simp [heq]
    · simp

theorem windowed_iff {ws : List MaskWindow} {k : MaskKind} {h : Head} {r : Row} {n : Nat} :
    windowed ws k h r n = true
      ↔ ∃ x ∈ ws, x.enabled = true ∧ x.kind = k ∧ x.head = h ∧ x.row = r ∧ windowMatches x n = true := by
  simp [windowed, and_assoc]

theorem sampleState_iff {tw ts sample : Nat} (h : tw + 10 ≤ ts) :
    sampleState tw ts sample ≠ .masked
      ∧ (sampleState tw ts sample = .good ↔ ts ≤ sample)
      ∧ (sampleState tw ts sample = .weak ↔ tw ≤ sample ∧ sample < ts)
      ∧ (sampleState tw ts sample = .out ↔ sample < tw) := by
  unfold sampleState
  split
  · simp; omega
  · split <;> simp <;> omega

/-- FORCE before MASK, and the sample where neither decides (R160). -/
theorem nozzleState_cases (ws : List MaskWindow) (h : Head) (r : Row) (tw ts n sample : Nat) :
    nozzleState ws h r tw ts n sample
      = if windowed ws .mask h r n = true ∧ ¬ windowed ws .force h r n = true then .masked else sampleState tw ts sample := by
  unfold nozzleState
  cases windowed ws .mask h r n <;> cases windowed ws .force h r n <;> rfl

theorem maskSet_taken {i : Nat} {f : MaskFields} {e : Bool} {k : MaskKind} {h : Head} {r : Row} {w : Work}
    (he : f.enabled = if e then 1 else 0) (hk : f.kind = if k = .mask then 0 else 1) (hh : f.head = h.num) (hr : f.row = r.num)
    (hi : i ≤ 15) (hb : f.base ≤ 1023) (hg : f.ignore ≤ 1023) :
    maskSet i f w
      = okWith [] (modChecker (fun x => { x with windows := x.windows.set i ⟨e, k, h, r, f.base, f.ignore⟩ }) w) := by
  have h1 : boolOf f.enabled = some e := he ▸ boolOf_ite e
  have h2 : Head.ofNum f.head = some h := by rw [hh]; cases h <;> rfl
  have h3 : Row.ofNum f.row = some r := by rw [hr]; cases r <;> rfl
  rw [maskSet, h1, h2, h3, hk]
  cases k <;> simp [Nat.not_lt.mpr hi, Nat.not_lt.mpr hb, Nat.not_lt.mpr hg]

theorem maskSet_badField {i : Nat} {f : MaskFields} {w : Work}
    (h : 15 < i ∨ 1 < f.enabled ∨ 1 < f.kind ∨ 2 < f.head ∨ 1 < f.row ∨ 1023 < f.base ∨ 1023 < f.ignore) :
    maskSet i f w = refuse .badField w := by
  unfold maskSet
  split
  · next e k hd r he hk hh hr =>
    have he' : f.enabled ≤ 1 := by
      revert he; unfold boolOf; split <;> simp [*]
    have hk' : f.kind ≤ 1 := by
      revert hk; split <;> simp [*]
    have hh' : f.head ≤ 2 := by
      revert hh; unfold Head.ofNum; split <;> simp [*]
    have hr' : f.row ≤ 1 := by
      revert hr; unfold Row.ofNum; split <;> simp [*]
    refine if_pos ?_
    simp only [Bool.or_eq_true, decide_eq_true_eq]
    omega
  · rfl

/-- Settles O55. -/
theorem maskWindowsDecideTheNozzles : Obligations.MaskWindowsDecideTheNozzles := by
  refine ⟨fun x n => windowMatches_iff, ?_, fun s tag i f h => ⟨fun e k hd r he hk hh hr hi hb hg => ?_, fun hbad => ?_⟩⟩
  · intro ws h r tw ts n sample hts hit state
    have hhit (k : MaskKind) : hit k ↔ windowed ws k h r n = true := windowed_iff.symm
    obtain ⟨hnot, hstates⟩ := sampleState_iff (sample := sample) hts
    rw [hhit, hhit]
    have hs : state = _ := nozzleState_cases ws h r tw ts n sample
    split at hs
    · next hm => exact ⟨iff_of_true hs hm, fun hne => absurd hs hne⟩
    · next hm => exact ⟨iff_of_false (hs ▸ hnot) hm, fun _ => hs ▸ hstates⟩
  · exact ask_decided (q := ⟨0x1E, tag, .maskSet i f⟩) h rfl (maskSet_taken he hk hh hr hi hb hg) rfl rfl
  · exact ask_decided (q := ⟨0x1E, tag, .maskSet i f⟩) h rfl (maskSet_badField hbad) rfl rfl

/-! ### The advance -/

theorem rawOf_eq {a k : Nat} {c : Int} (h : -1000000 ≤ c) : (rawOf a k c : Int) = a * k * (1000000 + c) := by
  have hm : (Config.million : Int) = 1000000 := rfl
  rw [rawOf, hm]
  exact Int.toNat_of_nonneg (Int.mul_nonneg (by positivity) (by omega))

/-- One move: what it commands and what it leaves are its raw length and the residue before it (R3). -/
theorem counts_residue (a k : Nat) (c : Int) (r : Nat) :
    forwardCounts a k c r * 1000000000000 + newResidue a k c r = rawOf a k c + r :=
  Nat.div_add_mod' _ _

/-- The counts commanded and the residue, after one more forward move. -/
def advanceBy (k : Nat) (x : Nat × Nat) (m : Nat × Int) : Nat × Nat :=
  (x.1 + forwardCounts m.1 k m.2 x.2, newResidue m.1 k m.2 x.2)

theorem advance_conserves (k : Nat) (moves : List (Nat × Int)) (x : Nat × Nat) :
    let run := moves.foldl (advanceBy k) x
    (moves.map (fun m => rawOf m.1 k m.2)).sum + (x.1 * 1000000000000 + x.2) = run.1 * 1000000000000 + run.2 := by
  induction moves generalizing x with
  | nil => simp
  | cons m ms ih =>
    have hm := counts_residue m.1 k m.2 x.2
    have hr := ih (advanceBy k x m)
    simp only [List.foldl_cons, List.map_cons, List.sum_cons] at *
    rw [← hr, advanceBy]
    dsimp only
    rw [Nat.add_mul]
    omega

theorem advance_residue (k : Nat) (moves : List (Nat × Int)) (x : Nat × Nat) (h : x.2 < 1000000000000) :
    (moves.foldl (advanceBy k) x).2 < 1000000000000 := by
  induction moves generalizing x with
  | nil => exact h
  | cons m ms ih => exact ih _ (Nat.mod_lt _ (by decide))

/-- Settles O13, by induction on the moves. -/
theorem advanceLosesNothing : Obligations.AdvanceLosesNothing :=
  ⟨fun _ _ _ => rawOf_eq, fun k moves =>
    ⟨(advance_conserves k moves (0, 0) :), advance_residue k moves (0, 0) (by decide)⟩⟩

end Sys2Proof.Machine
end

section
/-! ## The link checks, the hunt and the line, and STORE_FAULT (R172 to R174, R178, R181; O5, O7, O8) -/

namespace Sys2Proof.Machine

open Sys2Proof

set_option Elab.async false

/-! ### Requests turned away -/

theorem placeReply_closed {q : Request} {r : Reply} {l : Link} (h : ¬ (r.answer = .started ∨ r.answer = .queued)) :
    placeReply q r l = enqueue (replyFrame q r) l :=
  if_neg (by simpa using h)

/-- A request turned away: its reply joins the queue, and no state outside the link changes (R174). -/
theorem ask_turned {s : State} {q : Request} {r : Reply} (hb : s.link.buffer = []) (hm : mayDecide s.link = true)
    (h : linkCheck q s = some r) : ask q s = .next { s with link := enqueue (replyFrame q r) s.link } := by
  rw [ask_turnedAway hb hm h, setLink, placeReply_closed (not_opens_of_linkCheck h)]

theorem linkCheck_tagZero {q : Request} {s : State} (h : q.tag = 0) : linkCheck q s = some (refusedReply .badField) := by
  simp [linkCheck, h, refusedReply]

theorem linkCheck_unknownKind {q : Request} {s : State} (h : q.tag ≠ 0) (hb : q.body = .unknownKind) :
    linkCheck q s = some (refusedReply .unknownKind) := by
  simp [linkCheck, h, hb, refusedReply]

theorem linkCheck_badLength {q : Request} {s : State} (h : q.tag ≠ 0) (hb : q.body = .badLength) :
    linkCheck q s = some (refusedReply .badField) := by
  simp [linkCheck, h, hb, refusedReply]

theorem linkCheck_notReady {q : Request} {s : State} (h : q.tag ≠ 0) (hu : q.body ≠ .unknownKind) (hb : q.body ≠ .badLength)
    (hp : s.phase ≠ .ready) (hs : q.body ≠ .statusRead) : linkCheck q s = some ⟨.wait, .notReady, [], 0⟩ := by
  simp [linkCheck, h, hu, hb, hp, hs]

/-- What is left of the link checks once a request is known, well-formed and may be heard (Table 9-2). -/
theorem linkCheck_known {q : Request} {s : State} (h : q.tag ≠ 0) (hu : q.body ≠ .unknownKind) (hb : q.body ≠ .badLength)
    (hp : s.phase = .ready ∨ q.body = .statusRead) :
    linkCheck q s
      = match s.link.table.find? (fun e => e.tag = q.tag) with
        | some e => some ⟨.refused, .tagBusy, u8 e.kind ++ u8 e.subject, 0⟩
        | none => if longCapable q.body && Config.tableSlots ≤ s.link.table.length then some ⟨.refused, .busy, [], 0⟩ else none := by
  have hd : (s.phase ≠ .ready && q.body ≠ .statusRead) = false := by
    obtain hp | hp := hp <;> simp [hp]
  simp only [linkCheck, h, hu, hb, hd, if_false, Bool.false_eq_true] <;> rfl

/-- Settles O8: the checks of Table 9-2, one by one. -/
theorem linkChecksTurnAway : Obligations.LinkChecksTurnAway := by
  refine ⟨fun s kind tag hb hm ht => ?_, fun s q hb hm => ?_⟩
  · exact ask_turned (q := ⟨kind, tag, .unknownKind⟩) hb hm (linkCheck_unknownKind ht rfl)
  · refine ⟨fun h => ask_turned hb hm (linkCheck_tagZero h), fun h hu => ask_turned hb hm (linkCheck_unknownKind h hu),
      fun h hl => ask_turned hb hm (linkCheck_badLength h hl),
      fun h hu hl hp hs => ask_turned hb hm (linkCheck_notReady h hu hl hp hs),
      fun h hu hl hp => ⟨fun e he => ?_, fun hn hlong hfull => ?_⟩⟩
    · exact ask_turned hb hm (by rw [linkCheck_known h hu hl hp, he])
    · have hfull' : Config.tableSlots ≤ s.link.table.length := hfull
      exact ask_turned hb hm (by rw [linkCheck_known h hu hl hp, hn, hlong]; simp [hfull', refusedReply])

/-! ### The hunt, the gap and the freed slot -/

theorem byte_isStart {b : Byte} : b.toNat = Config.startByte ↔ b = 0xC3 :=
  ⟨fun h => BitVec.eq_of_toNat_eq h, fun h => by rw [h]; rfl⟩

/-- A byte while the receiver hunts (R172). -/
theorem receive_hunt {now : Nat} {b : Byte} {stopOk : Bool} {l : Link} (h : l.rx.phase = .hunt) :
    receive now b stopOk l = if stopOk = true ∧ b = 0xC3 then { l with rx := ⟨.length, [], now⟩ } else l := by
  have hg : gapPassed now l = false := by simp [gapPassed, h]
  unfold receive
  simp [hg, h, huntByte, byte_isStart]

theorem gapPassed_iff {now : Nat} {l : Link} : gapPassed now l = true ↔ l.rx.phase ≠ .hunt ∧ l.rx.last + 3 ≤ now := by
  simp [gapPassed, reached, Config.frameGap, Nat.succ_le_iff]

/-- A slot is freed: the pending STATUS_CHANGED takes one exactly when 17 stay free (R178, R179). -/
theorem frameLeft_cons {l : Link} {f : Frame} {rest : List Frame} (h : l.queue = f :: rest) :
    frameLeft l
      = match l.changed with
        | some c =>
          if rest.length + 18 ≤ 48 then { l with queue := rest ++ [⟨.event, 0x67, 0, u8 c.num⟩], changed := none }
          else { l with queue := rest }
        | none => { l with queue := rest } := by
  have hroom : eventRoom { l with queue := rest } = decide (rest.length + 18 ≤ 48) := by
    simp only [eventRoom, freeSlots, Config.keptSlots, Config.queueSlots]
    exact decide_eq_decide.mpr (by omega)
  unfold frameLeft
  rw [h]
  dsimp only [placeChanged]
  rw [hroom]
  cases l.changed <;> simp [enqueue]

theorem frameLeft_buffer (l : Link) : (frameLeft l).buffer = l.buffer := by
  unfold frameLeft placeChanged enqueue
  split
  · rfl
  · split
    · split <;> rfl
    · rfl

/-- Settles O7. -/
theorem huntGapAndSentFrames : Obligations.HuntGapAndSentFrames := by
  refine ⟨fun s b stopOk home hh hb => ?_, fun s => ?_, fun s f rest home hb hq => ?_⟩
  · have hr := receive_hunt (now := s.now) (b := b) (stopOk := stopOk) hh
    have he : (setLink (receive s.now b stopOk) (withHome home s)).link.buffer = [] := by
      change (receive s.now b stopOk s.link).buffer = []
      rw [hr]
      split <;> exact hb
    refine (serve_empty he).trans (congrArg _ ?_)
    change { withHome home s with link := receive s.now b stopOk s.link } = _
    rw [hr]
    split <;> rfl
  · change (if gapPassed s.now s.link then Host.Outcome.next (setLink discardFrame s) else .next s) = _
    have he : discardFrame s.link
        = { s.link with errors := min 65535 (s.link.errors + 1), rx := ⟨.hunt, [], s.link.rx.last⟩ } := by
      rfl
    simp only [gapPassed_iff, setLink, he]
    split <;> rfl
  · have he : (setLink frameLeft (withHome home s)).link.buffer = [] := (frameLeft_buffer s.link).trans hb
    refine (serve_empty he).trans (congrArg _ ?_)
    change { withHome home s with link := frameLeft s.link } = _
    rw [frameLeft_cons hq] <;> cases hc : s.link.changed <;> simp only [hc]

/-! ### STORE_FAULT -/

theorem close_storeFault {w : Work} (h : w.phase = .storeFault) : close w = { w.toState with link := told w.outbox w.link } := by
  rw [close, lookReady_storeFault h]
  rfl

/-- Nothing outside the link interface differs. -/
def SameBlocks (s t : State) : Prop := t = { s with link := t.link }

theorem SameBlocks.refl (s : State) : SameBlocks s s := rfl

theorem SameBlocks.setLink (f : Link → Link) (s : State) : SameBlocks s (setLink f s) := rfl

theorem SameBlocks.trans {s t u : State} (h : SameBlocks s t) (k : SameBlocks t u) : SameBlocks s u := by
  unfold SameBlocks at *
  rw [k, h]

theorem SameBlocks.phase {s t : State} (h : SameBlocks s t) : t.phase = s.phase := by rw [h]

theorem sameBlocks_close {w : Work} (h : w.phase = .storeFault) : SameBlocks w.toState (close w) := by
  rw [close_storeFault h]
  rfl

/-- In STORE_FAULT a request is turned away or is STATUS_READ (R181). -/
theorem decideOne_storeFault {q : Request} {s t : State} (hp : s.phase = .storeFault) (h : decideOne q s = some t) :
    SameBlocks s t := by
  unfold decideOne at h
  split at h
  · cases h; exact .setLink _ _
  · next hc =>
    have hb : q.body = .statusRead := (linkCheck_eq_none hc).1.resolve_left (by simp [hp])
    obtain ⟨kind, tag, body⟩ := q
    cases hb
    have hd : drain reportBound (route ⟨kind, tag, .statusRead⟩ (Work.of s)) = some (okWith (statusItems s) (Work.of s)) :=
      drain_nil _ rfl
    rw [if_neg (by simp), routed, hd] at h
    cases h
    exact (SameBlocks.setLink (placeReply _ _) s).trans (sameBlocks_close hp)

theorem decideAll_storeFault (n : Nat) {s t : State} (hp : s.phase = .storeFault) (h : decideAll n s = some t) : SameBlocks s t := by
  induction n generalizing s with
  | zero => cases h; exact .refl _
  | succ n ih =>
    unfold decideAll at h
    split at h
    · cases h; exact .refl _
    · next q rest hb =>
      split at h
      · obtain ⟨u, hu, ht⟩ := Option.bind_eq_some_iff.mp h
        have k := (SameBlocks.setLink (fun l => { l with buffer := rest }) s).trans (decideOne_storeFault hp hu)
        exact k.trans (ih (k.phase.trans hp) ht)
      · cases h; exact .refl _

theorem serve_storeFault {s t : State} (hp : s.phase = .storeFault) (h : serve s = .next t) : SameBlocks s t := by
  unfold serve finish at h
  split at h
  · next u hu => cases h; exact decideAll_storeFault _ hp hu
  · cases h

theorem occur_sameBlocks {f : Work → Work} {s t : State} (hp : s.phase = .storeFault) (h : occur f s = .next t) : SameBlocks s t := by
  rw [occur_storeFault hp] at h
  cases h
  exact .refl s

/-- What a command is made of: a change of the link interface and the requests it lets through, the gap, or an event. -/
theorem exec_cases {c : Instr} {s : State} (h : ∀ x y, c ≠ .powerOn x y) :
    (∃ f home, exec c s = serve (setLink f (withHome home s))) ∨ c = .frameGapTimeout ∨ ∃ f, exec c s = occur f s := by
  cases c
  case powerOn x y => exact absurd rfl (h x y)
  case frameGapTimeout => exact .inr (.inl rfl)
  case receiveByte | frameSent | park | reset => exact .inl ⟨_, _, rfl⟩
  case unknownRequestKind | sheetOpen | swath | sheetClose | sheetAbort | mediaLoad | mediaUnload | rollSelect | profileSet
      | profileRead | pathClear | feedTrimSet | acceptSet | acceptRead | baySelect | topUp | supplyRead | uncap | cap | release
      | service | nozzleCheck | maskSet | healthRead | statusRead | configSet | configRead =>
    exact .inl ⟨_, s.station.car.home, rfl⟩
  all_goals exact .inr (.inr ⟨_, rfl⟩)

/-- Settles O5: the power-on alone, then each command. -/
theorem storeFaultStopsTheBlocks : Obligations.StoreFaultStopsTheBlocks := by
  refine ⟨fun x y s hx => ?_, fun s t c hp hc h => ?_⟩
  · have hw : powerOn x y s.pending = Work.of (storeFaultState s.pending) := by simp [powerOn, hx]
    have he : exec (.powerOn x y) s = .next (close (Work.of (storeFaultState s.pending))) := by
      change finish ((drain reportBound (powerOn x y s.pending)).map close) = _
      rw [hw, drain_nil _ rfl]
      rfl
    rw [close_storeFault (w := Work.of (storeFaultState s.pending)) rfl] at he
    exact ⟨_, he, rfl, rfl, rfl⟩
  · obtain ⟨f, home, hx⟩ | rfl | ⟨f, hx⟩ := exec_cases (s := s) hc
    · rw [hx] at h
      exact ⟨home, serve_storeFault (s := setLink f (withHome home s)) hp h⟩
    · refine ⟨s.station.car.home, ?_⟩
      change (if gapPassed s.now s.link then Host.Outcome.next (setLink discardFrame s) else .next s) = .next t at h
      split at h <;> cases h <;> rfl
    · rw [hx] at h
      exact ⟨s.station.car.home, occur_sameBlocks hp h⟩

end Sys2Proof.Machine
end

section
/-! ## What is due at a state (R172 and the time-outs of the rules; O2) -/

namespace Sys2Proof.Machine

open Sys2Proof

set_option Elab.async false

theorem mem_dueIf {b : Bool} {c i : Instr} : c ∈ dueIf b i ↔ c = i ∧ b = true := by
  cases b <;> simp [dueIf]

theorem mem_flatMap_dueIf {b : Chan → Bool} {c : Instr} {i : Chan → Instr} :
    c ∈ allChans.flatMap (fun ch => dueIf (b ch) (i ch)) ↔ ∃ ch, c = i ch ∧ b ch = true := by
  have hall (ch : Chan) : ch ∈ allChans := by cases ch <;> decide
  simp [List.mem_flatMap, mem_dueIf, hall]

/-! ### Each unit's expiries, in the statement's words -/

theorem mem_feedDue {s : State} {c : Instr} :
    c ∈ feedDue s
      ↔ (c = .stallDeadline ∧ ∃ m, s.feed.move = some m ∧ m.seen = 0 ∧ m.start + 30 ≤ s.now)
        ∨ (c = .completionDeadline ∧ ∃ m, s.feed.move = some m ∧ m.start + (60 + (m.commanded + 99) / 100) ≤ s.now) := by
  unfold feedDue
  cases s.feed.move with
  | none => simp
  | some m =>
    simp [mem_dueIf, reached_iff, stallDue, completionDue, ceilDiv, Config.stallTime, Config.completionBase, Nat.add_assoc]

theorem cutterDue_iff {s : State} :
    cutterDue s = true ↔ ∃ x t, s.media.cut = some x ∧ x.start = some t ∧ t + 2500 ≤ s.now := by
  simp [cutterDue, Option.any_eq_true, Option.bind_eq_some_iff, reached_iff, Config.cutterTime]
  tauto

theorem mem_mediaDue {s : State} {c : Instr} :
    c ∈ mediaDue s
      ↔ (c = .cutterTimeout ∧ ∃ x t, s.media.cut = some x ∧ x.start = some t ∧ t + 2500 ≤ s.now)
        ∨ (c = .exitWatchTimeout ∧ ∃ t, s.media.exitWatch = some t ∧ t + 4000 ≤ s.now)
        ∨ (c = .dryEnd ∧ s.sheet.phase = .drying ∧ ∃ t, s.sheet.dryEnd = some t ∧ t + 0 ≤ s.now) := by
  simp [mediaDue, mem_dueIf, cutterDue_iff, Option.any_eq_true, reached_iff, Config.exitTime]

theorem stirWanted_iff {s : State} {ch : Chan} :
    stirWanted s ch = true
      ↔ 0 < (s.supply.params.get ch).settle ∧ (s.supply.params.get ch).settle * 1000 ≤ stirTimer s ch
        ∧ s.supply.supplied.get ch = true ∧ entryOf s.pump ch = none ∧ ∀ o, s.pump.op = some o → o.chan ≠ ch := by
  simp [stirWanted, opOn, Option.any_eq_false, and_assoc]

theorem mem_pumpDue {s : State} {c : Instr} :
    c ∈ pumpDue s
      ↔ (c = .pulseWindowEnd ∧ ∃ o, s.pump.op = some o ∧ o.window = .open ∧ o.strokeStart + 150 ≤ s.now)
        ∨ (c = .strokeEnd ∧ ∃ o, s.pump.op = some o ∧ o.strokeStart + 200 ≤ s.now)
        ∨ (∃ ch, c = .requestAgeing ch ∧ ∃ r, entryOf s.pump ch = some r ∧ r.made + 2000 * (r.aged + 1) ≤ s.now)
        ∨ ∃ ch, c = .stirTimerDue ch ∧ stirWanted s ch = true := by
  have hage (ch : Chan) : (entryOf s.pump ch).any (fun r => reached (ageingDue r) s.now) = true
      ↔ ∃ r, entryOf s.pump ch = some r ∧ r.made + 2000 * (r.aged + 1) ≤ s.now := by
    simp [Option.any_eq_true, reached_iff, ageingDue, Config.ageingStep]
  rw [pumpDue, List.mem_append, List.mem_append, mem_flatMap_dueIf, mem_flatMap_dueIf]
  simp only [hage]
  rw [or_assoc, ← or_assoc (a := c = .pulseWindowEnd ∧ _)]
  refine or_congr ?_ Iff.rfl
  cases s.pump.op with
  | none => simp
  | some o => simp [mem_dueIf, reached_iff, windowDue, strokeDue, Config.pulseWindow, Config.strokeTime]

theorem sledDue_iff {s : State} :
    sledDue s = true ↔ ∃ t, (s.station.car.sled = .lowering t ∨ s.station.car.sled = .raising t) ∧ t + 800 ≤ s.now := by
  unfold sledDue
  cases s.station.car.sled <;> simp [reached_iff, Config.sledTime]

theorem autoCapReady_iff {s : State} :
    autoCapReady s = true ↔ ∃ t, s.station.car.idleSince = some t ∧ t + s.conf.autoCap ≤ s.now := by
  unfold autoCapReady
  cases s.station.car.idleSince <;> simp [reached_iff]

theorem actionTime_eq (k : MoveKind) : actionTime k = if k = .wipe then 1500 else 3000 := by cases k <;> rfl

theorem movingAction_iff {s : State} {m : CarMove} {t : Nat} :
    movingAction s = some (m, t) ↔ s.station.car.move = some m ∧ m.phase = .action t := by
  unfold movingAction
  cases s.station.car.move with
  | none => simp
  | some x =>
    cases hx : x.phase <;> simp only [hx, reduceCtorEq, Option.some.injEq, Prod.mk.injEq, false_iff, not_and]
    all_goals aesop

theorem calibrationDue_iff {s : State} :
    calibrationDue s = true
      ↔ ∃ c t, s.checker.check = some c ∧ (c.step = .calibOn t ∨ c.step = .calibOff t) ∧ t + 100 ≤ s.now := by
  unfold calibrationDue
  cases s.checker.check with
  | none => simp
  | some c => cases hc : c.step <;> simp [hc, reached_iff, Config.calibrationTime]

theorem returnDue_iff {s : State} :
    returnDue s = true
      ↔ (∃ t, s.station.car.resetReturn = some t ∧ t + 2000 ≤ s.now)
        ∨ (s.station.car.resetReturn = none
          ∧ ∃ m t, s.station.car.move = some m ∧ m.phase = .returning t ∧ t + 2000 ≤ s.now) := by
  unfold returnDue
  cases s.station.car.resetReturn with
  | some t => simp [reached_iff, Config.returnTime]
  | none =>
    cases s.station.car.move with
    | none => simp
    | some m => cases hm : m.phase <;> simp [hm, reached_iff, Config.returnTime]

theorem mem_carriageDue {s : State} {c : Instr} :
    c ∈ carriageDue s
      ↔ (c = .sledTimeout ∧ sledDue s = true) ∨ (c = .autoCap ∧ autoCapReady s = true)
        ∨ (c = .actionDeadline
            ∧ ∃ m t, s.station.car.move = some m ∧ m.phase = .action t ∧ t + (if m.kind = .wipe then 1500 else 3000) ≤ s.now)
        ∨ (c = .calibrationTimeout ∧ calibrationDue s = true) ∨ (c = .returnTimeout ∧ returnDue s = true)
        ∨ (c = .suctionTimeout ∧ ∃ u, s.station.car.suction = some u ∧ u.start + (3000 + (u.volume + 999) / 1000) ≤ s.now) := by
  simp [carriageDue, mem_dueIf, Option.any_eq_true, reached_iff, movingAction_iff, actionTime_eq, suctionDue, ceilDiv,
    Config.suctionBase, and_assoc, Nat.add_assoc]

theorem mem_wetDue {s : State} {c : Instr} :
    c ∈ wetDue s
      ↔ (∃ ch, c = .spitDueLimit ch ∧ (s.supply.params.get ch).keepWet < wetClock s ch ∧ (s.station.wet.get ch).spitDue = false)
        ∨ ∃ ch, c = .cleanDueLimit ch ∧ 4 * (s.supply.params.get ch).keepWet < wetClock s ch
            ∧ s.station.cleanDue.get ch.head = false := by
  rw [wetDue, List.mem_append, mem_flatMap_dueIf, mem_flatMap_dueIf]
  simp [spitDueAt, cleanDueAt]

theorem mem_serviceDue {s : State} {c : Instr} :
    c ∈ serviceDue s
      ↔ (c = .prePurgeWaitEnd
          ∧ ∃ v t, s.station.service = some v ∧ v.step = .precondition ∧ v.waitEnd = some t ∧ t + 0 ≤ s.now)
        ∨ (c = .spitFiringEnd ∧ ∃ v t, s.station.service = some v ∧ v.step = .spit ∧ v.spitEnd = some t ∧ t + 0 ≤ s.now) := by
  unfold serviceDue
  cases s.station.service with
  | none => simp
  | some v => simp [mem_dueIf, Option.any_eq_true, reached_iff]

/-! ### All that is due -/

theorem mem_dueList {s : State} {c : Instr} :
    c ∈ dueList s
      ↔ (c = .frameGapTimeout ∧ s.link.rx.phase ≠ .hunt ∧ s.link.rx.last + 3 ≤ s.now)
        ∨ (s.phase ≠ .storeFault
          ∧ (c ∈ feedDue s ∨ c ∈ mediaDue s ∨ c ∈ pumpDue s ∨ c ∈ carriageDue s
            ∨ c ∈ wetDue s ∨ c ∈ serviceDue s)) := by
  rw [dueList, List.mem_append, mem_dueIf, gapPassed_iff]
  by_cases hp : s.phase = .storeFault
  · simp [hp]
  · simp [hp]

theorem grant_none {w : Work} (h : w.pump.op.isSome ∨ w.pump.list = []) : grant w = w := by
  unfold grant
  split
  · rfl
  · next ho =>
    have hl := h.resolve_left ho
    rw [hl]
    rfl

/-- Settles O2. -/
theorem emptyQueueRunsTheTimebase : Obligations.EmptyQueueRunsTheTimebase := by
  refine ⟨fun s hs => ⟨fun d ds hd => ?_, fun hd hp => ?_⟩, ?_⟩
  · rw [step, hs]
    simp only [idle, hd]
  · have hi : step s = occur grant { s with now := s.now + 1 } := by
      rw [step, hs]
      simp only [idle, hd, tick, hs]
    rw [hi]
    obtain hp | ⟨hp, hg⟩ := hp
    · exact occur_storeFault hp
    · exact occur_void (by simpa [State.running] using hp) (grant_none hg)
  · intro s due past
    refine ⟨?_, fun hp c hc => ?_, fun c hc => ?_, fun hp => ?_⟩
    · simp [due, past, mem_dueList, mem_feedDue, mem_mediaDue, mem_pumpDue, mem_carriageDue, mem_wetDue, mem_serviceDue]
    · obtain ⟨rfl, -⟩ | ⟨hn, -⟩ := mem_dueList.mp hc
      · rfl
      · exact absurd hp hn
    · rw [mem_dueList, mem_feedDue, mem_mediaDue, mem_pumpDue, mem_carriageDue, mem_wetDue, mem_serviceDue] at hc
      obtain ⟨rfl, -⟩ | ⟨-, (⟨rfl, -⟩ | ⟨rfl, -⟩) | (⟨rfl, -⟩ | ⟨rfl, -⟩ | ⟨rfl, -⟩)
        | (⟨rfl, -⟩ | ⟨rfl, -⟩ | ⟨ch, rfl, -⟩ | ⟨ch, rfl, -⟩)
        | (⟨rfl, -⟩ | ⟨rfl, -⟩ | ⟨rfl, -⟩ | ⟨rfl, -⟩ | ⟨rfl, -⟩ | ⟨rfl, -⟩) | (⟨ch, rfl, -⟩ | ⟨ch, rfl, -⟩)
        | (⟨rfl, -⟩ | ⟨rfl, -⟩)⟩ := hc
      all_goals simp
    · simp [due, past, mem_dueList, hp, mem_feedDue, mem_mediaDue, mem_pumpDue, mem_carriageDue, mem_wetDue, mem_serviceDue,
        stirWanted_iff, sledDue_iff, autoCapReady_iff, calibrationDue_iff, returnDue_iff]

end Sys2Proof.Machine
end

section
/-! ## Several reports, and the requests of the carriage (R118 to R124; O46, O47, O48) -/

namespace Sys2Proof.Machine

open Sys2Proof

set_option Elab.async false

/-! ### Reports taken one by one -/

/-- More room for reports changes nothing once they are all delivered. -/
theorem drain_of_le {n m : Nat} {w v : Work} (h : drain n w = some v) (hn : n ≤ m) : drain m w = some v := by
  induction n generalizing w m with
  | zero =>
    cases ha : w.agenda with
    | nil => rw [drain_nil _ ha] at h ⊢; exact h
    | cons r rest => rw [drain, ha] at h; cases h
  | succ n ih =>
    cases ha : w.agenda with
    | nil => rw [drain_nil _ ha] at h ⊢; exact h
    | cons r rest =>
      obtain ⟨m, rfl⟩ : ∃ k, m = k + 1 := ⟨m - 1, by omega⟩
      rw [drain_cons _ ha] at h ⊢
      exact ih h (by omega)

/-- One report is delivered, the rest follow. -/
theorem drain_step {n : Nat} {w x v : Work} {r : Report} {rest : List Report} (ha : w.agenda = r :: rest)
    (hd : deliver r { w with agenda := rest } = x) (hx : drain n x = some v) : drain (n + 1) w = some v := by
  rw [drain_cons n ha, hd, hx]

/-- A single report that raises none. -/
theorem drain_one {w v : Work} {r : Report} (ha : w.agenda = [r]) (hd : deliver r { w with agenda := [] } = v)
    (hv : v.agenda = []) : drain reportBound w = some v :=
  drain_of_le (drain_step ha hd (drain_nil 0 hv)) (by decide)

/-- A single report that nobody acts on. -/
theorem drain_unheard {w : Work} {r : Report} (ha : w.agenda = [r])
    (hd : deliver r { w with agenda := [] } = { w with agenda := [] }) : drain reportBound w = some { w with agenda := [] } :=
  drain_one ha hd rfl

/-- A heard request with a single report that nobody acts on. -/
theorem ask_unheard {s : State} {q : Request} {w : Work} {r : Reply} {p : Report} (h : s.hears q.tag = true)
    (hb : routable q.body = true) (hw : route q (Work.of s) = w) (hr : w.reply = some r) (ha : w.agenda = [p])
    (hd : deliver p { w with agenda := [] } = { w with agenda := [] }) :
    ask q s = .next { w.toState with link := replied q.kind q.tag q.body r w.outbox s.link } :=
  ask_drained (w := { w with agenda := [] }) h hb (by rw [hw]; exact drain_unheard ha hd) hr

/-- An event with a single report that nobody acts on. -/
theorem occur_unheard {f : Work → Work} {s : State} {w : Work} {p : Report} (hs : s.running = true)
    (hf : ∀ {w x : Work}, Keeps false w x → Keeps false w (f x)) (hw : f (Work.of s) = w) (ha : w.agenda = [p])
    (hd : deliver p { w with agenda := [] } = { w with agenda := [] }) :
    occur f s = .next { w.toState with link := told w.outbox s.link } :=
  occur_drained (w := { w with agenda := [] }) hs hf (by rw [hw]; exact drain_unheard ha hd)

/-- A heard request with a single report, and what follows from it. -/
theorem ask_one {s : State} {q : Request} {w v : Work} {r : Reply} {p : Report} (h : s.hears q.tag = true)
    (hb : routable q.body = true) (hw : route q (Work.of s) = w) (ha : w.agenda = [p])
    (hd : deliver p { w with agenda := [] } = v) (hv : v.agenda = []) (hr : v.reply = some r) :
    ask q s = .next { v.toState with link := replied q.kind q.tag q.body r v.outbox s.link } :=
  ask_drained h hb (by rw [hw]; exact drain_one ha hd hv) hr

/-- An event with a single report, and what follows from it. -/
theorem occur_one {f : Work → Work} {s : State} {w v : Work} {p : Report} (hs : s.running = true)
    (hf : ∀ {w x : Work}, Keeps false w x → Keeps false w (f x)) (hw : f (Work.of s) = w) (ha : w.agenda = [p])
    (hd : deliver p { w with agenda := [] } = v) (hv : v.agenda = []) :
    occur f s = .next { v.toState with link := told v.outbox s.link } :=
  occur_drained hs hf (by rw [hw]; exact drain_one ha hd hv)

/-! ### The carriage record -/

theorem Claims.any_iff {c : Claims} : c.any = true ↔ c ≠ ⟨false, false, false⟩ := by
  obtain ⟨m, k, v⟩ := c
  cases m <;> cases k <;> cases v <;> decide

theorem Carriage.timed_awake {c : Carriage} {n : Nat} (h : c.idles = false) : c.timed n = { c with idleSince := none } := by
  simp [Carriage.timed, h]

theorem Carriage.idles_moving {c : Carriage} (h : c.sled ≠ .still) : c.idles = false := by
  simp [Carriage.idles, h]

theorem Carriage.idles_notOpen {c : Carriage} (h : c.state ≠ .open) : c.idles = false := by
  simp [Carriage.idles, h]

/-- A change that leaves the carriage not idling: the idle time is 0 (R124). -/
theorem modCar_awake {f : Carriage → Carriage} {w : Work} (h : (f w.station.car).idles = false) :
    modCar f w = { w with station := { w.station with car := { f w.station.car with idleSince := none } } } := by
  have ht : (f w.station.car).timed w.now = _ := Carriage.timed_awake h
  rw [← ht]
  rfl

theorem modCar_sled {f : Carriage → Carriage} {w : Work} (h : (f w.station.car).sled ≠ .still) :
    modCar f w = { w with station := { w.station with car := { f w.station.car with idleSince := none } } } :=
  modCar_awake (Carriage.idles_moving h)

theorem sledBusy_iff {c : Carriage} :
    sledBusy c = true ↔ c.claims ≠ ⟨false, false, false⟩ ∨ c.move ≠ none ∨ c.suction ≠ none ∨ c.state = .serviceMove := by
  simp [sledBusy, Claims.any_iff, Option.isSome_iff_ne_none, or_assoc]

/-! ### UNCAP and CAP -/

/-- A request that changes at most the carriage record. -/
theorem ask_car {s : State} {q : Request} {x : Carriage} {r : Reply} (h : s.hears q.tag = true) (hb : routable q.body = true)
    (hw : route q (Work.of s)
      = { Work.of s with toState := { s with station := { s.station with car := x } }, reply := some r }) :
    ask q s = .next { s with
      station := { s.station with car := x }, link := replied q.kind q.tag q.body r [] s.link } :=
  ask_decided h hb hw rfl rfl

/-- The carriage as a request leaves it that starts or joins a motion of the sled (R118, R119). -/
def Carriage.waitsFor (tag : Nat) (sled : Sled) (c : Carriage) : Carriage :=
  { c with sled := sled, tags := c.tags ++ [tag], idleSince := none }

theorem lower_joined {tag : Nat} {w : Work} :
    modCar (fun c => startLowering (joinSled tag c) w.now) w
      = { w with station := { w.station with car := w.station.car.waitsFor tag (.lowering w.now) } } :=
  modCar_sled (by simp [startLowering])

theorem raise_joined {tag : Nat} {w : Work} :
    modCar (fun c => startRaising (joinSled tag c) w.now) w
      = { w with station := { w.station with car := w.station.car.waitsFor tag (.raising w.now) } } :=
  modCar_sled (by simp [startRaising])

theorem join_moving {tag : Nat} {w : Work} {sled : Sled} (hl : w.station.car.sled = sled) (h : sled ≠ .still) :
    modCar (joinSled tag) w = { w with station := { w.station with car := w.station.car.waitsFor tag w.station.car.sled } } :=
  modCar_sled (hl ▸ h)

/-- Settles O46: the tables of R120 and R121, line by line. -/
theorem uncapAndCapFollowTheirTables : Obligations.UncapAndCapFollowTheirTables := by
  intro s tag h c busy uncaps caps waits
  have hbusy : busy ↔ sledBusy c = true := sledBusy_iff.symm
  have huncap {x : Carriage} {r : Reply} (hw : uncap tag (Work.of s)
      = { Work.of s with toState := { s with station := { s.station with car := x } }, reply := some r }) : uncaps x r :=
    ask_car (q := ⟨kindUncap, tag, .uncap⟩) h rfl hw
  have hcap {x : Carriage} {r : Reply} (hw : cap tag (Work.of s)
      = { Work.of s with toState := { s with station := { s.station with car := x } }, reply := some r }) : caps x r :=
    ask_car (q := ⟨kindCap, tag, .cap⟩) h rfl hw
  refine ⟨fun hb => ?_, fun hb => ?_⟩
  · have hb' := hbusy.mp hb
    exact ⟨huncap (if_pos hb'), hcap (if_pos hb')⟩
  · have hb' : sledBusy (Work.of s).station.car = false := by simpa using mt hbusy.mpr hb
    refine ⟨fun hs => ⟨huncap ?_, hcap ?_⟩, fun hs hl => ⟨huncap ?_, hcap ?_⟩, fun t hs hl => ⟨huncap ?_, hcap ?_⟩,
      fun t hs hl => ⟨huncap ?_, hcap ?_⟩, fun hs hl => ⟨huncap ?_, hcap ?_⟩⟩
    all_goals
      have hs' : (Work.of s).station.car.state = _ := hs
    · simp only [uncap, hb', hs']; rfl
    · simp only [cap, hb', hs']; rfl
    all_goals
      have hl' : (Work.of s).station.car.sled = _ := hl
    · simp only [uncap, hb', hs', hl', lower_joined]; rfl
    · simp only [cap, hb', hs', hl']; rfl
    · simp only [uncap, hb', hs', hl', hl, join_moving hl' (by simp)]; rfl
    · simp only [cap, hb', hs', hl']; rfl
    · simp only [uncap, hb', hs', hl']; rfl
    · simp only [cap, hb', hs', hl', hl, join_moving hl' (by simp)]; rfl
    · simp only [uncap, hb', hs', hl']; rfl
    · simp only [cap, hb', hs', hl', raise_joined]; rfl

/-! ### A change of the carriage state -/

theorem zeroWets_eq (w : Work) : zeroWets w = { w with station := { w.station with wet := Chans.all ⟨w.now, false⟩ } } := by
  simp [zeroWets, allChans, restartWet, setStation, Chans.set, Chans.all]

/-- The carriage stays in its state (Table 6-2). -/
theorem carTo_same {f : Carriage → Carriage} {w : Work} (h : (f w.station.car).state = w.station.car.state) :
    carTo f w = modCar f w := by
  have hs : (modCar f w).station.car.state = w.station.car.state := h
  unfold carTo
  exact if_pos hs

/-- The carriage leaves a state that is not CAPPED for one that is not parked. -/
theorem carTo_away {f : Carriage → Carriage} {w : Work} (hn : (f w.station.car).state ≠ w.station.car.state)
    (hc : w.station.car.state ≠ .capped) (hp : (f w.station.car).state.isParked = false) : carTo f w = modCar f w := by
  have hne : (modCar f w).station.car.state ≠ w.station.car.state := hn
  have hnp : (modCar f w).station.car.state.isParked = false := hp
  have hnc : (modCar f w).station.car.state ≠ .capped := fun he => by rw [he] at hnp; cases hnp
  unfold carTo
  refine (if_neg hne).trans ?_
  simp only [hnp, hc, hnc, decide_false, Bool.or_false, when_false]

/-- The carriage comes to stand parked from a state that is not CAPPED, nor becomes it. -/
theorem carTo_home {f : Carriage → Carriage} {w : Work} (hs : w.station.car.state ≠ .open) (hc : w.station.car.state ≠ .capped)
    (hp : (f w.station.car).state = .open) : carTo f w = post .carriageParked (modCar f w) := by
  have ho : (modCar f w).station.car.state = .open := hp
  unfold carTo
  refine (if_neg (by rw [ho]; exact fun he => hs he.symm)).trans ?_
  simp only [ho, hc, decide_false, reduceCtorEq, Bool.or_self, when_false, CarState.isParked, when_true]

/-- The carriage is capped, or uncapped into OPEN: every wet clock is 0 (R137). -/
theorem carTo_capping {f : Carriage → Carriage} {w : Work} (hn : (f w.station.car).state ≠ w.station.car.state)
    (hc : w.station.car.state = .capped ∨ (f w.station.car).state = .capped) (hp : (f w.station.car).state.isParked = true) :
    carTo f w = post .carriageParked (zeroWets (modCar f w)) := by
  have hne : (modCar f w).station.car.state ≠ w.station.car.state := hn
  have hcap : (decide (w.station.car.state = .capped) || decide ((modCar f w).station.car.state = .capped)) = true := by
    rw [Bool.or_eq_true, decide_eq_true_iff, decide_eq_true_iff]
    exact hc
  have hpark : (modCar f w).station.car.state.isParked = true := hp
  unfold carTo
  refine (if_neg hne).trans ?_
  simp only [hcap, hpark, when_true]

theorem lookCarriage_idle {w : Work} (hh : w.station.car.hold ≠ .waiting) (hm : w.station.car.move = none) :
    lookCarriage w = w := by
  simp [lookCarriage, testHold, tryMove, hh, hm]

theorem lookSwitch_absent {w : Work} (h : w.media.switch = none) : lookSwitch w = w := by
  simp [lookSwitch, switchFate, h]

theorem trySwitch_absent {w : Work} (h : w.media.switch = none) : trySwitch w = w := by
  simp [trySwitch, when, lookSwitch_absent h]

/-! ### RELEASE and PARK -/

theorem release_busy {w : Work} (h : w.station.car.claims ≠ ⟨false, false, false⟩ ∨ w.station.car.hold ≠ .none
      ∨ w.station.car.move ≠ none ∨ w.station.car.sled ≠ .still ∨ w.station.car.state = .serviceMove) :
    release w = refuse .busy w := by
  refine if_pos ?_
  simpa [Claims.any_iff, Option.isSome_iff_ne_none, or_assoc] using h

theorem release_free {w : Work} (h : ¬ (w.station.car.claims ≠ ⟨false, false, false⟩ ∨ w.station.car.hold ≠ .none
      ∨ w.station.car.move ≠ none ∨ w.station.car.sled ≠ .still ∨ w.station.car.state = .serviceMove)) :
    release w = match w.station.car.state with
      | .open => okWith [] (carTo (fun c => { c with state := .released }) w)
      | .released => okWith [] w
      | .capped | .serviceMove => refuse .badState w := by
  refine if_neg ?_
  simpa [Claims.any_iff, Option.isSome_iff_ne_none, or_assoc] using h

/-- Settles O47. -/
theorem releaseAndParkHandTheCarriage : Obligations.ReleaseAndParkHandTheCarriage := by
  intro s tag home h c busy releases parks
  have hrel {x : Carriage} {r : Reply} (hw : release (Work.of s)
      = { Work.of s with toState := { s with station := { s.station with car := x } }, reply := some r }) : releases x r :=
    ask_car (q := ⟨0x1A, tag, .release⟩) h rfl hw
  have hpark {r : Reply} (hw : park (Work.of (withHome home s)) = { Work.of (withHome home s) with reply := some r }) :
      parks c r :=
    ask_decided (q := ⟨0x1B, tag, .park⟩) (s := withHome home s) h rfl hw rfl rfl
  refine ⟨fun hb => hrel (release_busy hb), fun hb ho => hrel ?_, fun hb hr => hrel ?_, fun hb hc => hrel ?_, fun hr => hpark ?_,
    fun hr hh => hpark ?_, fun hr hh hhold hmove hsw => ?_⟩
  · have ho' : (Work.of s).station.car.state = .open := ho
    rw [release_free hb, ho', carTo_away (by rw [ho']; simp) (by rw [ho']; simp) rfl,
      modCar_awake (Carriage.idles_notOpen (by simp))]
    rfl
  · have hr' : (Work.of s).station.car.state = .released := hr
    rw [release_free hb, hr']
    rfl
  · have hc' : (Work.of s).station.car.state = .capped := hc
    rw [release_free hb, hc']
    rfl
  · exact if_neg hr
  · have hr' : (Work.of (withHome home s)).station.car.state = .released := hr
    have hh' : (Work.of (withHome home s)).station.car.home = false := hh
    rw [park, if_pos hr', hh']
    rfl
  · have hr' : (Work.of (withHome home s)).station.car.state = .released := hr
    have hh' : (Work.of (withHome home s)).station.car.home = true := hh
    have hw : park (Work.of (withHome home s)) = { Work.of (withHome home s) with
        toState := { withHome home s with station := { s.station with
          car := { ({ c with state := .open } : Carriage).timed s.now with home := home } } }
        agenda := [.carriageParked], reply := some (okReply []) } := by
      rw [park, if_pos hr', if_pos hh', carTo_home (by rw [hr']; simp) (by rw [hr']; simp) rfl, lookCarriage_idle]
      · rfl
      · exact hhold
      · exact hmove
    exact ask_unheard (q := ⟨0x1B, tag, .park⟩) (s := withHome home s) h rfl hw rfl rfl (trySwitch_absent hsw)

/-! ### The motions of the sled -/

theorem forEach_opDone (tags : List Nat) (kind : Nat) (o : Code) (d : List Byte) (w : Work) :
    forEach tags (fun t => opDone kind t o d) w
      = { w with outbox := w.outbox ++ tags.map (fun t => opDoneNotice kind t o d) } := by
  induction tags generalizing w with
  | nil => simp
  | cons t ts ih =>
    rw [forEach_cons, ih, opDone_outbox, List.append_assoc]
    rfl

/-- The carriage once a motion of the sled has ended, with no move and no service waiting for it (R118, R119). -/
def Carriage.sledEnded (st : CarState) (c : Carriage) : Carriage :=
  { c with state := st, sled := .still, tags := [], serviceWaits := false }

/-- The end of a motion for which only requests wait: each is answered, and a raising without one reports its fault (R118, R119). -/
theorem endSled_eq {kind : Nat} {st : CarState} {o : Code} {w : Work} (hm : w.station.car.move = none)
    (hh : w.station.car.hold ≠ .waiting) (hv : w.station.car.serviceWaits = false) :
    endSled kind st o w
      = let v := carTo (Carriage.sledEnded st) w
        { v with outbox := v.outbox ++ (w.station.car.tags.map (fun t => opDoneNotice kind t o (u8 st.num))
            ++ if kind = kindCap ∧ o ≠ .ok ∧ w.station.car.tags = [] then [eventNotice .service 0 []] else []) } := by
  have hcar := carTo_car (Carriage.sledEnded st) w
  have hlow : loweringMove (carTo (Carriage.sledEnded st) w).station.car = none := by
    rw [hcar]
    simp [loweringMove, Carriage.timed, Carriage.sledEnded, hm]
  have hlook {v : Work} (hs : v.station = (carTo (Carriage.sledEnded st) w).station) : lookCarriage v = v := by
    refine lookCarriage_idle ?_ ?_
    · rw [hs, hcar]; exact hh
    · rw [hs, hcar]; exact hm
  unfold endSled
  dsimp only
  have hf : (fun c : Carriage => { c with state := st, sled := .still, tags := [], serviceWaits := false })
      = Carriage.sledEnded st := rfl
  rw [hf, hv, when_false, Bool.not_false, Bool.and_true, forEach_opDone]
  by_cases hk : kind = kindCap ∧ o ≠ .ok ∧ w.station.car.tags = []
  · have hf' : (decide (kind = kindCap) && decide (o ≠ .ok) && w.station.car.tags.isEmpty) = true := by simpa [and_assoc] using hk
    rw [hf', when_true, if_pos hk]
    simp only [capFaultEvent, event_station, hlow]
    refine (hlook ?_).trans ?_
    · rfl
    rw [← List.append_assoc]
    rfl
  · have hf' : (decide (kind = kindCap) && decide (o ≠ .ok) && w.station.car.tags.isEmpty) = false := by
      simpa [and_assoc] using hk
    rw [hf', when_false, if_neg hk, List.append_nil]
    simp only [hlow]
    exact hlook rfl

/-- A motion that ends in the other parked state: every wet clock is 0 (R137). -/
theorem endSled_moved {kind : Nat} {st : CarState} {w : Work} (hm : w.station.car.move = none)
    (hh : w.station.car.hold ≠ .waiting) (hv : w.station.car.serviceWaits = false) (ha : w.agenda = []) (ho : w.outbox = [])
    (hn : st ≠ w.station.car.state) (hc : w.station.car.state = .capped ∨ st = .capped) (hp : st.isParked = true) :
    endSled kind st .ok w
      = { w with
          station := { w.station with
            car := (Carriage.sledEnded st w.station.car).timed w.now, wet := Chans.all ⟨w.now, false⟩ }
          agenda := [.carriageParked]
          outbox := w.station.car.tags.map (fun t => opDoneNotice kind t .ok (u8 st.num)) } := by
  rw [endSled_eq hm hh hv, carTo_capping hn hc hp, zeroWets_eq]
  simp [post, setStation, modCar, ha, ho]

/-- A motion that ends where it stands, CAP_FAULT. -/
theorem endSled_failed {kind : Nat} {w : Work} (hm : w.station.car.move = none) (hh : w.station.car.hold ≠ .waiting)
    (hv : w.station.car.serviceWaits = false) (ho : w.outbox = []) :
    endSled kind w.station.car.state .capFault w
      = { w with
          station := { w.station with car := (Carriage.sledEnded w.station.car.state w.station.car).timed w.now }
          outbox := w.station.car.tags.map (fun t => opDoneNotice kind t .capFault (u8 w.station.car.state.num))
            ++ if kind = kindCap ∧ w.station.car.tags = [] then [eventNotice .service 0 []] else [] } := by
  rw [endSled_eq hm hh hv, carTo_same (by rfl)]
  simp [setStation, modCar, ho]

theorem capDownComplete_lowering {w : Work} {t : Nat} (h : w.station.car.sled = .lowering t) :
    capDownComplete w = endSled kindUncap .open .ok w := by simp only [capDownComplete, h]

theorem capUpComplete_raising {w : Work} {t : Nat} (h : w.station.car.sled = .raising t) :
    capUpComplete w = endSled kindCap .capped .ok w := by simp only [capUpComplete, h]

theorem capDownComplete_idle {w : Work} (h : ∀ t, w.station.car.sled ≠ .lowering t) : capDownComplete w = w := by
  unfold capDownComplete
  split
  · next hl => exact absurd hl (h _)
  · rfl
  · rfl

theorem capUpComplete_idle {w : Work} (h : ∀ t, w.station.car.sled ≠ .raising t) : capUpComplete w = w := by
  unfold capUpComplete
  split
  · next hl => exact absurd hl (h _)
  · rfl
  · rfl

theorem sledTimeout_lowering {w : Work} {t : Nat} (h : w.station.car.sled = .lowering t) :
    sledTimeout w = if t + 800 ≤ w.now then endSled kindUncap w.station.car.state .capFault w else w := by
  simp only [sledTimeout, h, reached_iff]
  rfl

theorem sledTimeout_raising {w : Work} {t : Nat} (h : w.station.car.sled = .raising t) :
    sledTimeout w = if t + 800 ≤ w.now then endSled kindCap w.station.car.state .capFault w else w := by
  simp only [sledTimeout, h, reached_iff]
  rfl

theorem raiseAlone_eq (w : Work) :
    raiseAlone w = { w with station := { w.station with car := { w.station.car with sled := .raising w.now, idleSince := none } } } :=
  modCar_sled (by simp [startRaising])

/-- Settles O48. -/
theorem sledMotionsEnd : Obligations.SledMotionsEnd := by
  intro s hs hsw c ends
  have hnot {l : Sled} (hl : c.sled = l) {m : Sled} (h : l ≠ m) : (Work.of s).station.car.sled ≠ m := hl ▸ h
  refine ⟨fun hl => ⟨?_, ?_, ?_⟩, fun hm hh hv => ⟨fun t hl hst => ⟨?_, ?_, fun ht => ?_, fun ht => ?_⟩,
    fun t hl hst => ⟨?_, ?_, fun ht => ?_, fun ht => ?_⟩⟩, fun t hi ht => ?_, fun t hi ht => ?_, fun hi => ?_⟩
  · exact occur_void hs (capDownComplete_idle fun t => hnot hl (by simp))
  · exact occur_void hs (capUpComplete_idle fun t => hnot hl (by simp))
  · exact occur_void hs (by simp only [sledTimeout, show (Work.of s).station.car.sled = _ from hl])
  · simp only [ends, List.append_nil]
    exact occur_unheard hs Keeps.capDownComplete ((capDownComplete_lowering hl).trans
      (endSled_moved hm hh hv rfl rfl (hst ▸ by simp) (.inl hst) rfl)) rfl (trySwitch_absent hsw)
  · exact occur_void hs (capUpComplete_idle fun t => hnot hl (by simp))
  · exact occur_void hs ((sledTimeout_lowering hl).trans (if_neg (Nat.not_le.mpr ht)))
  · have hf := (sledTimeout_lowering (w := Work.of s) hl).trans ((if_pos ht).trans (endSled_failed hm hh hv rfl))
    rw [show (Work.of s).station.car.state = .capped from hst] at hf
    exact occur_done hs Keeps.sledTimeout hf rfl
  · simp only [ends, List.append_nil]
    exact occur_unheard hs Keeps.capUpComplete ((capUpComplete_raising hl).trans
      (endSled_moved hm hh hv rfl rfl (hst ▸ by simp) (.inr rfl) rfl)) rfl (trySwitch_absent hsw)
  · exact occur_void hs (capDownComplete_idle fun t => hnot hl (by simp))
  · exact occur_void hs ((sledTimeout_raising hl).trans (if_neg (Nat.not_le.mpr ht)))
  · have hf := (sledTimeout_raising (w := Work.of s) hl).trans ((if_pos ht).trans (endSled_failed hm hh hv rfl))
    rw [show (Work.of s).station.car.state = .open from hst] at hf
    simp only [true_and] at hf
    exact occur_done hs Keeps.sledTimeout hf rfl
  · have hr : autoCapReady s = true := autoCapReady_iff.mpr ⟨t, hi, ht⟩
    exact occur_done hs Keeps.autoCap (by rw [autoCap, Work.of_toState, hr, when_true, raiseAlone_eq]) rfl
  · have hr : autoCapReady s = false := by
      rw [autoCapReady, hi]
      exact (reached_false_iff _ _).mpr ht
    exact occur_void hs (by rw [autoCap, Work.of_toState, hr, when_false])
  · exact occur_void hs (autoCap_awake hi)

end Sys2Proof.Machine
end

section
/-! ## The floats, and PATH_CLEAR (R43, R96, R97, R99; O19, O44) -/

namespace Sys2Proof.Machine

open Sys2Proof

set_option Elab.async false

/-! ### Reports that nobody acts on -/

/-- Reports that change nothing, each in turn. -/
theorem drain_allUnheard {n : Nat} {w : Work} {l : List Report}
    (h : ∀ r ∈ l, ∀ rest, deliver r { w with agenda := rest } = { w with agenda := rest }) (ha : w.agenda = l)
    (hn : l.length ≤ n) : drain n w = some { w with agenda := [] } := by
  induction l generalizing n w with
  | nil =>
    rw [drain_nil n ha, ← ha]
  | cons r rest ih =>
    obtain ⟨n, rfl⟩ : ∃ k, n = k + 1 := ⟨n - 1, by simp at hn; omega⟩
    rw [drain_cons n ha, h r (by simp)]
    exact ih (fun p hp => h p (by simp [hp])) rfl (by simpa using hn)

/-- Without a sheet there is no swath to start and no tail to enter (R57, R60). -/
theorem sheetLook_noSheet {w : Work} (h : w.sheet.phase = .none) : sheetLook w = w := by
  have hq : headReady w.toState = none := by
    unfold headReady
    split <;> simp [h]
  have hc : closeReady w.toState = false := by simp [closeReady, h]
  simp [sheetLook, hq, hc]

theorem sheetHearsInk_noSheet {ch : Chan} {what : InkChange} {w : Work} (h : w.sheet.phase = .none) (ha : w.sheet.abort = none) :
    sheetHearsInk ch what w = w := by
  have hr : rememberDry ch w = w := by simp only [rememberDry, ha]
  have hf (reason : Code) : sheetFault [.opening, .swathing] reason w = w := by simp [sheetFault, h]
  cases what <;> simp [sheetHearsInk, when, hr, hf, sheetLook_noSheet h]

/-- With neither a sheet nor a service a change of a channel's ink is heard by nobody. -/
theorem inkChanged_unheard {ch : Chan} {what : InkChange} {w : Work} (h : w.sheet.phase = .none) (ha : w.sheet.abort = none)
    (hv : w.station.service = none) : deliver (.inkChanged ch what) w = w := by
  change serviceHearsInk ch what (sheetHearsInk ch what w) = w
  rw [sheetHearsInk_noSheet h ha]
  simp only [serviceHearsInk, hv]

/-! ### DRY and the ink hold are cleared -/

/-- The notices of DRY and of the ink hold, cleared in this order (R96, R97; log entry 15). -/
def clearedNotices (ch : Chan) (c : Channel) : List Notice :=
  (if c.dry then [eventNotice .supply 3 (u8 ch.num ++ u8 0)] else [])
    ++ (if c.hold then [eventNotice .supply 4 (u8 ch.num ++ u8 0)] else [])

def clearedReports (ch : Chan) (c : Channel) : List Report :=
  (if c.dry then [.inkChanged ch .dry] else []) ++ (if c.hold then [.inkChanged ch .hold] else [])

theorem setDry_clear (ch : Chan) (w : Work) :
    setDry ch false w
      = { w with
          pump := { w.pump with chans := w.pump.chans.set ch { chanRec w.toState ch with dry := false } }
          outbox := w.outbox ++ if (chanRec w.toState ch).dry then [eventNotice .supply 3 (u8 ch.num ++ u8 0)] else []
          agenda := w.agenda ++ if (chanRec w.toState ch).dry then [.inkChanged ch .dry] else [] } := by
  unfold setDry
  cases hd : (chanRec w.toState ch).dry
  · have hs : w.pump.chans.set ch { chanRec w.toState ch with dry := false } = w.pump.chans := by
      rw [← hd]
      exact Chans.set_get _ _
    rw [hs]
    simp
  · rfl

theorem setHold_clear (ch : Chan) (w : Work) :
    setHold ch false w
      = { w with
          pump := { w.pump with chans := w.pump.chans.set ch { chanRec w.toState ch with hold := false } }
          outbox := w.outbox ++ if (chanRec w.toState ch).hold then [eventNotice .supply 4 (u8 ch.num ++ u8 0)] else []
          agenda := w.agenda ++ if (chanRec w.toState ch).hold then [.inkChanged ch .hold] else [] } := by
  unfold setHold
  cases hd : (chanRec w.toState ch).hold
  · have hs : w.pump.chans.set ch { chanRec w.toState ch with hold := false } = w.pump.chans := by
      rw [← hd]
      exact Chans.set_get _ _
    rw [hs]
    simp
  · rfl

/-- What keeps a refill from being raised (R100). -/
theorem lookRefill_unwanted {ch : Chan} {w : Work} (h : Config.refillThreshold ≤ (chanRec w.toState ch).e
      ∨ w.supply.supplied.get ch = false ∨ (chanRec w.toState ch).suspect = true ∨ opOn w.pump ch = true) :
    lookRefill ch w = w := by
  obtain h | h | h | h := h
  · exact lookRefill_full h
  · exact lookRefill_starved h
  · simp [lookRefill, refillWanted, h]
  · exact lookRefill_opOn h

/-- E at or above the hold release clears both flags, where no refill is raised (R96, R97, R100). -/
theorem levelChanged_cleared {ch : Chan} {w : Work} (he : Config.holdRelease ≤ (chanRec w.toState ch).e)
    (hr : Config.refillThreshold ≤ (chanRec w.toState ch).e
      ∨ w.supply.supplied.get ch = false ∨ (chanRec w.toState ch).suspect = true ∨ opOn w.pump ch = true) :
    levelChanged ch false w
      = { w with
          pump := { w.pump with chans := w.pump.chans.set ch { chanRec w.toState ch with dry := false, hold := false } }
          outbox := w.outbox ++ clearedNotices ch (chanRec w.toState ch)
          agenda := w.agenda ++ clearedReports ch (chanRec w.toState ch) } := by
  have hres : Config.printReserve < Config.holdRelease := by decide
  have hd : dryAfter (chanRec w.toState ch).e (chanRec w.toState ch).dry = false := if_pos (by omega)
  have hh : holdAfter (chanRec w.toState ch).e (chanRec w.toState ch).hold = false := by
    rw [holdAfter, if_neg (by omega), if_pos he]
  rw [levelChanged]
  dsimp only
  rw [hd, hh, Bool.or_self, setDry_clear, setHold_clear, lookRefill_unwanted]
  · simp only [chanRec, clearedNotices, clearedReports, Chans.get_set_same, Chans.set_set, List.append_assoc]
    rfl
  · simpa [chanRec, opOn] using hr

/-! ### FLOAT_CHANGE -/

theorem modChan_same {ch : Chan} {f : Channel → Channel} {w : Work} (h : f (chanRec w.toState ch) = chanRec w.toState ch) :
    modChan ch f w = w := by
  have hs : w.pump.chans.set ch (f (w.pump.chans.get ch)) = w.pump.chans := by
    rw [show f (w.pump.chans.get ch) = _ from h]
    exact Chans.set_get _ _
  rw [modChan, modPump, hs]

/-- A channel whose E a float has set: the difference goes to reconcile, and both flags are clear (R96 to R99). -/
def Channel.marked (mark : Nat) (c : Channel) : Channel :=
  { c with e := mark, reconcile := c.reconcile + ((mark : Int) - (c.e : Int)), dry := false, hold := false }

/-- An overwritten channel, with what is then heard of it. -/
def overwritten (ch : Chan) (x c : Channel) (w : Work) : Work :=
  { w with
    pump := { w.pump with chans := w.pump.chans.set ch x }
    outbox := w.outbox ++ clearedNotices ch c
    agenda := w.agenda ++ clearedReports ch c }

theorem floatChange_inactive (ch : Chan) (w : Work) :
    floatChange ch .full false w = modChan ch (fun c => { c with full := false }) w
      ∧ floatChange ch .low false w = modChan ch (fun c => { c with low := false }) w := ⟨rfl, rfl⟩

/-- A float that was active already changes nothing (log entry 23). -/
theorem floatChange_full_again {ch : Chan} {w : Work} (h : (chanRec w.toState ch).full = true) :
    floatChange ch .full true w = w := by
  simp only [floatChange, h, Bool.not_true, Bool.and_false, Bool.false_eq_true, if_false]
  exact modChan_same (by rw [← h])

theorem floatChange_low_again {ch : Chan} {w : Work} (h : (chanRec w.toState ch).low = true) :
    floatChange ch .low true w = w := by
  simp only [floatChange, h, Bool.not_true, Bool.and_false, Bool.false_eq_true, if_false]
  exact modChan_same (by rw [← h])

theorem fullCame_off {ch : Chan} {w : Work} (h : opOn w.pump ch = false) : fullCame ch w = w := by
  unfold fullCame
  split
  · next o ho =>
    have hne : o.chan ≠ ch := by simpa [opOn, ho] using h
    simp [hne]
  · rfl

/-- FULL comes outside a fill of the channel (R99). -/
theorem floatChange_full {ch : Chan} {w : Work} (h : (chanRec w.toState ch).full = false) (ho : opOn w.pump ch = false) :
    floatChange ch .full true w
      = overwritten ch { (chanRec w.toState ch).marked Config.fullMark with full := true, suspect := false }
          (chanRec w.toState ch) w := by
  have hmark : Config.refillThreshold ≤ Config.fullMark := by decide
  have hhold : Config.holdRelease ≤ Config.fullMark := by decide
  simp only [floatChange, h, Bool.not_false, Bool.and_true, if_true]
  rw [fullCame_off, levelChanged_cleared]
  · simp only [overwritten, chanRec, modChan_pump, Chans.get_set_same, Chans.set_set]
    rfl
  · simpa [chanRec, overwrite] using hhold
  · simpa [chanRec, overwrite] using .inl hmark
  · exact ho

/-- LOW comes where no refill is raised (R99, R100). -/
theorem floatChange_low {ch : Chan} {w : Work} (h : (chanRec w.toState ch).low = false)
    (hr : w.supply.supplied.get ch = false ∨ (chanRec w.toState ch).suspect = true ∨ opOn w.pump ch = true) :
    floatChange ch .low true w
      = overwritten ch { (chanRec w.toState ch).marked Config.lowMark with low := true } (chanRec w.toState ch) w := by
  have hhold : Config.holdRelease ≤ Config.lowMark := by decide
  simp only [floatChange, h, Bool.not_false, Bool.and_true, if_true]
  rw [levelChanged_cleared]
  · simp only [overwritten, chanRec, modChan_pump, Chans.get_set_same, Chans.set_set]
    rfl
  · simpa [chanRec, overwrite] using hhold
  · simpa [chanRec, overwrite, opOn] using .inr hr

/-- What is heard of an overwritten channel, with neither a sheet nor a service. -/
theorem drain_overwritten {ch : Chan} {x c : Channel} {s : State} (hp : s.sheet.phase = .none) (ha : s.sheet.abort = none)
    (hv : s.station.service = none) :
    drain reportBound (overwritten ch x c (Work.of s)) = some { overwritten ch x c (Work.of s) with agenda := [] } := by
  refine drain_allUnheard (l := clearedReports ch c) (fun r hr rest => ?_) rfl ?_
  · obtain ⟨what, rfl⟩ : ∃ what, r = .inkChanged ch what := by
      simp only [clearedReports, List.mem_append, List.mem_ite_nil_right, List.mem_singleton] at hr
      obtain ⟨-, hr⟩ | ⟨-, hr⟩ := hr <;> exact ⟨_, hr⟩
    exact inkChanged_unheard hp ha hv
  · have hlen : (clearedReports ch c).length ≤ 2 := by
      cases hd : c.dry <;> cases hh : c.hold <;> simp [clearedReports, hd, hh]
    exact hlen.trans (by decide)

/-- Settles O44. -/
theorem floatsOverwriteTheEstimate : Obligations.FloatsOverwriteTheEstimate := by
  intro s ch hs hp ha hv c with' cleared marked
  have hover {f : FloatSwitch} {x : Channel} (hw : floatChange ch f true (Work.of s) = overwritten ch x c (Work.of s)) :
      exec (.floatChange ch f true) s = .next (with' x cleared) :=
    occur_drained (w := { overwritten ch x c (Work.of s) with agenda := [] }) hs Keeps.floatChange
      (by rw [hw]; exact drain_overwritten hp ha hv)
  refine ⟨?_, ?_, fun hf => ?_, fun hl => ?_, fun hf ho => ?_, fun hl hr => ?_⟩
  · exact occur_done hs Keeps.floatChange (floatChange_inactive ch _).1 rfl
  · exact occur_done hs Keeps.floatChange (floatChange_inactive ch _).2 rfl
  · exact occur_void hs (floatChange_full_again hf)
  · exact occur_void hs (floatChange_low_again hl)
  · exact hover (floatChange_full hf ho)
  · exact hover (floatChange_low hl hr)

/-! ### PATH_CLEAR -/

theorem pathClear_badState {w : Work} (h : w.media.content ≠ .fault) : pathClear w = refuse .badState w := if_pos h

/-- The media path once it has been cleared (R43). -/
def clearedMedia (m : Media) : Media :=
  { m with
    content := .empty, ejecting := none
    rolls := ⟨clearedRoll m.present.s1 m.rolls.s1, clearedRoll m.present.s2 m.rolls.s2⟩ }

theorem pathClear_fault {w : Work} (h : w.media.content = .fault) (hs : w.media.switch = none) :
    pathClear w = post .pathCleared (modMedia clearedMedia (okWith [] w)) := by
  have hn : ¬ w.media.content ≠ .fault := by simp [h]
  refine (if_neg hn).trans (trySwitch_absent ?_)
  exact hs

/-- The sheet that PATH_CLEAR ends (R67, R43; log entry 4). -/
def clearedSheet (x : Sheet) : Sheet := { closedSheet x with queue := [], trailing := [], fed := false }

theorem sheetPathCleared_unheard {w : Work} (h : w.sheet.phase ≠ .faulted) : sheetPathCleared w = w := if_neg h

/-- No ejection waits and no switch is pending: the path is handed back IDLE. -/
theorem handOn_idle {w : Work} (he : w.media.ejecting = none) (hs : w.media.switch = none) : handOn w = setOwner .idle w := by
  simp only [handOn, he]
  exact lookSwitch_absent hs

theorem sheetPathCleared_faulted {w : Work} (h : w.sheet.phase = .faulted) (ho : w.media.owner = .sheet)
    (he : w.media.ejecting = none) (hs : w.media.switch = none) :
    sheetPathCleared w = setOwner .idle (modSheet clearedSheet w) := by
  have ho' : (modSheet clearedSheet w).media.owner = .sheet := ho
  refine (if_pos h).trans ((if_pos ho').trans (handOn_idle ?_ ?_))
  · exact he
  · exact hs

/-- Settles O19. -/
theorem pathClearEmptiesThePath : Obligations.PathClearEmptiesThePath := by
  intro s tag h
  refine ⟨fun hc => ?_, ?_⟩
  · exact ask_decided (q := ⟨0x0D, tag, .pathClear⟩) h rfl (pathClear_badState hc) rfl rfl
  · intro hc hs after media
    have hafter (r : Roll) (present : Bool) : after r present = clearedRoll present r := by
      cases h : r.state <;> simp only [after, clearedRoll, restRoll, h]
    have hmedia : media = clearedMedia s.media := by
      simp only [media, hafter, clearedMedia]
    rw [hmedia]
    refine ⟨fun hp => ?_, fun hp ho => ?_⟩
    · exact ask_unheard (q := ⟨0x0D, tag, .pathClear⟩) h rfl (pathClear_fault hc hs) rfl rfl (sheetPathCleared_unheard hp)
    · exact ask_one (q := ⟨0x0D, tag, .pathClear⟩) h rfl (pathClear_fault hc hs) rfl (sheetPathCleared_faulted hp ho rfl hs)
        rfl rfl

end Sys2Proof.Machine
end

section
/-! ## The ends of a service and of its suction, and the wet clocks (R130, R138, R139, R144 to R152; O51, O53) -/

namespace Sys2Proof.Machine

open Sys2Proof

set_option Elab.async false

/-- An event whose reports have been followed to their end. -/
theorem occur_from {f : Work → Work} {s : State} {w v : Work} {n : Nat} (hs : s.running = true)
    (hf : ∀ {w x : Work}, Keeps false w x → Keeps false w (f x)) (hw : f (Work.of s) = w) (hd : drain n w = some v)
    (hn : n ≤ reportBound) : occur f s = .next { v.toState with link := told v.outbox s.link } :=
  occur_drained hs hf (by rw [hw]; exact drain_of_le hd hn)

/-! ### The wet clocks -/

/-- SPIT_DUE is set at the keep-wet time (R138). -/
theorem dueSpit_set {ch : Chan} {w : Work} (hc : (w.supply.params.get ch).keepWet < wetClock w.toState ch)
    (hf : (w.station.wet.get ch).spitDue = false) :
    dueSpit ch w
      = event .service 2 (u8 ch.num ++ u32 (wetClock w.toState ch))
          (setStation (fun t => { t with wet := t.wet.set ch { t.wet.get ch with spitDue := true } }) w) :=
  if_pos (by simp [spitDueAt, hc, hf])

theorem dueSpit_kept {ch : Chan} {w : Work}
    (h : wetClock w.toState ch ≤ (w.supply.params.get ch).keepWet ∨ (w.station.wet.get ch).spitDue = true) : dueSpit ch w = w := by
  refine if_neg ?_
  obtain h | h := h
  · simp [spitDueAt, Nat.not_lt.mpr h]
  · simp [h]

/-- CLEAN_DUE is set at four times the keep-wet time (R139). -/
theorem dueClean_set {ch : Chan} {w : Work} (hc : 4 * (w.supply.params.get ch).keepWet < wetClock w.toState ch)
    (hf : w.station.cleanDue.get ch.head = false) :
    dueClean ch w
      = event .service 3 (u8 ch.head.num ++ u8 1) (setStation (fun t => { t with cleanDue := t.cleanDue.set ch.head true }) w) := by
  have hd : cleanDueAt (wetClock w.toState ch) (w.supply.params.get ch).keepWet = true := by simpa [cleanDueAt] using hc
  refine (if_pos hd).trans ?_
  unfold setCleanDue
  exact if_neg (by rw [hf]; simp)

theorem dueClean_kept {ch : Chan} {w : Work}
    (h : wetClock w.toState ch ≤ 4 * (w.supply.params.get ch).keepWet ∨ w.station.cleanDue.get ch.head = true) :
    dueClean ch w = w := by
  unfold dueClean
  split
  · next hd =>
    have hd' : 4 * (w.supply.params.get ch).keepWet < wetClock w.toState ch := by simpa [cleanDueAt] using hd
    have hf := h.resolve_left (Nat.not_le.mpr hd')
    exact if_pos hf.symm
  · rfl

/-! ### The end of a service (R151, R152) -/

/-- The service's waste write-back (R134). -/
theorem writeBackWaste_present {w : Work} {x : WasteRec} (hx : w.station.waste.tank = some x) (hp : w.supply.tank.state = .present) :
    writeBackWaste w = { w with
      supply := { w.supply with
        bus := busJoin ⟨.tank, .write x.w, false⟩ w.supply.bus
        busStart := if w.supply.bus.isEmpty then w.now else w.supply.busStart }
      station := { w.station with waste := { w.station.waste with tank := some { x with written := x.w } } } } := by
  simp only [writeBackWaste, hx]
  exact if_pos hp

theorem testHold_idle {w : Work} (h : w.station.car.hold ≠ .waiting) : testHold w = w := by
  simp [testHold, h]

theorem tryMove_none {w : Work} (h : w.station.car.move = none) : tryMove w = w := by
  simp only [tryMove, h]

/-- The carriage without the service's claim. -/
def Carriage.unclaimed (c : Carriage) : Carriage := { c with claims := { c.claims with service := false } }

/-- A service of the host ends with nothing waiting for the carriage: W is written back, the claim is given up, OP_DONE says how
far it came. -/
theorem endService_host {v : Service} {o : Code} {e : Option Head} {tag : Nat} {x : WasteRec} {w : Work} {c : Carriage}
    {st : CarState} (hcar : w.station.car.unclaimed.timed w.now = c) (hst : w.station.car.state = st)
    {d : List Byte} (hd : serviceDetail (serviceReport v o e st) = d) (hv : v.by' = .host tag)
    (hx : w.station.waste.tank = some x) (hp : w.supply.tank.state = .present) (hh : w.station.car.hold ≠ .waiting)
    (hm : w.station.car.move = none) :
    endService v o e w = { w with
      supply := { w.supply with
        bus := busJoin ⟨.tank, .write x.w, false⟩ w.supply.bus
        busStart := if w.supply.bus.isEmpty then w.now else w.supply.busStart }
      station := { w.station with
        car := c
        waste := { w.station.waste with tank := some { x with written := x.w } }
        service := none }
      agenda := w.agenda ++ [.carriageParked]
      outbox := w.outbox ++ [opDoneNotice 0x1C tag o d] } := by
  rw [← hcar, ← hd, ← hst]
  unfold endService
  rw [writeBackWaste_present hx hp, testHold_idle]
  · simp only [hv]
    refine (tryMove_none ?_).trans ?_
    · exact hm
    · rfl
  · exact hh

/-! ### The steps of a service (R144, R145) -/

/-- The service at the start of a step. -/
def Service.standing (h : Head) (step : ServiceStep) (v : Service) : Service :=
  { v with head := h, step := step, waitEnd := none, ownMotion := false, moveAgain := false, spitEnd := none }

theorem modService_some {f : Service → Service} {v : Service} {w : Work} (hv : w.station.service = some v) :
    modService f w = { w with station := { w.station with service := some (f v) } } := by
  simp [modService, setStation, hv]

theorem startStep_some {h : Head} {step : ServiceStep} {v : Service} {w : Work} (hv : w.station.service = some v) :
    startStep h step w = runStep (v.standing h step) { w with station := { w.station with service := some (v.standing h step) } } := by
  rw [startStep, modService_some hv]
  rfl

/-- The uncap step lowers the sled (R145). -/
theorem sledStep_lowers {v : Service} {w : Work} (hv : w.station.service = some v) (hl : w.station.car.sled = .still)
    (hc : w.station.car.state = .capped) :
    sledStep .open w = { w with station := { w.station with
      car := { w.station.car with sled := .lowering w.now, serviceWaits := true, idleSince := none }
      service := some { v with ownMotion := true } } } := by
  have hb : sledStep .open w
      = modService (fun v => { v with ownMotion := true })
          (modCar (fun c => startLowering { c with serviceWaits := true } w.now) w) := by
    simp [sledStep, hl, hc]
  rw [hb, modCar_sled (by simp [startLowering])]
  exact modService_some hv

/-- The cap step raises the sled (R145). -/
theorem sledStep_raises {v : Service} {w : Work} (hv : w.station.service = some v) (hl : w.station.car.sled = .still)
    (hc : w.station.car.state = .open) :
    sledStep .capped w = { w with station := { w.station with
      car := { w.station.car with sled := .raising w.now, serviceWaits := true, idleSince := none }
      service := some { v with ownMotion := true } } } := by
  have hb : sledStep .capped w
      = modService (fun v => { v with ownMotion := true })
          (modCar (fun c => startRaising { c with serviceWaits := true } w.now) w) := by
    simp [sledStep, hl, hc]
  rw [hb, modCar_sled (by simp [startRaising])]
  exact modService_some hv

theorem onStepEnded_next {v : Service} {step : ServiceStep} {w : Work} (hv : w.station.service = some v)
    (hs : stepAfter v.level v.step = some step) : onStepEnded .ok w = startStep v.head step w := by
  simp only [onStepEnded, hv, hs, if_true]

theorem onStepEnded_failed {v : Service} {o : Code} {w : Work} (hv : w.station.service = some v) (ho : o ≠ .ok) :
    onStepEnded o w = endService v o (some v.head) w := by
  simp only [onStepEnded, hv, ho, if_false]

/-- A step of the service has failed: the reports that follow, to the end of the service (R144, R151, R152). -/
theorem drain_stepFailed {v : Service} {o : Code} {tag : Nat} {x : WasteRec} {w : Work} {c : Carriage}
    {st : CarState} (hcar : w.station.car.unclaimed.timed w.now = c) (hst : w.station.car.state = st) (ha : w.agenda = [.stepEnded o])
    (ho : o ≠ .ok) (hv : w.station.service = some v) (hb : v.by' = .host tag)
    (hx : w.station.waste.tank = some x) (hp : w.supply.tank.state = .present) (hh : w.station.car.hold ≠ .waiting)
    (hm : w.station.car.move = none) (hs : w.media.switch = none) :
    drain 2 w = some { w with
      supply := { w.supply with
        bus := busJoin ⟨.tank, .write x.w, false⟩ w.supply.bus
        busStart := if w.supply.bus.isEmpty then w.now else w.supply.busStart }
      station := { w.station with
        car := c
        waste := { w.station.waste with tank := some { x with written := x.w } }
        service := none }
      agenda := []
      outbox := w.outbox ++ [opDoneNotice 0x1C tag o (serviceDetail (serviceReport v o (some v.head) st))] } := by
  have hend := (onStepEnded_failed (w := { w with agenda := [] }) hv ho).trans
    (endService_host (w := { w with agenda := [] }) hcar hst rfl hb hx hp hh hm)
  exact drain_step ha hend (drain_step rfl (trySwitch_absent hs) (drain_nil 0 rfl))

/-! ### The suction -/

theorem suctionTimeout_early {w : Work} {u : Suction} (hu : w.station.car.suction = some u)
    (h : w.now < u.start + 3000 + (u.volume + 999) / 1000) : suctionTimeout w = w := by
  simp only [suctionTimeout, hu]
  exact if_neg (by rw [reached_iff]; exact Nat.not_le.mpr h)

theorem suctionTimeout_late {w : Work} {u : Suction} (hu : w.station.car.suction = some u)
    (h : u.start + 3000 + (u.volume + 999) / 1000 ≤ w.now) : suctionTimeout w = endSuction .suctionFault w := by
  simp only [suctionTimeout, hu]
  exact if_pos ((reached_iff _ _).mpr h)

/-- A capped carriage does not idle. -/
theorem endSuction_capped {o : Code} {w : Work} (hc : w.station.car.state = .capped) :
    endSuction o w = { w with
      station := { w.station with car := { w.station.car with suction := none, idleSince := none } }
      agenda := w.agenda ++ [.suctionEnded o] } := by
  rw [endSuction, modCar_awake (Carriage.idles_notOpen (by rw [hc]; simp))]
  rfl

theorem onSuctionEnded_step {v : Service} {o : Code} {w : Work} (hv : w.station.service = some v) (hs : v.step = .suction) :
    onSuctionEnded o w = endStep o w := by
  simp only [onSuctionEnded, hv, hs, if_true]

/-- Settles O51. -/
theorem suctionEndsAndClocksComeDue : Obligations.SuctionEndsAndClocksComeDue := by
  intro s hs
  refine ⟨fun hn => ⟨?_, ?_⟩, fun u hu ht => ?_, fun u v hu hv hst hlv hc hl => ?_,
    fun u v tag x hu ht hv hst hb hx hp hsw hc hh hm => ?_, ?_⟩
  · exact occur_void hs (by simp [suctionComplete, hn])
  · exact occur_void hs (by simp [suctionTimeout, hn])
  · exact occur_void hs (suctionTimeout_early hu ht)
  · have hw : suctionComplete (Work.of s) = _ :=
      (if_pos (show s.station.car.suction.isSome = true by simp [hu])).trans (endSuction_capped hc)
    have hstep : stepAfter v.level v.step = some .uncap := by rw [hlv, hst]; rfl
    refine occur_from hs Keeps.suctionComplete hw (drain_step rfl (onSuctionEnded_step hv hst)
      (drain_step rfl ((onStepEnded_next hv hstep).trans ((startStep_some hv).trans (sledStep_lowers rfl hl hc)))
        (drain_nil 0 rfl))) (by decide)
  · have hw := (suctionTimeout_late (w := Work.of s) hu ht).trans (endSuction_capped hc)
    refine occur_from hs Keeps.suctionTimeout hw (drain_step rfl (onSuctionEnded_step hv hst)
      (drain_stepFailed (Carriage.timed_awake (Carriage.idles_notOpen ?_)) hc rfl (by simp) hv hb hx hp hh hm hsw)) (by decide)
    exact hc ▸ by simp
  · intro ch clock keep x flagged spit
    refine ⟨fun hc hf => ?_, fun h => ?_, fun hc hf hcd => ?_, fun h1 h2 => ?_⟩
    · exact occur_done hs Keeps.spitDueLimit (dueSpit_set hc hf) rfl
    · exact occur_void hs (dueSpit_kept h)
    · have hw : cleanDueLimit ch (Work.of s) = _ :=
        (congrArg (dueClean ch) (dueSpit_kept (.inr hf))).trans (dueClean_set hc hcd)
      exact occur_done hs Keeps.cleanDueLimit hw rfl
    · exact occur_void hs ((congrArg (dueClean ch) (dueSpit_kept h1)).trans (dueClean_kept h2))

/-! ### Carriage moves (R127) -/

/-- The carriage with the action of a move begun. -/
def Carriage.acting (m : CarMove) (now : Nat) (c : Carriage) : Carriage :=
  { c with state := .serviceMove, move := some { m with phase := .action now, acted := true }, idleSince := none }

/-- The action of a wipe or of a width scan begins over an open carriage. -/
theorem beginAction_open {m : CarMove} {w : Work} (hs : w.station.car.state = .open) (hk : m.kind = .wipe ∨ m.kind = .widthScan) :
    beginAction m w = { w with station := { w.station with car := w.station.car.acting m w.now } } := by
  have hc : carTo (fun c => { c with state := .serviceMove, move := some { m with phase := .action w.now, acted := true } }) w
      = { w with station := { w.station with car := w.station.car.acting m w.now } } := by
    rw [carTo_away (by rw [hs]; simp) (by rw [hs]; simp) rfl, modCar_awake (Carriage.idles_notOpen (by simp))]
    rfl
  unfold beginAction
  rw [hc]
  obtain hk | hk := hk <;> simp only [hk]

/-- A waiting move that may start over an open carriage does so. -/
theorem tryMove_open {m : CarMove} {w : Work} (hm : w.station.car.move = some m) (hp : m.phase = .waiting)
    (hs : w.station.car.state = .open) (hl : w.station.car.sled = .still) (hh : w.station.car.hold ≠ .granted)
    (hr : m.requester = .service ∨ serviceBars w.toState = false) : tryMove w = beginAction m w := by
  have hr' : (decide (m.requester = .service) || !serviceBars w.toState) = true := by
    obtain hr | hr := hr <;> simp [hr]
  simp only [tryMove, hm, hp, hl, hr', hs, decide_true, Bool.true_and, Bool.and_true, decide_eq_true_eq]
  exact if_pos hh

/-- A wipe or a width scan asked for over an open, free carriage begins at once. -/
theorem askCarMove_open {r : Block} {k : MoveKind} {w : Work} (hk : k = .wipe ∨ k = .widthScan) (hs : w.station.car.state = .open)
    (hm : w.station.car.move = none) (hl : w.station.car.sled = .still) (hh : w.station.car.hold ≠ .granted)
    (hr : r = .service ∨ serviceBars w.toState = false) :
    askCarMove r k w
      = { w with station := { w.station with car := w.station.car.acting (CarMove.fresh r k) w.now } } := by
  have hmod : modCar (fun c => { c with move := some (CarMove.fresh r k) }) w = { w with station := { w.station with
      car := { w.station.car with move := some (CarMove.fresh r k), idleSince := none } } } :=
    modCar_awake (by simp [Carriage.idles])
  have hask : askCarMove r k w = tryMove (modCar (fun c => { c with move := some (CarMove.fresh r k) }) w) := by
    simp [askCarMove, hs, hm]
  rw [hask, hmod]
  refine (tryMove_open (m := CarMove.fresh r k) ?_ ?_ ?_ ?_ ?_ ?_).trans ((beginAction_open ?_ ?_).trans ?_)
  exacts [rfl, rfl, hs, hl, hh, hr, hs, hk, rfl]

/-! ### The waits of a service -/

theorem prePurgeWaitEnd_early {v : Service} {t : Nat} {w : Work} (hv : w.station.service = some v) (ht : v.waitEnd = some t)
    (h : w.now < t) : prePurgeWaitEnd w = w := by
  simp [prePurgeWaitEnd, hv, ht, Nat.not_le.mpr h]

theorem prePurgeWaitEnd_late {v : Service} {t : Nat} {w : Work} (hv : w.station.service = some v) (hs : v.step = .precondition)
    (ht : v.waitEnd = some t) (h : t ≤ w.now) : prePurgeWaitEnd w = endWait w := by
  simp [prePurgeWaitEnd, hv, hs, ht, h]

theorem spitFiringEnd_early {v : Service} {t : Nat} {w : Work} (hv : w.station.service = some v) (ht : v.spitEnd = some t)
    (h : w.now < t) : spitFiringEnd w = w := by
  simp [spitFiringEnd, hv, ht, Nat.not_le.mpr h]

theorem spitFiringEnd_late {v : Service} {t : Nat} {w : Work} (hv : w.station.service = some v) (hs : v.step = .spit)
    (ht : v.spitEnd = some t) (h : t ≤ w.now) :
    spitFiringEnd w
      = { w with
          station := { w.station with service := some { v with spitEnd := none } }
          agenda := w.agenda ++ [.stepEnded .ok] } := by
  simp [spitFiringEnd, hv, hs, ht, h, endStep, modService, setStation, post]

theorem endWait_some {v : Service} {w : Work} (hv : w.station.service = some v) :
    endWait w = post (.stepEnded .noInk)
      (giveUpWaits { w with station := { w.station with service := some { v with waitEnd := none } } }) := by
  rw [endWait, modService_some hv]
  rfl

/-- The wipe step of a service begins over an open, free carriage (R148). -/
theorem wipeStep_open {v : Service} {w : Work} (hv : w.station.service = some v) (ha : v.moveAgain = false)
    (hs : w.station.car.state = .open) (hm : w.station.car.move = none) (hl : w.station.car.sled = .still)
    (hh : w.station.car.hold ≠ .granted) :
    wipeStep w = { w with station := { w.station with
      car := w.station.car.acting (CarMove.fresh .service .wipe) w.now } } := by
  have hmod : modService (fun v => { v with moveAgain := false }) w = w := by
    have hs : { v with moveAgain := false } = v := by rw [← ha]
    rw [modService_some hv, hs, ← hv]
  have hstep : wipeStep w = askCarMove .service .wipe (modService (fun v => { v with moveAgain := false }) w) := by
    simp [wipeStep, carMoveBusy, hm]
  rw [hstep, hmod, askCarMove_open (.inl rfl) hs hm hl hh (.inl rfl)]

/-- The wipe step follows and begins its move. -/
theorem onStepEnded_wipe {v : Service} {w : Work} (hv : w.station.service = some v) (hs : stepAfter v.level v.step = some .wipe)
    (hc : w.station.car.state = .open) (hm : w.station.car.move = none) (hl : w.station.car.sled = .still)
    (hh : w.station.car.hold ≠ .granted) :
    onStepEnded .ok w = { w with station := { w.station with
      car := w.station.car.acting (CarMove.fresh .service .wipe) w.now
      service := some (v.standing v.head .wipe) } } := by
  rw [onStepEnded_next hv hs, startStep_some hv]
  refine (wipeStep_open (v := v.standing v.head .wipe) ?_ ?_ ?_ ?_ ?_ ?_).trans ?_
  exacts [rfl, rfl, hc, hm, hl, hh, rfl]

/-- Settles O53. -/
theorem serviceWaitsEnd : Obligations.ServiceWaitsEnd := by
  intro s hs
  refine ⟨fun hn => ⟨?_, ?_⟩, fun v hv => ⟨fun t ht h => ?_, fun t ht h => ?_,
    fun t tag x hst ht h hb hmask hcomp hx hp hsw hc hh hm => ?_, fun t hst ht h hlv hc hl hm hh => ?_⟩⟩
  · exact occur_void hs (by simp [prePurgeWaitEnd, hn])
  · exact occur_void hs (by simp [spitFiringEnd, hn])
  · exact occur_void hs (prePurgeWaitEnd_early hv ht h)
  · exact occur_void hs (spitFiringEnd_early hv ht h)
  · have hw := (prePurgeWaitEnd_late (w := Work.of s) hv hst ht h).trans (endWait_some hv)
    obtain ⟨by', level, mask, purge, head, step, completed, waitEnd, serviced, own, again, spitEnd⟩ := v
    obtain rfl : completed = [] := hcomp
    refine occur_from hs Keeps.prePurgeWaitEnd hw (drain_stepFailed
      (Carriage.timed_awake (Carriage.idles_notOpen ?_)) hc rfl (by simp) rfl hb hx hp hh hm hsw) (by decide)
    exact hc ▸ by simp
  · have hw := spitFiringEnd_late (w := Work.of s) hv hst ht h
    have hstep : stepAfter v.level v.step = some .wipe := by rw [hlv, hst]; rfl
    have hnext := onStepEnded_wipe (v := { v with spitEnd := none })
      (w := { Work.of s with toState := { s with station := { s.station with service := some { v with spitEnd := none } } } })
      rfl hstep hc hm hl hh
    exact occur_from hs Keeps.spitFiringEnd hw (drain_step rfl hnext (drain_nil 0 rfl)) (by decide)

end Sys2Proof.Machine
end

section
/-! ## The action and the return of a carriage move (R127 to R129, R135, R150, R158; O49, O50) -/

namespace Sys2Proof.Machine

open Sys2Proof

set_option Elab.async false

/-! ### The action -/

/-- The carriage with the move in flight replaced. -/
def withMove (x : CarMove) (w : Work) : Work :=
  { w with station := { w.station with car := { w.station.car with move := some x } } }

/-- A move in flight is changed while the idle time does not count. -/
theorem modCar_move {x : CarMove} {w : Work} (hi : w.station.car.idleSince = none) :
    modCar (fun c => { c with move := some x }) w = withMove x w := by
  rw [modCar_awake (by simp [Carriage.idles]), ← hi]
  rfl

/-- The move at the start of its return. -/
def CarMove.back (now : Nat) (fault : Option Code) (m : CarMove) : CarMove := { m with phase := .returning now, fault := fault }

theorem endAction_eq {m : CarMove} {fault : Option Code} {w : Work} (hi : w.station.car.idleSince = none) :
    endAction m fault w = withMove (m.back w.now fault) w := modCar_move hi

theorem movingAction_none {s : State} (h : s.station.car.move = none) : movingAction s = none := by
  simp only [movingAction, h]

theorem wipeComplete_eq {m : CarMove} {t : Nat} {w : Work} (h : movingAction w.toState = some (m, t)) :
    wipeComplete w = if m.kind = .wipe then endAction m none w else w := by
  simp only [wipeComplete, h]

theorem widthScanPassEnd_eq {m : CarMove} {t : Nat} {w : Work} (h : movingAction w.toState = some (m, t)) :
    widthScanPassEnd w
      = if m.kind = .widthScan then endAction { m with width := measuredWidth m.widths } none w else w := by
  simp only [widthScanPassEnd, h]

theorem actionDeadline_eq {m : CarMove} {t : Nat} {w : Work} (h : movingAction w.toState = some (m, t)) :
    actionDeadline w
      = if t + actionTime m.kind ≤ w.now then endAction m (some (actionFault m.kind)) w else w := by
  simp only [actionDeadline, h, reached_iff]

theorem patternLegEnd_scan {m : CarMove} {t : Nat} {h : Head} {w : Work} (ha : movingAction w.toState = some (m, t))
    (hk : m.kind = .checkScan h) :
    patternLegEnd w
      = if m.scan.outward then
          restartWet (h.chan m.scan.row)
            (modCar (fun c => { c with move := some { m with scan := { m.scan with outward := false } } }) w)
        else w := by
  simp only [patternLegEnd, ha, hk]

/-- A sensor reading outside a calibration belongs to the move in flight (R128, R158). -/
theorem carriageReading_scan {d : Nat} {w : Work}
    (h : ∀ c u, w.checker.check = some c → c.step ≠ .calibOn u ∧ c.step ≠ .calibOff u) :
    carriageReading d w = scanReading d w := by
  unfold carriageReading
  split
  · next c hc =>
    split
    · next u hu => exact absurd hu (h c u hc).1
    · next u hu => exact absurd hu (h c u hc).2
    all_goals rfl
  · rfl

theorem scanReading_wipe {d : Nat} {m : CarMove} {t : Nat} {w : Work} (ha : movingAction w.toState = some (m, t))
    (hk : m.kind = .wipe ∨ ∃ h, m.kind = .checkScan h ∧ m.scan.outward = true) : scanReading d w = w := by
  obtain hk | ⟨h, hk, ho⟩ := hk
  · simp only [scanReading, ha, hk]
  · simp only [scanReading, ha, hk, ho, if_true]

theorem scanReading_width {d : Nat} {m : CarMove} {t : Nat} {w : Work} (ha : movingAction w.toState = some (m, t))
    (hk : m.kind = .widthScan) :
    scanReading d w = modCar (fun c => { c with move := some { m with widths := widthReading d m.widths } }) w := by
  simp only [scanReading, ha, hk]

theorem scanReading_return {d : Nat} {m : CarMove} {t : Nat} {h : Head} {w : Work} (ha : movingAction w.toState = some (m, t))
    (hk : m.kind = .checkScan h) (ho : m.scan.outward = false) : scanReading d w = checkSample h m d w := by
  simp only [scanReading, ha, hk, ho, Bool.false_eq_true, if_false]

theorem widthReading_eq (d : Nat) (x : WidthTrack) :
    widthReading d x
      = (let pos := 100 * x.count
         let edge := x.last.any (fun l => decide (l < 128) != decide (d < 128))
         ⟨x.count + 1, some d, if edge then some (x.firstEdge.getD pos) else x.firstEdge, if edge then some pos else x.lastEdge⟩) := by
  rw [widthReading, Nat.mul_comm]
  rfl

/-- A sample before the last of a pass (R158). -/
theorem checkSample_more {h : Head} {m : CarMove} {d : Nat} {w : Work} (hl : (d :: m.scan.samples).length < 1037) :
    checkSample h m d w
      = modCar (fun c => { c with move := some { m with scan := { m.scan with samples := d :: m.scan.samples } } }) w :=
  if_pos hl

/-- The last sample of row 1's pass ends the action (R158). -/
theorem checkSample_last {h : Head} {m : CarMove} {d : Nat} {w : Work} (hl : 1037 ≤ (d :: m.scan.samples).length)
    (hr : m.scan.row = .r1) :
    checkSample h m d w
      = endAction { m with scan := { m.scan with samples := [], done1 := some (d :: m.scan.samples).reverse } } none w := by
  refine (if_neg (Nat.not_lt.mpr hl)).trans ?_
  simp only [hr]

/-- The last sample of row 0's pass starts that of row 1 (R158). -/
theorem checkSample_second {h : Head} {m : CarMove} {d : Nat} {w : Work} (hl : 1037 ≤ (d :: m.scan.samples).length)
    (hr : m.scan.row = .r0) :
    checkSample h m d w
      = post (.passStarted h .r1) (modCar (fun c => { c with move := some { m with
          phase := .action w.now, scan := ⟨.r1, true, [], some (d :: m.scan.samples).reverse, none⟩ } }) w) := by
  refine (if_neg (Nat.not_lt.mpr hl)).trans ?_
  simp only [hr]

theorem debitChannel_le {t : Tally} {v : Nat} {c : Channel} (h : v ≤ c.e) :
    debitChannel t v c = addTally t v { c with e := c.e - v } := if_pos h

/-- The volume of some drops, and the residue they leave (R94). -/
theorem dropVolume_eq {s : State} {ch : Chan} {n : Nat} (hn : n ≠ 0) :
    dropVolume s ch n = (n * (s.supply.params.get ch).drop + (chanRec s ch).residue) / 10000
      ∧ dropResidue s ch n = (n * (s.supply.params.get ch).drop + (chanRec s ch).residue) % 10000 :=
  ⟨if_neg hn, if_neg hn⟩

theorem modCheck_some {f : Check → Check} {c : Check} {w : Work} (hc : w.checker.check = some c) :
    modCheck f w = { w with checker := { w.checker with check := some (f c) } } := by
  simp [modCheck, modChecker, hc]

/-- One channel's record replaced. -/
def setChan (ch : Chan) (x : Channel) (w : Work) : Work :=
  { w with pump := { w.pump with chans := w.pump.chans.set ch x } }

theorem modChan_eq (ch : Chan) (f : Channel → Channel) (w : Work) : modChan ch f w = setChan ch (f (chanRec w.toState ch)) w := rfl

/-- A debit of drops from a channel that stays well supplied (R94, R95). -/
theorem debitDrops_eq {t : Tally} {ch : Chan} {n : Nat} {w : Work} (hn : n ≠ 0) (ha : w.toState.ample ch n) :
    debitDrops t ch n w
      = (let x := chanRec w.toState ch
         let total := n * (w.supply.params.get ch).drop + x.residue
         (total / 10000,
          setChan ch (addTally t (total / 10000) { x with e := x.e - total / 10000, residue := total % 10000 }) w)) := by
  obtain ⟨he, -, -⟩ := ha hn
  obtain ⟨hv, hr⟩ := dropVolume_eq (s := w.toState) (ch := ch) hn
  rw [debitDrops_ample hn ha, modChan_eq, debitChannel_le]
  · rw [hv, hr]
  · change dropVolume w.toState ch n ≤ (chanRec w.toState ch).e
    omega

/-- The debit of a pass from a channel that stays well supplied (R94, R158). -/
theorem onPassStarted_ample {h : Head} {r : Row} {c : Check} {w : Work} (hc : w.checker.check = some c)
    (ha : w.toState.ample (h.chan r) 40960) :
    onPassStarted h r w
      = (let ch := h.chan r
         let x := chanRec w.toState ch
         let total := 40960 * (w.supply.params.get ch).drop + x.residue
         { w with
           pump := { w.pump with chans := w.pump.chans.set ch { x with
             e := x.e - total / 10000, printed := x.printed + total / 10000, residue := total % 10000 } }
           checker := { w.checker with check := some { c with ink := c.ink.set ch (c.ink.get ch + total / 10000) } } }) := by
  unfold onPassStarted
  dsimp only
  rw [show Config.ladderDrops = 40960 from rfl, debitDrops_eq (by decide) ha]
  exact modCheck_some hc

/-- Settles O49. -/
theorem actionsEndAndTheReturnBegins : Obligations.ActionsEndAndTheReturnBegins := by
  intro s hs
  refine ⟨fun hm => ?_, ?_⟩
  · have ha := movingAction_none hm
    exact ⟨occur_void hs (by simp only [wipeComplete, Work.of_toState, ha]),
      occur_void hs (by simp only [widthScanPassEnd, Work.of_toState, ha]),
      occur_void hs (by simp only [actionDeadline, Work.of_toState, ha]),
      occur_void hs (by simp only [patternLegEnd, Work.of_toState, ha])⟩
  · intro m t hm hp hi with' back
    have ha : movingAction (Work.of s).toState = some (m, t) := movingAction_iff.mpr ⟨hm, hp⟩
    have hend (x : CarMove) (fault : Option Code) : endAction x fault (Work.of s) = withMove (x.back s.now fault) (Work.of s) :=
      endAction_eq hi
    have hmove (x : CarMove) : modCar (fun c => { c with move := some x }) (Work.of s) = withMove x (Work.of s) := modCar_move hi
    refine ⟨fun hk => ⟨?_, fun ht => ?_, fun ht => ?_⟩, fun hk => ⟨?_, fun ht => ?_, fun ht => ?_⟩, fun hk => ?_, fun hk => ?_,
      fun h hk => ⟨fun ho => ?_, fun ho => ?_⟩, ?_⟩
    · exact occur_done hs Keeps.wipeComplete ((wipeComplete_eq ha).trans ((if_pos hk).trans (hend _ _))) rfl
    · have ht' : ¬ t + actionTime m.kind ≤ s.now := by rw [hk]; exact Nat.not_le.mpr ht
      exact occur_void hs ((actionDeadline_eq ha).trans (if_neg ht'))
    · have ht' : t + actionTime m.kind ≤ s.now := by rw [hk]; exact ht
      have hf : actionFault m.kind = .wipeFault := by rw [hk]; rfl
      have hw := (actionDeadline_eq ha).trans ((if_pos ht').trans (hend _ _))
      rw [hf] at hw
      exact occur_done hs Keeps.actionDeadline hw rfl
    · exact occur_void hs ((wipeComplete_eq ha).trans (if_neg hk))
    · have ht' : ¬ t + actionTime m.kind ≤ s.now := by rw [actionTime_eq, if_neg hk]; exact Nat.not_le.mpr ht
      exact occur_void hs ((actionDeadline_eq ha).trans (if_neg ht'))
    · have ht' : t + actionTime m.kind ≤ s.now := by rw [actionTime_eq, if_neg hk]; exact ht
      have hf : actionFault m.kind = .capFault := by cases hx : m.kind <;> first | rfl | exact absurd hx hk
      have hw := (actionDeadline_eq ha).trans ((if_pos ht').trans (hend _ _))
      rw [hf] at hw
      exact occur_done hs Keeps.actionDeadline hw rfl
    · exact occur_done hs Keeps.widthScanPassEnd ((widthScanPassEnd_eq ha).trans ((if_pos hk).trans (hend _ _))) rfl
    · exact occur_void hs ((widthScanPassEnd_eq ha).trans (if_neg hk))
    · exact occur_void hs ((patternLegEnd_scan ha hk).trans (if_neg (by simp [ho])))
    · exact occur_done hs Keeps.patternLegEnd ((patternLegEnd_scan ha hk).trans ((if_pos ho).trans (congrArg _ (hmove _)))) rfl
    · intro d hcal samples
      have hread := carriageReading_scan (d := d) (w := Work.of s) hcal
      refine ⟨fun hk => ?_, fun hk => ?_, fun h hk ho => ?_⟩
      · exact occur_void hs (hread.trans (scanReading_wipe ha hk))
      · intro pos edge
        have hw := hread.trans ((scanReading_width ha hk).trans (hmove _))
        rw [widthReading_eq] at hw
        exact occur_done hs Keeps.carriageReading hw rfl
      · have hret := hread.trans (scanReading_return ha hk ho)
        refine ⟨fun hl => ?_, fun hl hr => ?_, fun c hl hr hc hample => ?_⟩
        · exact occur_done hs Keeps.carriageReading (hret.trans ((checkSample_more hl).trans (hmove _))) rfl
        · exact occur_done hs Keeps.carriageReading (hret.trans ((checkSample_last hl hr).trans (hend _ _))) rfl
        · exact occur_one hs Keeps.carriageReading
            (hret.trans ((checkSample_second hl hr).trans (congrArg _ (hmove _)))) rfl (onPassStarted_ample hc hample) rfl

/-! ### The return -/

theorem homeReport_idle {w : Work} (hr : w.station.car.resetReturn = none) (hm : w.station.car.move = none) : homeReport w = w := by
  simp only [homeReport, hr, hm]

theorem returnTimeout_idle {w : Work} (hr : w.station.car.resetReturn = none) (hm : w.station.car.move = none) :
    returnTimeout w = w := by
  simp only [returnTimeout, hr, hm]

/-- The carriage at home from a reset's return is OPEN, and the sled is raised with nobody waiting (R135). -/
theorem homeReport_reset {t : Nat} {w : Work} (hr : w.station.car.resetReturn = some t) (hs : w.station.car.state = .serviceMove)
    (hm : w.station.car.move = none) (hh : w.station.car.hold ≠ .waiting) :
    homeReport w = { w with
      station := { w.station with car := { w.station.car with
        state := .open, sled := .raising w.now, resetReturn := none, idleSince := none, home := true } }
      agenda := w.agenda ++ [.carriageParked] } := by
  simp only [homeReport, hr]
  rw [carTo_home (by rw [hs]; simp) (by rw [hs]; simp) rfl, raiseAlone_eq]
  refine (lookCarriage_idle ?_ ?_).trans ?_
  exacts [hh, hm, rfl]

theorem returnTimeout_early {t : Nat} {w : Work} (hr : w.station.car.resetReturn = some t) (ht : w.now < t + 2000) :
    returnTimeout w = w := by
  simp only [returnTimeout, hr]
  exact if_neg (by rw [reached_iff]; exact Nat.not_le.mpr ht)

/-- 2,000 ms of a reset's return without home: the carriage is RELEASED, and its fault is reported (R135). -/
theorem returnTimeout_late {t : Nat} {w : Work} (hr : w.station.car.resetReturn = some t) (hs : w.station.car.state = .serviceMove)
    (ht : t + 2000 ≤ w.now) :
    returnTimeout w = { w with
      station := { w.station with car := { w.station.car with
        state := .released, resetReturn := none, idleSince := none, home := false } }
      outbox := w.outbox ++ [eventNotice .service 0 []] } := by
  simp only [returnTimeout, hr]
  refine (if_pos ((reached_iff _ _).mpr ht)).trans ?_
  rw [carTo_away (by rw [hs]; simp) (by rw [hs]; simp) rfl, modCar_awake (Carriage.idles_notOpen (by simp))]
  rfl

/-- The return of a move ends at home (R127). -/
theorem homeReport_returning {m : CarMove} {t : Nat} {w : Work} (hr : w.station.car.resetReturn = none)
    (hm : w.station.car.move = some m) (hp : m.phase = .returning t) :
    homeReport w = endCarMove m .open (m.fault.getD .ok) true (modCar (fun c => { c with home := true }) w) := by
  simp only [homeReport, hr, hm, hp]

/-- The carriage at the end of a move at home. -/
def Carriage.returned (c : Carriage) : Carriage := { c with state := .open, move := none, home := true }

theorem endCarMove_home {m : CarMove} {o : Code} {w : Work} {c : Carriage}
    (hc : (Carriage.returned { w.station.car with idleSince := none }).timed w.now = c) (hs : w.station.car.state = .serviceMove)
    (hh : w.station.car.hold ≠ .waiting) :
    endCarMove m .open o true (modCar (fun c => { c with home := true }) w) = { w with
      station := { w.station with car := c }
      agenda := w.agenda ++ [.carriageParked, .carMoveEnded m o true] } := by
  rw [modCar_awake (Carriage.idles_notOpen (by rw [hs]; simp)), endCarMove, carTo_home]
  · rw [testHold_idle]
    · rw [← hc]
      simp only [post, List.append_assoc]
      rfl
    · exact hh
  · exact fun h => by rw [hs] at h; cases h
  · exact fun h => by rw [hs] at h; cases h
  · rfl

/-! ### The end of the last head of a service (R150) -/

theorem setCleanDue_clear (h : Head) (w : Work) :
    setCleanDue h false w = { w with
      station := { w.station with cleanDue := w.station.cleanDue.set h false }
      outbox := w.outbox ++ if w.station.cleanDue.get h then [eventNotice .service 3 (u8 h.num ++ u8 0)] else [] } := by
  unfold setCleanDue
  cases hd : w.station.cleanDue.get h
  · have hs : w.station.cleanDue.set h false = w.station.cleanDue := by rw [← hd]; exact Heads.set_get _ _
    rw [hs]
    simp
  · rfl

/-- A head is completed and no other follows: its clocks restart, its CLEAN_DUE is cleared, and the service ends. -/
theorem completeHead_last {v : Service} {w : Work} (hm : v.mask = (Heads.all false).set v.head true) :
    completeHead v w
      = endService { v with completed := v.completed ++ [v.head] } .ok none { w with
          station := { w.station with
            wet := (w.station.wet.set (v.head.chan .r0) ⟨w.now, false⟩).set (v.head.chan .r1) ⟨w.now, false⟩
            cleanDue := w.station.cleanDue.set v.head false
            service := some { v with completed := v.completed ++ [v.head] } }
          outbox := w.outbox
            ++ if w.station.cleanDue.get v.head then [eventNotice .service 3 (u8 v.head.num ++ u8 0)] else [] } := by
  have hnone : v.mask.members.filter (fun h => v.head.num < h.num) = [] := by
    rw [hm]
    cases v.head <;> rfl
  unfold completeHead
  dsimp only
  rw [hnone, setCleanDue_clear]
  rfl

/-- What the OP_DONE of a service of one head says once it is completed (R151). -/
theorem serviceDetail_single {v : Service} {level : Nat} (hl : v.level = level) (hm : v.mask = (Heads.all false).set v.head true)
    (hc : v.completed = [v.head]) :
    serviceDetail (serviceReport v .ok none .open)
      = u8 level ++ u8 (headByte v.mask) ++ u8 (headByte v.mask) ++ absent 1 ++ u8 1
        ++ (forMask v.mask v.serviced.get).toList.flatMap u32 := by
  have hmask : headMaskOf v.completed = v.mask := by
    rw [hm, hc]
    cases v.head <;> rfl
  rw [serviceReport, hmask, hl]
  rfl

theorem carMoveRequester_wipe {m : CarMove} {v : Service} {w : Work} (hr : m.requester = .service)
    (hv : w.station.service = some v) (hs : v.step = .wipe) : carMoveRequester m .ok w = post (.stepEnded .ok) w := by
  simp only [carMoveRequester, hr, serviceCarMoveEnded, hv, hs]
  rfl

theorem askAgain_unheard {w : Work} (hs : w.media.seq = none) (hv : w.station.service = none) (hc : w.checker.check = none) :
    deliver .askAgain w = w := by
  simp only [deliver, mediaAskAgain, hs, serviceAskAgain, hv, checkAskAgain, hc]

/-- Settles O50. -/
theorem returnsEnd : Obligations.ReturnsEnd := by
  intro s hs hsw c
  refine ⟨fun hr hm => ⟨occur_void hs (homeReport_idle hr hm), occur_void hs (returnTimeout_idle hr hm)⟩,
    fun t hr hst hm hh hl => ⟨?_, fun ht => ?_, fun ht => ?_⟩, ?_⟩
  · exact occur_unheard hs Keeps.homeReport (homeReport_reset hr hst hm (hh.trans_ne (by simp))) rfl (trySwitch_absent hsw)
  · exact occur_void hs (returnTimeout_early hr ht)
  · exact occur_done hs Keeps.returnTimeout (returnTimeout_late hr hst ht) rfl
  · intro m t tag v x hr hm hp hf hreq hk hst hh hl hcl hsu hv hb hlv hmask hstep hagain hcomp hx hpres hcheck hseq
    have hh' : c.hold ≠ .waiting := hh.trans_ne (by simp)
    have hc1 : (Carriage.returned { c with idleSince := none }).timed s.now = Carriage.returned { c with idleSince := none } :=
      Carriage.timed_awake (by simp [Carriage.idles, Carriage.returned, hcl, Claims.any])
    have hc2 : (Carriage.returned { c with idleSince := none }).unclaimed.timed s.now
        = { c with state := .open, claims := ⟨false, false, false⟩, move := none, home := true, idleSince := some s.now } := by
      simp [Carriage.timed, Carriage.idles, Carriage.returned, Carriage.unclaimed, Claims.any, hcl, hh, hl, hsu]
    have hw := (homeReport_returning (w := Work.of s) hr hm hp).trans (endCarMove_home hc1 hst hh')
    rw [hf] at hw
    have hlast {w : Work} (hv : w.station.service = some v) : onStepEnded .ok w = completeHead v w := by
      have hnone : stepAfter v.level v.step = none := by rw [hlv, hstep]; rfl
      simp only [onStepEnded, hv, hnone, if_true]
    have hdetail := serviceDetail_single (v := { v with completed := v.completed ++ [v.head] }) hlv hmask (by simp [hcomp])
    have hdone := (hlast (w := { Work.of s with
        station := { s.station with car := Carriage.returned { c with idleSince := none } }, agenda := [.askAgain] }) hv).trans
      ((completeHead_last hmask).trans (endService_host hc2 rfl hdetail hb hx hpres hh' rfl))
    exact occur_from hs Keeps.homeReport hw (drain_step rfl (trySwitch_absent hsw) (drain_step rfl
      (congrArg (post .askAgain) (carMoveRequester_wipe hreq hv hstep)) (drain_step rfl hdone
        (drain_step rfl (askAgain_unheard hseq rfl hcheck) (drain_step rfl (trySwitch_absent hsw) (drain_nil 0 rfl))))))
      (by decide)

end Sys2Proof.Machine
end

section
/-! ## SERVICE: its checks, and its first steps (R140 to R147; O52) -/

namespace Sys2Proof.Machine

open Sys2Proof

set_option Elab.async false

/-- A heard request whose reports have been followed to their end. -/
theorem ask_from {s : State} {q : Request} {w v : Work} {r : Reply} {n : Nat} (h : s.hears q.tag = true)
    (hb : routable q.body = true) (hw : route q (Work.of s) = w) (hd : drain n w = some v) (hn : n ≤ reportBound)
    (hr : v.reply = some r) :
    ask q s = .next { v.toState with link := replied q.kind q.tag q.body r v.outbox s.link } :=
  ask_drained h hb (by rw [hw]; exact drain_of_le hd hn) hr

/-! ### The checks -/

theorem Heads.isEmpty_members {mask : Heads Bool} {h : Head} {rest : List Head} (hm : mask.members = h :: rest) :
    mask.isEmpty = false := by
  obtain ⟨a, b, c⟩ := mask
  cases a <;> cases b <;> cases c <;> first | rfl | cases hm

section
variable {tag heads level : Nat} {mask : Heads Bool} {h : Head} {rest : List Head} {w : Work}

theorem service_refused {reason : Code} (hs : headSetOf heads = some mask) (hm : mask.members = h :: rest) (h1 : 1 ≤ level)
    (h3 : level ≤ 3) (hr : serviceRefusal false mask level w.toState = some reason) :
    service tag heads level w = refuse reason w := by
  simp [service, hs, Heads.isEmpty_members hm, Nat.not_lt.mpr h3, Nat.one_le_iff_ne_zero.mp h1, hr]

theorem service_taken (hs : headSetOf heads = some mask) (hm : mask.members = h :: rest) (h1 : 1 ≤ level)
    (h3 : level ≤ 3) (hr : serviceRefusal false mask level w.toState = none) :
    service tag heads level w = takeService (.host tag) mask level (started heads w) := by
  simp [service, hs, Heads.isEmpty_members hm, Nat.not_lt.mpr h3, Nat.one_le_iff_ne_zero.mp h1, hr]
end

/-- The planned volume, channel by channel (R141). -/
theorem plannedVolume_eq (s : State) (mask : Heads Bool) (level : Nat) :
    plannedVolume s mask level = (allChans.map (fun ch => if mask.get ch.head then
      ((204800 * (s.supply.params.get ch).drop + 9999) / 10000)
        + (if level = 2 then 4000 else if level = 3 then 12000 else 0) * (s.supply.params.get ch).purge else 0)).sum := by
  have hp (p : Params) : purgeVolume level p = (if level = 2 then 4000 else if level = 3 then 12000 else 0) * p.purge := by
    unfold purgeVolume
    split
    · rfl
    · split
      · rfl
      · exact (Nat.zero_mul _).symm
  simp only [plannedVolume, hp, forMask, Chans.total, allChans, List.map_cons, List.map_nil, List.sum_cons, List.sum_nil, spitBound,
    Nat.add_zero, Nat.add_assoc]
  rfl

theorem isParked_iff {st : CarState} : st.isParked = true ↔ st = .capped ∨ st = .open := by cases st <;> decide

section
variable {mask : Heads Bool} {level : Nat} {s : State}

theorem serviceRefusal_away (hp : ¬ (s.station.car.state = .capped ∨ s.station.car.state = .open)) :
    serviceRefusal false mask level s = some .carriageNotParked := by
  have hp' : s.station.car.state.isParked = false := by simpa using mt isParked_iff.mp hp
  simp [serviceRefusal, hp']

theorem serviceRefusal_claimed (hp : s.station.car.state = .capped ∨ s.station.car.state = .open)
    (hc : s.station.car.claims ≠ ⟨false, false, false⟩) : serviceRefusal false mask level s = some .busy := by
  have hp' := isParked_iff.mpr hp
  have hany := Claims.any_iff.mpr hc
  have hb : (s.station.car.claims.service || s.station.car.claims.media || (s.station.car.claims.check && !false)) = true := by
    rw [← hany, Claims.any]
    cases s.station.car.claims.service <;> cases s.station.car.claims.media <;> cases s.station.car.claims.check <;> rfl
  exact (if_neg (by simp [hp'])).trans (if_pos hb)

/-- What is left of the checks over a parked carriage that nobody has claimed (R140 steps 3 to 5). -/
theorem serviceRefusal_free (hp : s.station.car.state = .capped ∨ s.station.car.state = .open)
    (hc : s.station.car.claims = ⟨false, false, false⟩) :
    (s.station.waste.tank = none → serviceRefusal false mask level s = some .noWasteTank)
      ∧ ∀ t, s.station.waste.tank = some t → serviceRefusal false mask level s
        = if t.capacity - t.w < plannedVolume s mask level then some .wasteFull
          else if 2 ≤ level ∧ s.sheet.phase ≠ .none then some .badState else none := by
  have hp' := isParked_iff.mpr hp
  refine ⟨fun ht => ?_, fun t ht => ?_⟩
  · simp [serviceRefusal, hp', hc, ht]
  · simp [serviceRefusal, hp', hc, ht]
end

/-! ### Taking a service -/

/-- The record of a service as it is made (R142). -/
def takenService (tag level : Nat) (mask : Heads Bool) (h : Head) (s : State) : Service :=
  ⟨.host tag, level, mask, forMask mask (fun ch => purgeVolume level (s.supply.params.get ch)), h, firstStep level, [], none,
    Chans.all 0, false, false, none⟩

/-- The carriage claimed by a service. -/
def Carriage.inService (c : Carriage) : Carriage := { c with claims := { c.claims with service := true }, idleSince := none }

theorem takeService_eq {tag level : Nat} {mask : Heads Bool} {h : Head} {rest : List Head} {w : Work}
    (hm : mask.members = h :: rest) :
    takeService (.host tag) mask level w
      = runStep (takenService tag level mask h w.toState) { w with station := { w.station with
          car := w.station.car.inService, service := some (takenService tag level mask h w.toState) } } := by
  have hclaim : setServiceClaim true (setStation (fun t => { t with service := some (takenService tag level mask h w.toState) }) w)
      = { w with station := { w.station with
          car := w.station.car.inService, service := some (takenService tag level mask h w.toState) } } := by
    rw [setServiceClaim, modCar_awake (by simp [Carriage.idles, Claims.any])]
    rfl
  unfold takeService
  simp only [hm]
  exact (congrArg _ hclaim).trans (startStep_some (v := takenService tag level mask h w.toState) rfl)

/-! ### The waste estimate (R132 to R134) -/

/-- What is told of the level of the waste tank when it is set anew (R133). -/
def levelNotices (old : WasteLevel) (t : WasteRec) : List Notice :=
  let new := wasteLevelOf t.w t.capacity
  if new ≠ old ∧ (new ≠ .normal ∨ old = .nearFull ∨ old = .full) then
    [eventNotice .service 1 (u8 new.num ++ u32 t.w ++ u32 t.capacity)] else []

theorem wasteLevelOf_ne_none (w capacity : Nat) : wasteLevelOf w capacity ≠ .none := by
  unfold wasteLevelOf
  split
  · simp
  · split <;> simp

theorem levelReported_iff {old new : WasteLevel} (hn : new ≠ .none) :
    levelReported old new = true ↔ new ≠ old ∧ (new ≠ .normal ∨ old = .nearFull ∨ old = .full) := by
  revert hn
  cases old <;> cases new <;> decide

theorem wasteRelevel_eq {t : WasteRec} {w : Work} (ht : w.station.waste.tank = some t) :
    wasteRelevel w = { w with
      station := { w.station with waste := { w.station.waste with level := wasteLevelOf t.w t.capacity } }
      outbox := w.outbox ++ levelNotices w.station.waste.level t } := by
  have hiff := levelReported_iff (old := w.station.waste.level) (wasteLevelOf_ne_none t.w t.capacity)
  simp only [wasteRelevel, ht]
  unfold levelNotices
  by_cases h : levelReported w.station.waste.level (wasteLevelOf t.w t.capacity) = true
  · rw [h, when_true, if_pos (hiff.mp h)]
    rfl
  · rw [Bool.not_eq_true _ |>.mp h, when_false, if_neg (mt hiff.mpr h), List.append_nil]

/-- A write-back of W: last written, and the write where the tank is PRESENT (R134). -/
theorem writeBackWaste_eq {t : WasteRec} {w : Work} (ht : w.station.waste.tank = some t) :
    writeBackWaste w = { w with
      station := { w.station with waste := { w.station.waste with tank := some { t with written := t.w } } }
      supply := if w.supply.tank.state = .present then
        { w.supply with
          bus := busJoin ⟨.tank, .write t.w, false⟩ w.supply.bus
          busStart := if w.supply.bus.isEmpty then w.now else w.supply.busStart } else w.supply } := by
  simp only [writeBackWaste, ht]
  by_cases hp : w.supply.tank.state = .present
  · rw [if_pos hp]
    exact if_pos hp
  · rw [if_neg hp]
    exact if_neg hp

theorem wasteFar_some {x : Waste} {t : WasteRec} (ht : x.tank = some t) :
    wasteFar x = true ↔ t.written + 1000000 ≤ t.w := by
  simp only [wasteFar, ht]
  exact decide_eq_true_iff

/-- A credit that the tank has room for (R132 to R134). -/
theorem credit_eq {v : Nat} {t : WasteRec} {w : Work} (ht : w.station.waste.tank = some t) (hr : t.w + v ≤ t.capacity) :
    credit v w = { w with
      station := { w.station with waste := { w.station.waste with
        tank := some { t with w := t.w + v, written := if t.written + 1000000 ≤ t.w + v then t.w + v else t.written }
        level := wasteLevelOf (t.w + v) t.capacity } }
      supply := if t.written + 1000000 ≤ t.w + v ∧ w.supply.tank.state = .present then
        { w.supply with
          bus := busJoin ⟨.tank, .write (t.w + v), false⟩ w.supply.bus
          busStart := if w.supply.bus.isEmpty then w.now else w.supply.busStart } else w.supply
      outbox := w.outbox ++ levelNotices w.station.waste.level { t with w := t.w + v } } := by
  have hc : creditWaste v w.station.waste = { w.station.waste with tank := some { t with w := t.w + v } } := by
    simp only [creditWaste, ht, Nat.min_eq_left hr, Nat.sub_eq_zero_of_le hr, Nat.add_zero]
  have hlevel := wasteRelevel_eq (t := { t with w := t.w + v })
    (w := { w with station := { w.station with waste := { w.station.waste with tank := some { t with w := t.w + v } } } }) rfl
  have hcred : credit v w = when (wasteFar (wasteRelevel { w with
      station := { w.station with waste := creditWaste v w.station.waste } }).station.waste) writeBackWaste
      (wasteRelevel { w with station := { w.station with waste := creditWaste v w.station.waste } }) := rfl
  rw [hcred, hc, hlevel]
  by_cases hf : t.written + 1000000 ≤ t.w + v
  · rw [(wasteFar_some rfl).mpr hf, when_true, writeBackWaste_eq rfl]
    simp only [hf, if_true, true_and]
  · rw [Bool.not_eq_true _ |>.mp (mt (wasteFar_some rfl).mp hf), when_false]
    simp only [hf, if_false, false_and]

/-! ### The purge (R146, R147) -/

/-- A debit from a channel that stays above the refill threshold, with neither flag set (R95 to R97, R100). -/
theorem debitVolume_ample {t : Tally} {ch : Chan} {v : Nat} {w : Work} (he : v + Config.refillThreshold ≤ (chanRec w.toState ch).e)
    (hd : (chanRec w.toState ch).dry = false) (hh : (chanRec w.toState ch).hold = false) :
    debitVolume t ch v w
      = setChan ch (addTally t v { chanRec w.toState ch with e := (chanRec w.toState ch).e - v }) w := by
  have hle : v ≤ (chanRec w.toState ch).e := by omega
  have hmod : modChan ch (debitChannel t v) w
      = setChan ch (addTally t v { chanRec w.toState ch with e := (chanRec w.toState ch).e - v }) w := by
    rw [modChan_eq, debitChannel_le hle]
  unfold debitVolume
  dsimp only
  by_cases hv : v = 0
  · rw [if_pos hv, ← hmod, hv]
    refine (modChan_same ?_).symm
    cases t <;> rfl
  · have hres : Config.printReserve ≤ Config.refillThreshold := by decide
    have hflag : decide ((chanRec w.toState ch).e < v) = false := decide_eq_false (Nat.not_lt.mpr hle)
    rw [if_neg hv, hflag, hmod]
    have hrec : chanRec (setChan ch (addTally t v { chanRec w.toState ch with e := (chanRec w.toState ch).e - v }) w).toState ch
        = addTally t v { chanRec w.toState ch with e := (chanRec w.toState ch).e - v } := Chans.get_set_same _ _ _
    have hx : (addTally t v { chanRec w.toState ch with e := (chanRec w.toState ch).e - v }).e = (chanRec w.toState ch).e - v
        ∧ (addTally t v { chanRec w.toState ch with e := (chanRec w.toState ch).e - v }).dry = false
        ∧ (addTally t v { chanRec w.toState ch with e := (chanRec w.toState ch).e - v }).hold = false := by
      cases t <;> exact ⟨rfl, hd, hh⟩
    obtain ⟨hxe, hxd, hxh⟩ := hx
    obtain ⟨hk, hk'⟩ := flags_kept hxh hxd (by omega)
    exact levelChanged_quiet (by rw [hrec]; exact hk) (by rw [hrec]; exact hk') (lookRefill_full (by rw [hrec]; omega))

/-- A volume added to the service's figure of a channel (R147, R149). -/
def Service.addServed (ch : Chan) (n : Nat) (v : Service) : Service := { v with serviced := v.serviced.set ch (v.serviced.get ch + n) }

/-- The debit of one channel's purge from an ample channel (R147). -/
theorem purgeDebit_ample {v u : Service} {ch : Chan} {c : Channel} {w : Work} (hc : chanRec w.toState ch = c)
    (hu : w.station.service = some u) (he : purgeOf v ch + Config.refillThreshold ≤ c.e) (hd : c.dry = false)
    (hh : c.hold = false) :
    purgeDebit v ch w = { setChan ch { c with e := c.e - purgeOf v ch, serviced := c.serviced + purgeOf v ch } w with
      station := { w.station with service := some (u.addServed ch (purgeOf v ch)) } } := by
  subst hc
  rw [purgeDebit, debitVolume_ample he hd hh]
  exact modService_some hu

theorem sledStep_there {st : CarState} {w : Work} (hl : w.station.car.sled = .still) (hc : w.station.car.state = st) :
    sledStep st w = endStep .ok w := by
  simp [sledStep, hl, hc]

theorem coverOf_ample {s : State} {ch : Chan} {v : Nat} (h : v + Config.refillThreshold ≤ (chanRec s ch).e) :
    coverOf s ch v = .covered := by
  have hres : Config.printReserve ≤ Config.refillThreshold := by decide
  exact if_pos (by omega)

/-- Both channels are covered: the purge precondition ends at once (R146). -/
theorem askInk_covered {v : Service} {w : Work} (hv : w.station.service = some v) (hw : v.waitEnd = none)
    (ha : coverOf w.toState (v.head.chan .r0) (purgeOf v (v.head.chan .r0)) = .covered)
    (hb : coverOf w.toState (v.head.chan .r1) (purgeOf v (v.head.chan .r1)) = .covered) : askInk v w = endStep .ok w := by
  have hmod : modService (fun v => { v with waitEnd := none }) w = w := by
    have hs : { v with waitEnd := none } = v := by rw [← hw]
    rw [modService_some hv, hs, ← hv]
  simp [askInk, ha, hb, raiseIfShort, when, hmod]

theorem suctionStep_ready {v : Service} {w : Work} (hc : w.station.car.state = .capped) (hl : w.station.car.sled = .still) :
    suctionStep v w
      = (let total := purgeOf v (v.head.chan .r0) + purgeOf v (v.head.chan .r1)
         credit total (purgeDebit v (v.head.chan .r1) (purgeDebit v (v.head.chan .r0) (startSuction v.head total w)))) := by
  simp [suctionStep, suctionReady, hc, hl, headChans]

theorem startSuction_eq {h : Head} {n : Nat} {w : Work} :
    startSuction h n w = { w with station := { w.station with
      car := { w.station.car with suction := some ⟨h, n, w.now⟩, idleSince := none } } } :=
  modCar_awake (by simp [Carriage.idles])

/-- The channel after a purge of `n` has been debited. -/
def purged (n : Nat) (s : State) (ch : Chan) : Channel :=
  { chanRec s ch with e := (chanRec s ch).e - n, serviced := (chanRec s ch).serviced + n }

/-- A channel that stays above the refill threshold after a debit of `n`, with neither flag set (R96, R97, R100). -/
def State.covers (s : State) (ch : Chan) (n : Nat) : Prop :=
  n + Config.refillThreshold ≤ (chanRec s ch).e ∧ (chanRec s ch).dry = false ∧ (chanRec s ch).hold = false

/-- The suction over a capped carriage, its channels ample and the tank with room: the debits, the credit and the run (R147). -/
theorem suctionStep_ample {v u : Service} {t : WasteRec} {pa pb : Nat} {w : Work} (hv : w.station.service = some v)
    (hu : (v.addServed (v.head.chan .r0) pa).addServed (v.head.chan .r1) pb = u)
    (hc : w.station.car.state = .capped) (hl : w.station.car.sled = .still) (hpa : purgeOf v (v.head.chan .r0) = pa)
    (hpb : purgeOf v (v.head.chan .r1) = pb) (ha : w.toState.covers (v.head.chan .r0) pa)
    (hb : w.toState.covers (v.head.chan .r1) pb) (ht : w.station.waste.tank = some t) (hr : t.w + (pa + pb) ≤ t.capacity) :
    suctionStep v w
      = (let a := v.head.chan .r0
         let b := v.head.chan .r1
         let total := pa + pb
         { w with
           pump := { w.pump with chans := (w.pump.chans.set a (purged pa w.toState a)).set b (purged pb w.toState b) }
           station := { w.station with
             car := { w.station.car with suction := some ⟨v.head, total, w.now⟩, idleSince := none }
             service := some u
             waste := { w.station.waste with
               tank := some { t with
                 w := t.w + total, written := if t.written + 1000000 ≤ t.w + total then t.w + total else t.written }
               level := wasteLevelOf (t.w + total) t.capacity } }
           supply := if t.written + 1000000 ≤ t.w + total ∧ w.supply.tank.state = .present then
             { w.supply with
               bus := busJoin ⟨.tank, .write (t.w + total), false⟩ w.supply.bus
               busStart := if w.supply.bus.isEmpty then w.now else w.supply.busStart } else w.supply
           outbox := w.outbox ++ levelNotices w.station.waste.level { t with w := t.w + total } }) := by
  subst hpa hpb hu
  have hne : v.head.chan .r1 ≠ v.head.chan .r0 := by cases v.head <;> decide
  obtain ⟨hae, had, hah⟩ := ha
  obtain ⟨hbe, hbd, hbh⟩ := hb
  have hother (x : Channel) : (w.pump.chans.set (v.head.chan .r0) x).get (v.head.chan .r1) = chanRec w.toState (v.head.chan .r1) :=
    Chans.get_set_other _ _ hne
  rw [suctionStep_ready hc hl]
  dsimp only
  rw [startSuction_eq]
  refine (congrArg (credit _) ((congrArg (purgeDebit v _) (purgeDebit_ample (u := v)
      (c := chanRec w.toState (v.head.chan .r0)) ?_ ?_ ?_ ?_ ?_)).trans
    (purgeDebit_ample (u := v.addServed (v.head.chan .r0) (purgeOf v (v.head.chan .r0)))
      (c := chanRec w.toState (v.head.chan .r1)) ?_ ?_ ?_ ?_ ?_))).trans ((credit_eq (t := t) ?_ hr).trans ?_)
  exacts [rfl, hv, hae, had, hah, hother _, rfl, hbe, hbd, hbh, ht, rfl]

/-- The service over a capped carriage, its head amply covered: what follows from the cap step (R144 to R147). -/
theorem drain_purge {v : Service} {w u : Work} (hv : w.station.service = some v) (hs : v.step = .cap)
    (hlv : v.level = 2 ∨ v.level = 3) (ha : w.agenda = [.stepEnded .ok])
    (hample : ∀ ch, ch.head = v.head → purgeOf v ch + Config.refillThreshold ≤ (chanRec w.toState ch).e)
    (hu : suctionStep (v.standing v.head .suction) { w with
      station := { w.station with service := some (v.standing v.head .suction) }, agenda := [] } = u)
    (hua : u.agenda = []) : drain 2 w = some u := by
  have hcap : stepAfter v.level v.step = some .precondition := by rw [hs]; obtain h | h := hlv <;> rw [h] <;> rfl
  have hpre : stepAfter v.level .precondition = some .suction := by obtain h | h := hlv <;> rw [h] <;> rfl
  have hcover (r : Row) : coverOf w.toState (v.head.chan r) (purgeOf v (v.head.chan r)) = .covered :=
    coverOf_ample (hample _ (by cases v.head <;> cases r <;> rfl))
  have h1 := (onStepEnded_next (w := { w with agenda := [] }) hv hcap).trans
    ((startStep_some (h := v.head) (step := .precondition) (w := { w with agenda := [] }) hv).trans
      (askInk_covered (v := v.standing v.head .precondition) (w := { w with
      station := { w.station with service := some (v.standing v.head .precondition) }, agenda := [] })
      rfl rfl (hcover .r0) (hcover .r1)))
  have h2 := (onStepEnded_next (v := v.standing v.head .precondition) (w := { w with
    station := { w.station with service := some (v.standing v.head .precondition) }, agenda := [] }) rfl hpre).trans
      ((startStep_some (h := v.head) (step := .suction) (v := v.standing v.head .precondition) (w := { w with
        station := { w.station with service := some (v.standing v.head .precondition) }, agenda := [] }) rfl).trans hu)
  exact drain_step ha h1 (drain_step rfl h2 (drain_nil 0 hua))

theorem Heads.get_of_members {mask : Heads Bool} {h : Head} {rest : List Head} (hm : mask.members = h :: rest) :
    mask.get h = true := by
  have hmem : h ∈ mask.members := by rw [hm]; exact List.mem_cons_self
  exact (List.mem_filter.mp hmem).2

theorem forMask_get {mask : Heads Bool} {f : Chan → Nat} {ch : Chan} (h : mask.get ch.head = true) : (forMask mask f).get ch = f ch := by
  cases ch <;> exact if_pos h

/-- A head's purge is part of the planned volume (R141). -/
theorem purge_le_planned {s : State} {mask : Heads Bool} {level : Nat} {h : Head} (hm : mask.get h = true) :
    purgeVolume level (s.supply.params.get (h.chan .r0)) + purgeVolume level (s.supply.params.get (h.chan .r1))
      ≤ plannedVolume s mask level := by
  simp only [plannedVolume, Chans.total]
  set f : Chan → Nat := fun ch => spitBound (s.supply.params.get ch) + purgeVolume level (s.supply.params.get ch) with hf
  have hle (ch : Chan) : purgeVolume level (s.supply.params.get ch) ≤ f ch := Nat.le_add_left _ _
  have ha := hle (h.chan .r0)
  have hb := hle (h.chan .r1)
  have hga : (forMask mask f).get (h.chan .r0) = f (h.chan .r0) := forMask_get (by rw [← hm]; cases h <;> rfl)
  have hgb : (forMask mask f).get (h.chan .r1) = f (h.chan .r1) := forMask_get (by rw [← hm]; cases h <;> rfl)
  rw [← hga] at ha
  rw [← hgb] at hb
  cases h <;> simp only [Head.chan, Chans.get] at ha hb ⊢ <;> omega

theorem runStep_cap_there {v : Service} {w : Work} (hs : v.step = .cap) (hl : w.station.car.sled = .still)
    (hc : w.station.car.state = .capped) : runStep v w = endStep .ok w := by
  simp only [runStep, hs]
  exact sledStep_there hl hc

/-- Both channels' figures, from a service that has served nothing. -/
theorem addServed_both {v : Service} {h : Head} {x y : Nat} (hv : v.serviced = Chans.all 0) :
    ((v.addServed (h.chan .r0) x).addServed (h.chan .r1) y)
      = { v with serviced := ((Chans.all 0).set (h.chan .r0) x).set (h.chan .r1) y } := by
  have hne : h.chan .r1 ≠ h.chan .r0 := by cases h <;> decide
  simp only [Service.addServed, hv, Chans.get_set_other _ _ hne, Chans.get_all, Nat.zero_add]

/-- A write joins the bus queue, in the place of a waiting one or at its end (R88, R89). -/
theorem mem_busJoin_write (t : Target) (n : Nat) (b : Bool) (q : List BusOp) : ⟨t, .write n, b⟩ ∈ busJoin ⟨t, .write n, b⟩ q := by
  unfold busJoin
  split
  · exact List.mem_singleton_self _
  · next head waiting =>
    dsimp only
    split
    · next h =>
      obtain ⟨x, hx, hk⟩ := List.any_eq_true.mp h
      exact List.mem_cons_of_mem _ (List.mem_map.mpr ⟨x, hx, if_pos hk⟩)
    · simp

/-- Settles O52. -/
theorem serviceIsCheckedAndTaken : Obligations.ServiceIsCheckedAndTaken := by
  intro s tag heads level mask h rest hh hs hm h1 h3 c planned refused record taken parked'
  have hplan : plannedVolume s mask level = planned := plannedVolume_eq s mask level
  have hrefused {reason : Code} (hr : serviceRefusal false mask level s = some reason) : refused reason :=
    ask_decided (q := ⟨kindService, tag, .service heads level⟩) hh rfl (service_refused hs hm h1 h3 hr) rfl rfl
  refine ⟨fun hp => hrefused (serviceRefusal_away hp), fun hp hc => hrefused (serviceRefusal_claimed hp hc), fun hp hc => ?_⟩
  obtain ⟨hnone, hsome⟩ := serviceRefusal_free (mask := mask) (level := level) hp hc
  refine ⟨fun ht => hrefused (hnone ht), fun t ht => ?_⟩
  have hcheck := hsome t ht
  rw [hplan] at hcheck
  have htake (hroom : planned ≤ t.capacity - t.w) (hbad : ¬ (2 ≤ level ∧ s.sheet.phase ≠ .none)) :=
    (service_taken (tag := tag) (w := Work.of s) hs hm h1 h3
      (hcheck.trans ((if_neg (Nat.not_lt.mpr hroom)).trans (if_neg hbad)))).trans (takeService_eq hm)
  refine ⟨fun hfull => hrefused (hcheck.trans (if_pos hfull)),
    fun hroom h2 hsh => hrefused (hcheck.trans ((if_neg (Nat.not_lt.mpr hroom)).trans (if_pos ⟨h2, hsh⟩))),
    fun hroom hl hst hsled => ?_, fun hroom h2 hsh hst hsled => ?_, fun hroom h2 hsh hab hst hsled hle => ?_⟩
  · subst hl
    exact ask_decided (q := ⟨kindService, tag, .service heads 1⟩) hh rfl ((htake hroom (by omega)).trans
      (sledStep_lowers rfl hsled hst)) rfl rfl
  · have hlv : level = 2 ∨ level = 3 := by omega
    obtain rfl | rfl := hlv
    · exact ask_decided (q := ⟨kindService, tag, .service heads 2⟩) hh rfl ((htake hroom (by simp [hsh])).trans
        (sledStep_raises rfl hsled hst)) rfl rfl
    · exact ask_decided (q := ⟨kindService, tag, .service heads 3⟩) hh rfl ((htake hroom (by simp [hsh])).trans
        (sledStep_raises rfl hsled hst)) rfl rfl
  · intro purge a b total hample debited far
    have hlv : level = 2 ∨ level = 3 := by omega
    have hget := Heads.get_of_members hm
    have hvol (p : Params) : purgeVolume level p = (if level = 2 then 4000 else 12000) * p.purge := by
      obtain h | h := hlv <;> rw [h] <;> rfl
    have hpurge (ch : Chan) (hch : ch.head = h) : purgeOf (takenService tag level mask h s) ch = purge ch :=
      (forMask_get (by rw [hch]; exact hget)).trans (hvol _)
    have ha : purgeOf (takenService tag level mask h s) a = purge a := hpurge a (by cases h <;> rfl)
    have hb : purgeOf (takenService tag level mask h s) b = purge b := hpurge b (by cases h <;> rfl)
    have hroom' : t.w + (purge a + purge b) ≤ t.capacity := by
      have hpl := purge_le_planned (s := s) (level := level) hget
      rw [hplan, hvol, hvol] at hpl
      have hpl' : purge a + purge b ≤ planned := hpl
      omega
    have hstep : (takenService tag level mask h s).step = .cap := if_neg (by omega)
    have hsuck := suctionStep_ample (v := (takenService tag level mask h s).standing h .suction) (t := t)
      (w := { started heads (Work.of s) with
        station := { s.station with
          car := s.station.car.inService, service := some ((takenService tag level mask h s).standing h .suction) } })
      rfl (addServed_both rfl) hst hsled ha hb (hample a (by cases h <;> rfl)) (hample b (by cases h <;> rfl)) ht hroom'
    have hd := drain_purge (v := takenService tag level mask h s) (w := { started heads (Work.of s) with
        station := { s.station with car := s.station.car.inService, service := some (takenService tag level mask h s) }
        agenda := [.stepEnded .ok] }) rfl hstep hlv rfl
      (fun ch hch => by rw [hpurge ch hch]; exact (hample ch hch).1) hsuck rfl
    have hw := (htake hroom (by simp [hsh])).trans (runStep_cap_there hstep hsled hst)
    refine ⟨_, ask_from (q := ⟨kindService, tag, .service heads level⟩) hh rfl hw hd (by decide) rfl, ?_, ?_, fun hf hpr => ?_,
      fun hf => ?_, ?_, rfl⟩
    · rfl
    · rfl
    · have hsup : (if t.written + 1000000 ≤ t.w + total ∧ s.supply.tank.state = .present then
          { s.supply with
            bus := busJoin ⟨.tank, .write (t.w + total), false⟩ s.supply.bus
            busStart := if s.supply.bus.isEmpty then s.now else s.supply.busStart } else s.supply) = _ := if_pos ⟨hf, hpr⟩
      exact (congrArg Supply.bus hsup).symm ▸ mem_busJoin_write .tank (t.w + total) false s.supply.bus
    · exact if_neg fun hx => hf hx.1
    · rfl

end Sys2Proof.Machine
end

section
/-! ## The bays, the tank and the module bus (Chapter 4; O35 to O40) -/

namespace Sys2Proof.Machine

open Sys2Proof

set_option Elab.async false

/-! ### The end of a bus operation -/

theorem busDue_read {u : Supply} {x : Target} {b : Bool} {rest : List BusOp} (h : u.bus = ⟨x, .read, b⟩ :: rest) :
    busDue u = u.busStart + 20 := by simp [busDue, h, Config.readTime]

theorem busDue_write {u : Supply} {x : Target} {v : Nat} {b : Bool} {rest : List BusOp} (h : u.bus = ⟨x, .write v, b⟩ :: rest) :
    busDue u = u.busStart + 12 := by simp [busDue, h, Config.writeTime]

section
variable {x : Target} {b : Bay} {v : Nat} {su acked : Bool} {answer : Option (List Byte)} {rest : List BusOp} {w : Work}

theorem busNext_eq {op : BusOp} (h : w.supply.bus = op :: rest) :
    busNext w = { w with supply := { w.supply with bus := rest, busStart := w.now } } := by simp [busNext, setSupply, h]

theorem busWritten_early (h : w.supply.bus = ⟨x, .write v, su⟩ :: rest) (ht : w.now < w.supply.busStart + 12) :
    busWritten acked w = w := by
  have hr : reached (busDue w.supply) w.now = false := by rw [busDue_write h, reached_false_iff]; exact ht
  simp [busWritten, h, hr]

theorem busWritten_bay (h : w.supply.bus = ⟨.bay b, .write v, su⟩ :: rest) (ht : w.supply.busStart + 12 ≤ w.now) :
    busWritten acked w
      = bayWritten b v acked { w with supply := { w.supply with bus := rest, busStart := w.now } } := by
  have hr : reached (busDue w.supply) w.now = true := by rw [busDue_write h, reached_iff]; exact ht
  rw [← busNext_eq h]
  simp [busWritten, h, hr]

theorem busRead_early (h : w.supply.bus = ⟨x, .read, su⟩ :: rest) (ht : w.now < w.supply.busStart + 20) :
    busRead answer w = w := by
  have hr : reached (busDue w.supply) w.now = false := by rw [busDue_read h, reached_false_iff]; exact ht
  simp [busRead, h, hr]

theorem busRead_bay (h : w.supply.bus = ⟨.bay b, .read, su⟩ :: rest) (ht : w.supply.busStart + 20 ≤ w.now) :
    busRead answer w = bayRead b answer { w with supply := { w.supply with bus := rest, busStart := w.now } } := by
  have hr : reached (busDue w.supply) w.now = true := by rw [busDue_read h, reached_iff]; exact ht
  rw [← busNext_eq h]
  simp [busRead, h, hr]

theorem busRead_tank (h : w.supply.bus = ⟨.tank, .read, su⟩ :: rest) (ht : w.supply.busStart + 20 ≤ w.now) :
    busRead answer w = tankRead answer { w with supply := { w.supply with bus := rest, busStart := w.now } } := by
  have hr : reached (busDue w.supply) w.now = true := by rw [busDue_read h, reached_iff]; exact ht
  rw [← busNext_eq h]
  simp [busRead, h, hr]

end

/-! ### Records of bays -/

@[simp] theorem bayRec_setBay_same (b : Bay) (r : BayRec) (w : Work) : bayRec (setBay b r w).supply b = r := by
  simp [bayRec]

theorem writeBack_of {b : Bay} {c : Cart} {w : Work} (h : (bayRec w.supply b).cart = some c) :
    writeBack b w = placeOp ⟨.bay b, .write c.remaining, false⟩ w := by simp only [writeBack, h]

/-! ### The end of a bay's write -/

/-- A failed write is placed again on a bus whose next operation has just started, or at once on an empty one (R88, R90). -/
theorem bayWritten_again {b : Bay} {v : Nat} {c : Cart} {w : Work} (hc : (bayRec w.supply b).cart = some c)
    (ha : (bayRec w.supply b).attempts = 0) (hn : w.supply.busStart = w.now) :
    bayWritten b v false w = { w with
      supply := { w.supply with
        bays := w.supply.bays.set b.chan ((w.supply.bays.get b.chan).set b.letter { bayRec w.supply b with attempts := 1 })
        bus := busJoin ⟨.bay b, .write c.remaining, false⟩ w.supply.bus } } := by
  have hw : bayWritten b v false w = writeBack b (setBay b { bayRec w.supply b with attempts := 1 } w) := by
    simp only [bayWritten, hc, ha, Option.isNone_some, Bool.false_eq_true, if_false, if_true]
  rw [hw, writeBack_of (c := c) (by rw [bayRec_setBay_same]; exact hc)]
  simp only [placeOp, setBay, setSupply, hn, ite_self]

/-- The second failure of a bay that is not ACTIVE (R90). -/
theorem bayWritten_fault {b : Bay} {v : Nat} {c : Cart} {w : Work} (hc : (bayRec w.supply b).cart = some c)
    (ha : (bayRec w.supply b).attempts ≠ 0) (hs : (bayRec w.supply b).state ≠ .active) :
    bayWritten b v false w = bayEvent b (setBay b (memoryFault (bayRec w.supply b)) w) := by
  simp only [bayWritten, hc, ha, hs, Option.isNone_some, Bool.false_eq_true, if_false]

theorem bayEvent_setBay (b : Bay) (r : BayRec) (w : Work) :
    bayEvent b (setBay b r w) = event .supply 0 (bayItems b r) (setBay b r w) := by
  rw [bayEvent, bayRec_setBay_same]

/-- Settles O40: a write acknowledged, a first failure and a second one. -/
theorem writeIsAcknowledgedOrTriedAgain : Obligations.WriteIsAcknowledgedOrTriedAgain := by
  intro s b v su acked rest c hs hbus hc
  refine ⟨fun hlt => occur_void hs (busWritten_early hbus hlt), fun hle => ⟨?_, fun ha => ?_, fun ha hst => ?_⟩⟩
  · exact occur_done hs Keeps.busWritten (busWritten_bay hbus hle) rfl
  · exact occur_done hs Keeps.busWritten ((busWritten_bay hbus hle).trans (bayWritten_again hc ha rfl)) rfl
  · exact occur_done hs Keeps.busWritten ((busWritten_bay hbus hle).trans
      ((bayWritten_fault hc ha hst).trans (bayEvent_setBay _ _ _))) rfl

/-! ### The tank's read -/

theorem tankRead_bad {answer : Option (List Byte)} {w : Work} (hs : w.supply.tank.state = .reading)
    (ha : answer.bind tankOf = none) :
    tankRead answer w = wasteGone (event .supply 7 [] (tankEvent (setTank (fun t => { t with state := .fault }) w))) := by
  have hb : (answer.bind fun bs => (tankOf bs).map fun c => (bs, c)) = none := by
    cases answer with
    | none => rfl
    | some bs => simpa using ha
  simp only [tankRead, hs, hb, ne_eq, not_true_eq_false, if_false]

theorem tankRead_good {bs : List Byte} {capacity content : Nat} {w : Work} (hs : w.supply.tank.state = .reading)
    (ht : tankOf bs = some (capacity, content)) (h1 : Config.tankMin ≤ capacity) (h2 : capacity ≤ Config.tankMax) :
    tankRead (some bs) w
      = wasteTake capacity content (tankEvent (setTank (fun t => { t with state := .present, image := bs }) w)) := by
  simp [tankRead, hs, ht, h1, h2]

theorem wasteTake_eq (capacity content : Nat) (w : Work) :
    wasteTake capacity content w
      = let x : WasteRec := ⟨min content capacity, capacity, min content capacity⟩
        { w with
          station := { w.station with waste := ⟨some x, w.station.waste.overflow, wasteLevelOf x.w x.capacity⟩ }
          outbox := w.outbox ++ levelNotices w.station.waste.level x } := by
  rw [wasteTake, wasteRelevel_eq rfl]

/-- Settles O39: the record is bad, or it gives W and C_w. -/
theorem tankReadGivesTheWaste : Obligations.TankReadGivesTheWaste := by
  intro s su rest answer hs hbus hst hle
  refine ⟨fun hbad => ?_, fun bs capacity content ha ht h1 h2 => ?_⟩
  · exact occur_done hs Keeps.busRead ((busRead_tank hbus hle).trans (tankRead_bad hst hbad)) rfl
  · subst ha
    exact occur_done hs Keeps.busRead ((busRead_tank hbus hle).trans ((tankRead_good hst ht h1 h2).trans
      (wasteTake_eq _ _ _))) rfl

/-! ### The ACTIVE bay of a channel -/

section
variable {u v : Supply} {b : Bay} {r : BayRec}

/-- A supply in which the record of one bay has been replaced. -/
def Supply.withBay (u : Supply) (b : Bay) (r : BayRec) : Supply :=
  { u with bays := u.bays.set b.chan ((u.bays.get b.chan).set b.letter r) }

theorem activeLetter_none_iff {ch : Chan} : activeLetter u ch = none ↔ ∀ l, (bayRec u ⟨ch, l⟩).state ≠ .active := by
  unfold activeLetter
  dsimp only
  constructor
  · intro h l
    split_ifs at h with ha hb
    cases l
    · exact ha
    · exact hb
  · intro h
    exact (if_neg (h .a)).trans (if_neg (h .b))

/-- The partner of an ACTIVE bay is not ACTIVE where bay A is looked at first (R81). -/
theorem activeLetter_of {ch : Chan} {l : Letter} (h : (bayRec u ⟨ch, l⟩).state = .active)
    (ho : (bayRec u ⟨ch, l.other⟩).state ≠ .active) : activeLetter u ch = some l := by
  unfold activeLetter
  dsimp only
  cases l
  · exact if_pos h
  · exact (if_neg ho).trans (if_pos h)

@[simp] theorem bayRec_withBay_same : bayRec (u.withBay b r) b = r := by simp [bayRec, Supply.withBay]

@[simp] theorem bayRec_withBay_other : bayRec (u.withBay b r) ⟨b.chan, b.letter.other⟩ = bayRec u ⟨b.chan, b.letter.other⟩ := by
  obtain ⟨ch, l⟩ := b
  cases l <;> simp [bayRec, Supply.withBay, Letter.other, Bays.get, Bays.set]

theorem Letter.eq_or_other (l m : Letter) : m = l ∨ m = l.other := by cases l <;> cases m <;> decide

@[simp] theorem Letter.other_other (l : Letter) : l.other.other = l := by cases l <;> rfl

/-- A bay that neither was ACTIVE nor becomes it leaves the ACTIVE bay. -/
theorem activeLetter_withBay (hb : (bayRec u b).state ≠ .active) (hr : r.state ≠ .active) :
    activeLetter (u.withBay b r) b.chan = activeLetter u b.chan := by
  by_cases h : (bayRec u ⟨b.chan, b.letter.other⟩).state = .active
  · rw [activeLetter_of (l := b.letter.other) (by simpa using h) (by simpa using hr),
      activeLetter_of h (by simpa using hb)]
  · rw [activeLetter_none_iff.mpr, activeLetter_none_iff.mpr]
    all_goals
      intro m
      obtain rfl | rfl := Letter.eq_or_other b.letter m
    · simpa using hb
    · exact h
    · simpa using hr
    · simpa using h

theorem activeLetter_withBay_active (hb : activeLetter u b.chan = none) (hr : r.state = .active) :
    activeLetter (u.withBay b r) b.chan = some b.letter :=
  activeLetter_of (by simpa using hr) (by simpa using activeLetter_none_iff.mp hb b.letter.other)

theorem activeParams_withBay (hl : activeLetter u b.chan = some b.letter.other) (hb : (bayRec u b).state ≠ .active)
    (hr : r.state ≠ .active) : activeParams (u.withBay b r) b.chan = activeParams u b.chan := by
  simp only [activeParams, activeLetter_withBay hb hr, hl, bayRec_withBay_other]
  rfl

theorem activeParams_of {ch : Chan} {l : Letter} {i : Nat} {e : Accept} (hl : activeLetter u ch = some l)
    (hi : (bayRec u ⟨ch, l⟩).entry = some i) (he : u.accepts[i]? = some e) : activeParams u ch = some e.params := by
  simp [activeParams, hl, hi, he]

theorem activeParams_none {ch : Chan} (hl : activeLetter u ch = none) : activeParams u ch = none := by
  simp only [activeParams, hl]

end

/-! ### What follows a change of the bays (R82, R83) -/

theorem takeParams_same {ch : Chan} {w : Work}
    (h : activeParams w.supply ch = none ∨ activeParams w.supply ch = some (w.supply.params.get ch)) : takeParams ch w = w := by
  obtain h | h := h <;> simp [takeParams, h]

theorem setSupplied_same {ch : Chan} {w : Work} (h : (activeLetter w.supply ch).isSome = w.supply.supplied.get ch) :
    setSupplied ch w = w := by simp [setSupplied, h]

theorem judged_same {ch : Chan} {w : Work}
    (h : activeParams w.supply ch = none ∨ activeParams w.supply ch = some (w.supply.params.get ch))
    (hs : (activeLetter w.supply ch).isSome = w.supply.supplied.get ch) : judged ch w = w := by
  rw [judged, takeParams_same h, setSupplied_same hs]

/-- A channel gains its supply (R83, R98). -/
theorem setSupplied_gained {ch : Chan} {w : Work} (h : (activeLetter w.supply ch).isSome = true)
    (hs : w.supply.supplied.get ch = false) :
    setSupplied ch w = { w with
      supply := { w.supply with supplied := w.supply.supplied.set ch true }
      agenda := w.agenda ++ [.inkChanged ch .supply, .requestLook ch]
      outbox := w.outbox ++ [eventNotice .supply 2 (u8 ch.num ++ u8 0)] } := by
  have hn : (activeLetter w.supply ch).isSome ≠ w.supply.supplied.get ch := by rw [h, hs]; decide
  unfold setSupplied
  dsimp only
  rw [if_neg hn, h, when_true]
  simp only [post, List.append_assoc]
  rfl

/-- A channel loses its supply (R83). -/
theorem setSupplied_lost {ch : Chan} {w : Work} (h : activeLetter w.supply ch = none)
    (hs : w.supply.supplied.get ch = true) :
    setSupplied ch w = { w with
      supply := { w.supply with supplied := w.supply.supplied.set ch false }
      agenda := w.agenda ++ [.inkChanged ch .supply]
      outbox := w.outbox ++ [eventNotice .supply 2 (u8 ch.num ++ u8 1)] } := by
  have hn : (activeLetter w.supply ch).isSome ≠ w.supply.supplied.get ch := by rw [h, hs]; decide
  unfold setSupplied
  dsimp only
  rw [if_neg hn, h, Option.isSome_none, when_false]
  rfl

/-! ### The end of a bay's read -/

theorem bayRead_eq {b : Bay} {answer : Option (List Byte)} {r : BayRec} {w : Work} (hs : (bayRec w.supply b).state = .reading)
    (hr : bayAfterRead w.supply b (bayRec w.supply b) answer = r) :
    bayRead b answer w = judged b.chan
      { w with supply := w.supply.withBay b r, outbox := w.outbox ++ [eventNotice .supply 0 (bayItems b r)] } := by
  have hne : ¬ (bayRec w.supply b).state ≠ .reading := not_not_intro hs
  rw [bayRead, if_neg hne, hr, bayEvent_setBay]
  rfl

theorem bayAfterRead_bad {u : Supply} {b : Bay} {r : BayRec} {answer : Option (List Byte)} (h : answer.bind cartOf = none) :
    bayAfterRead u b r answer = memoryFault r := by
  have hb : (answer.bind fun bs => (cartOf bs).map fun c => (bs, c)) = none := by
    cases answer with
    | none => rfl
    | some bs => simpa using h
  simp only [bayAfterRead, hb]

theorem bayAfterRead_accepted {u : Supply} {b : Bay} {r : BayRec} {bs : List Byte} {c : Cart} {i : Nat} (h : cartOf bs = some c)
    (hp : cartPossible c = true) (hs : Config.strokeVolume ≤ c.remaining) (hv : verdict u.accepts c.ink b.chan = some i) :
    bayAfterRead u b r (some bs)
      = { r with
          cart := some c, image := bs, entry := some i
          state := if (activeLetter u b.chan).isSome then .standby else .active } := by
  simp [bayAfterRead, h, hp, Nat.not_lt.mpr hs, hv]

/-- Nobody acts on a supply state that returns: no sheet, no service, an E above the refill threshold, a settle interval of 0
(R83, R98, R100, R103). -/
theorem drain_gained {ch : Chan} {w : Work} (ha : w.agenda = [.inkChanged ch .supply, .requestLook ch])
    (hp : w.sheet.phase = .none) (hb : w.sheet.abort = none) (hv : w.station.service = none)
    (he : Config.refillThreshold ≤ (chanRec w.toState ch).e) (hs : (w.supply.params.get ch).settle = 0) :
    drain 3 w = some { w with agenda := [] } := by
  have hlook : deliver (.requestLook ch) { w with agenda := [] } = { w with agenda := [.stirLook ch] } := by
    exact congrArg (post (.stirLook ch)) (lookRefill_full (w := { w with agenda := [] }) he)
  have hstir : deliver (.stirLook ch) { w with agenda := [] } = { w with agenda := [] } := by
    change stirLook ch { w with agenda := [] } = _
    rw [stirLook_last (by simp)]
    simp [lookStir, stirWanted, hs]
  exact drain_step ha (inkChanged_unheard hp hb hv) (drain_step rfl hlook (drain_step rfl hstir (drain_nil 0 rfl)))

/-- Settles O38: FAULT, STANDBY and ACTIVE. -/
theorem readPlacesTheCartridge : Obligations.ReadPlacesTheCartridge := by
  intro s b su rest answer hs hbus hst
  have hna : (bayRec s.supply b).state ≠ .active := by rw [hst]; decide
  let u : Supply := { s.supply with bus := rest, busStart := s.now }
  refine ⟨fun hlt => occur_void hs (busRead_early hbus hlt), fun hle => ⟨fun hbad hact hsup => ?_, ?_⟩⟩
  · have hl : activeLetter (u.withBay b (memoryFault (bayRec s.supply b))) b.chan = none :=
      (activeLetter_withBay hna (show BayState.fault ≠ .active by decide)).trans hact
    exact occur_done hs Keeps.busRead ((busRead_bay hbus hle).trans ((bayRead_eq hst (bayAfterRead_bad hbad)).trans
      (judged_same (.inl (activeParams_none hl)) ((congrArg Option.isSome hl).trans hsup.symm)))) rfl
  · intro bs c i e ha hc h1 h2 h3 h4 hv he
    subst ha
    have hposs : cartPossible c = true := by simp [cartPossible, Config.cartMin, Config.cartMax, h1, h2, h3]
    have hrec := bayAfterRead_accepted (r := bayRec s.supply b) hc hposs h4 hv
    refine ⟨fun hact hsup hpar => ?_, fun hact hsup hpar hset hfull hp hab hsv => ?_⟩
    · rw [hact, Option.isSome_some, if_pos rfl] at hrec
      have hstandby : BayState.standby ≠ .active := by decide
      exact occur_done hs Keeps.busRead ((busRead_bay hbus hle).trans ((bayRead_eq hst hrec).trans (judged_same
        (.inr ((activeParams_withBay (u := u) hact hna hstandby).trans hpar))
        ((congrArg Option.isSome ((activeLetter_withBay (u := u) hna hstandby).trans hact)).trans hsup.symm)))) rfl
    · rw [hact, Option.isSome_none, if_neg Bool.false_ne_true] at hrec
      let r : BayRec := { bayRec s.supply b with cart := some c, image := bs, entry := some i, state := .active }
      have hl : activeLetter (u.withBay b r) b.chan = some b.letter := activeLetter_withBay_active hact rfl
      have hpar' : activeParams (u.withBay b r) b.chan = some (s.supply.params.get b.chan) :=
        (activeParams_of (i := i) hl (congrArg BayRec.entry bayRec_withBay_same) he).trans (congrArg some hpar)
      have hjudged := (congrArg (setSupplied b.chan) (takeParams_same (w := { Work.of s with
        supply := u.withBay b r, outbox := [eventNotice .supply 0 (bayItems b r)] }) (.inr hpar'))).trans
          (setSupplied_gained (congrArg Option.isSome hl) hsup)
      exact occur_from hs Keeps.busRead ((busRead_bay hbus hle).trans ((bayRead_eq hst hrec).trans hjudged))
        (drain_gained rfl hp hab hsv hfull (hpar ▸ hset)) (by decide)

/-! ### The presence switches -/

theorem busJoin_read_new {x : Target} {su : Bool} {q : List BusOp} (h : ∀ o ∈ q, o.target ≠ x) :
    busJoin ⟨x, .read, su⟩ q = q ++ [⟨x, .read, su⟩] := by
  cases q with
  | nil => rfl
  | cons head waiting =>
    have hany : (head :: waiting).any (BusOp.sameKind ⟨x, .read, su⟩) = false := by
      simp only [List.any_eq_false, BusOp.sameKind]
      intro o ho
      simp [(h o ho).symm]
    simp only [busJoin, hany, Bool.false_eq_true, if_false]

/-- A read placed where none waits for its target. -/
theorem placeOp_read_new {x : Target} {su : Bool} {w : Work} (h : ∀ o ∈ w.supply.bus, o.target ≠ x) :
    placeOp ⟨x, .read, su⟩ w = { w with
      supply := { w.supply with
        bus := w.supply.bus ++ [⟨x, .read, su⟩]
        busStart := if w.supply.bus.isEmpty then w.now else w.supply.busStart } } := by
  simp only [placeOp, setSupply, busJoin_read_new h]

theorem insertBay_vacant {su : Bool} {b : Bay} {w : Work} (hv : (bayRec w.supply b).state = .vacant)
    (h : ∀ o ∈ w.supply.bus, o.target ≠ .bay b) :
    insertBay su b w = { w with
      supply := { w.supply.withBay b { bayRec w.supply b with state := .reading } with
        bus := w.supply.bus ++ [⟨.bay b, .read, su⟩]
        busStart := if w.supply.bus.isEmpty then w.now else w.supply.busStart }
      outbox := w.outbox ++ [eventNotice .supply 0 (bayBytes b ++ u8 1)] } := by
  have hitems : bayRec (w.supply.withBay b { bayRec w.supply b with state := .reading }) b
      = { bayRec w.supply b with state := .reading } := bayRec_withBay_same
  rw [insertBay, if_pos hv, setBayState,
    placeOp_read_new (w := setBay b { bayRec w.supply b with state := .reading } w) h]
  exact congrArg (fun r => event .supply 0 (bayItems b r) { w with
    supply := { w.supply.withBay b { bayRec w.supply b with state := .reading } with
      bus := w.supply.bus ++ [⟨.bay b, .read, su⟩]
      busStart := if w.supply.bus.isEmpty then w.now else w.supply.busStart } }) hitems

theorem insertBay_there {su : Bool} {b : Bay} {w : Work} (h : (bayRec w.supply b).state ≠ .vacant) : insertBay su b w = w :=
  if_neg h

/-- The pump hears that a bay has been taken out (R74). -/
def Pump.bayTaken (b : Bay) (p : Pump) : Pump :=
  { p with op := p.op.map fun o => if o.bay = b then { o with bayGone := true, changed := true } else o }

theorem tellRemoved_eq (b : Bay) (w : Work) : tellRemoved b w = { w with pump := w.pump.bayTaken b } := by
  unfold tellRemoved Pump.bayTaken
  cases h : w.pump.op with
  | none =>
    dsimp only [Option.map_none]
    rw [← h]
  | some op =>
    dsimp only [Option.map_some]
    split
    · rfl
    · rw [← h]

/-- A bay taken out: its record is empty, its operations are dropped, and the host is told (R74). -/
def emptied (b : Bay) (w : Work) : Work := event .supply 0 (bayBytes b ++ u8 0) (busDrop (.bay b) (setBay b BayRec.vacant w))

theorem removeBay_gone {b : Bay} {w : Work} (h : (bayRec w.supply b).state = .vacant) : removeBay b w = w := if_pos h

theorem bayEvent_emptied (b : Bay) (w : Work) : bayEvent b (busDrop (.bay b) (setBay b BayRec.vacant w)) = emptied b w := by
  have h : bayRec (busDrop (.bay b) (setBay b BayRec.vacant w)).supply b = BayRec.vacant := bayRec_setBay_same b _ w
  rw [bayEvent, h]
  rfl

theorem removeBay_idle {b : Bay} {w : Work} (h : (bayRec w.supply b).state ≠ .vacant) (ha : (bayRec w.supply b).state ≠ .active) :
    removeBay b w = emptied b w := by
  rw [removeBay, if_neg h, bayEvent_emptied, if_neg ha]

theorem removeBay_active {b : Bay} {w : Work} (h : (bayRec w.supply b).state = .active) :
    removeBay b w = judged b.chan (select b.chan (some b.letter) { emptied b w with pump := w.pump.bayTaken b }) := by
  have hv : (bayRec w.supply b).state ≠ .vacant := by rw [h]; decide
  rw [removeBay, if_neg hv, bayEvent_emptied, if_pos h, tellRemoved_eq]
  rfl

/-! ### A bay has left ACTIVE: its partner, or nobody -/

theorem select_partner {ch : Chan} {l : Letter} {w : Work} (h : (bayRec w.supply ⟨ch, l.other⟩).state = .standby) :
    select ch (some l) w = toggleEvent ch (some l) l.other (setBayState ⟨ch, l.other⟩ .active w) := by
  have hs : selectionOf (w.supply.bays.get ch) (some l) = some l.other := if_pos h
  rw [select, hs]

theorem select_nobody {ch : Chan} {l : Letter} {w : Work} (h : (bayRec w.supply ⟨ch, l.other⟩).state ≠ .standby) :
    select ch (some l) w = w := by
  have hs : selectionOf (w.supply.bays.get ch) (some l) = none := if_neg h
  rw [select, hs]

/-- The partner, with the same parameters, becomes ACTIVE (R81, R82). -/
theorem judged_select_partner {ch : Chan} {l : Letter} {p : BayRec} {w : Work} (hp : bayRec w.supply ⟨ch, l.other⟩ = p)
    (hst : p.state = .standby) (hl : activeLetter w.supply ch = none) (hs : w.supply.supplied.get ch = true)
    (hpar : p.entry.bind (fun i => (w.supply.accepts[i]?).map Accept.params) = some (w.supply.params.get ch)) :
    judged ch (select ch (some l) w) = { w with
      supply := w.supply.withBay ⟨ch, l.other⟩ { p with state := .active }
      outbox := w.outbox ++ [eventNotice .supply 1 (u8 ch.num ++ bayBytes ⟨ch, l⟩ ++ bayBytes ⟨ch, l.other⟩)] } := by
  subst hp
  let r : BayRec := { bayRec w.supply ⟨ch, l.other⟩ with state := .active }
  have hactive : activeLetter (w.supply.withBay ⟨ch, l.other⟩ r) ch = some l.other :=
    activeLetter_withBay_active (b := ⟨ch, l.other⟩) hl rfl
  obtain ⟨i, hi, he⟩ := Option.bind_eq_some_iff.mp hpar
  obtain ⟨e, he, hparams⟩ := Option.map_eq_some_iff.mp he
  have hact : activeParams (w.supply.withBay ⟨ch, l.other⟩ r) ch = some (w.supply.params.get ch) :=
    (activeParams_of hactive ((congrArg BayRec.entry bayRec_withBay_same).trans hi) he).trans (congrArg some hparams)
  rw [select_partner hst]
  exact judged_same (.inr hact) ((congrArg Option.isSome hactive).trans hs.symm)

/-- Nothing takes its place: the channel is STARVED (R81, R83). -/
theorem judged_select_nobody {ch : Chan} {l : Letter} {w : Work} (hst : (bayRec w.supply ⟨ch, l.other⟩).state ≠ .standby)
    (hl : activeLetter w.supply ch = none) (hs : w.supply.supplied.get ch = true) :
    judged ch (select ch (some l) w) = { w with
      supply := { w.supply with supplied := w.supply.supplied.set ch false }
      agenda := w.agenda ++ [.inkChanged ch .supply]
      outbox := w.outbox ++ [eventNotice .supply 2 (u8 ch.num ++ u8 1)] } := by
  rw [select_nobody hst, judged, takeParams_same (.inl (activeParams_none hl)), setSupplied_lost hl hs]

theorem bayRec_emptied_other (b : Bay) (w : Work) :
    bayRec (emptied b w).supply ⟨b.chan, b.letter.other⟩ = bayRec w.supply ⟨b.chan, b.letter.other⟩ :=
  bayRec_withBay_other (u := w.supply) (r := BayRec.vacant)

theorem activeLetter_emptied {b : Bay} {w : Work} (h : (bayRec w.supply ⟨b.chan, b.letter.other⟩).state ≠ .active) :
    activeLetter (emptied b w).supply b.chan = none := by
  refine activeLetter_none_iff.mpr fun m => ?_
  obtain rfl | rfl := Letter.eq_or_other b.letter m
  · have hb : bayRec (emptied b w).supply b = BayRec.vacant := bayRec_withBay_same
    exact fun hm => absurd (congrArg BayRec.state hb ▸ hm) (by decide)
  · rw [bayRec_emptied_other]
    exact h

/-- The bays after an ACTIVE bay has been taken out for its partner. -/
theorem withBay_emptied (b : Bay) (r : BayRec) (w : Work) :
    (emptied b w).supply.withBay ⟨b.chan, b.letter.other⟩ r = { (emptied b w).supply with
      bays := w.supply.bays.set b.chan (((w.supply.bays.get b.chan).set b.letter BayRec.vacant).set b.letter.other r) } := by
  simp [Supply.withBay, emptied, busDrop, setSupply]

/-- Settles O37. -/
theorem switchesFillAndEmptyTheBays : Obligations.SwitchesFillAndEmptyTheBays := by
  intro s hs dropped
  refine ⟨fun b => ⟨fun hv hbus => ?_, fun hv => ?_, fun hv ha => ?_, fun ha hsup => ⟨fun hst hpar => ?_,
    fun hst hna hp hab hsv => ?_⟩, fun hv => ?_⟩, fun ha hbus => ?_, fun ha => ⟨?_, ?_⟩, fun ha => ?_⟩
  · exact occur_done hs Keeps.insertBay (insertBay_vacant hv hbus) rfl
  · exact occur_void hs (insertBay_there hv)
  · exact occur_done hs Keeps.removeBay (removeBay_idle hv ha) rfl
  · have hna : (bayRec s.supply ⟨b.chan, b.letter.other⟩).state ≠ .active := by rw [hst]; decide
    have hswap := judged_select_partner (w := { emptied b (Work.of s) with pump := s.pump.bayTaken b })
      (bayRec_emptied_other b (Work.of s)) hst (activeLetter_emptied hna) hsup hpar
    rw [withBay_emptied] at hswap
    exact occur_done hs Keeps.removeBay ((removeBay_active ha).trans hswap) rfl
  · have hlost := judged_select_nobody (w := { emptied b (Work.of s) with pump := s.pump.bayTaken b })
      (fun hx => hst (congrArg BayRec.state (bayRec_emptied_other b (Work.of s)) ▸ hx)) (activeLetter_emptied hna) hsup
    exact occur_unheard hs Keeps.removeBay ((removeBay_active ha).trans hlost) rfl (inkChanged_unheard hp hab hsv)
  · exact occur_void hs (removeBay_gone hv)
  · exact occur_done hs Keeps.insertTank ((if_pos ha).trans (congrArg tankEvent
      (placeOp_read_new (w := setTank (fun t => { t with state := .reading }) (Work.of s)) hbus))) rfl
  · exact occur_void hs (if_neg ha)
  · exact occur_done hs Keeps.removeTank (if_neg ha) rfl
  · exact occur_void hs (if_pos ha)

/-! ### BAY_SELECT -/

section
variable {ch : Chan} {l : Letter} {w : Work}

theorem baySelect_there (h : (bayRec w.supply ⟨ch, l⟩).state = .active) : baySelect ch.num l.num w = okWith [] w := by
  simp [baySelect, h]

theorem baySelect_pumping (h : (bayRec w.supply ⟨ch, l⟩).state = .standby) (hp : opOn w.pump ch = true) :
    baySelect ch.num l.num w = refuse .busy w := by
  have hp' : (w.pump.op.any fun o => o.chan = ch) = true := hp
  simp only [baySelect, Chan.ofNum_num, Letter.ofNum_num, h, hp', if_true]
  rfl

/-- Parameters taken that ask for nothing else (R82). -/
theorem takeParams_plain {p : Params} (h : activeParams w.supply ch = some p) (hk : p.keepWet = (w.supply.params.get ch).keepWet)
    (hs : p.settle ≠ 0) : takeParams ch w = { w with supply := { w.supply with params := w.supply.params.set ch p } } := by
  by_cases hp : p = w.supply.params.get ch
  · rw [takeParams_same (.inr (h.trans (congrArg some hp))), hp, Chans.set_get]
  · simp [takeParams, h, hp, handParams, hk, hs, setSupply]

/-- A STANDBY bay and the ACTIVE one change places (R84). -/
theorem baySelect_swap (h : (bayRec w.supply ⟨ch, l⟩).state = .standby) (ho : (bayRec w.supply ⟨ch, l.other⟩).state = .active)
    (hp : opOn w.pump ch = false) :
    baySelect ch.num l.num w = setSupplied ch (writeBack ⟨ch, l.other⟩ (takeParams ch
      (toggleEvent ch (some l.other) l (setBayState ⟨ch, l⟩ .active (setBayState ⟨ch, l.other⟩ .standby (okWith [] w)))))) := by
  have hp' : (w.pump.op.any fun o => o.chan = ch) = false := hp
  have hl : activeLetter w.supply ch = some l.other :=
    activeLetter_of ho (by rw [Letter.other_other, h]; decide)
  simp only [baySelect, Chan.ofNum_num, Letter.ofNum_num, h, hp', hl]
  rfl

/-- The two records of a channel whose bays have changed places. -/
def swappedBays (u : Supply) (ch : Chan) (l : Letter) : Bays BayRec :=
  ((u.bays.get ch).set l.other { bayRec u ⟨ch, l.other⟩ with state := .standby }).set l { bayRec u ⟨ch, l⟩ with state := .active }

theorem setBayState_swapped : setBayState ⟨ch, l⟩ .active (setBayState ⟨ch, l.other⟩ .standby w)
    = { w with supply := { w.supply with bays := w.supply.bays.set ch (swappedBays w.supply ch l) } } := by
  cases l <;> simp [setBayState, setBay, setSupply, bayRec, Letter.other, Bays.get, Bays.set, swappedBays]

theorem bayRec_swapped {u v : Supply} (hv : v.bays = u.bays.set ch (swappedBays u ch l)) :
    bayRec v ⟨ch, l⟩ = { bayRec u ⟨ch, l⟩ with state := .active } := by
  simp [bayRec, hv, swappedBays]

theorem bayRec_swapped_other {u v : Supply} (hv : v.bays = u.bays.set ch (swappedBays u ch l)) :
    bayRec v ⟨ch, l.other⟩ = { bayRec u ⟨ch, l.other⟩ with state := .standby } := by
  cases l <;> simp [bayRec, hv, swappedBays, Letter.other, Bays.get, Bays.set]

theorem activeLetter_swapped {u v : Supply} (hv : v.bays = u.bays.set ch (swappedBays u ch l)) : activeLetter v ch = some l :=
  activeLetter_of (congrArg BayRec.state (bayRec_swapped hv)) (by simp [bayRec_swapped_other hv])

end

/-- Settles O36: there already, the pump at work for the channel, or the two bays change places. -/
theorem baySelectSwapsTheBays : Obligations.BaySelectSwapsTheBays := by
  intro s tag ch l h
  refine ⟨fun ha => ?_, fun hst hp => ?_, fun i e old hst hi he ho hc hp hsup hk hse => ?_⟩
  · exact ask_decided (q := ⟨0x12, tag, .baySelect ch.num l.num⟩) h rfl (baySelect_there ha) rfl rfl
  · exact ask_decided (q := ⟨0x12, tag, .baySelect ch.num l.num⟩) h rfl (baySelect_pumping hst hp) rfl rfl
  · let v : Supply := { s.supply with bays := s.supply.bays.set ch (swappedBays s.supply ch l) }
    let u : Supply := { v with params := s.supply.params.set ch e.params }
    let x : Work := { okWith [] (Work.of s) with
      supply := v, outbox := [eventNotice .supply 1 (u8 ch.num ++ bayBytes ⟨ch, l.other⟩ ++ bayBytes ⟨ch, l⟩)] }
    have hpar : activeParams v ch = some e.params :=
      activeParams_of (i := i) (activeLetter_swapped rfl) ((congrArg BayRec.entry (bayRec_swapped rfl)).trans hi) he
    have hbays := congrArg (toggleEvent ch (some l.other) l) (setBayState_swapped (ch := ch) (l := l) (w := okWith [] (Work.of s)))
    have htake : takeParams ch x = { x with supply := u } := takeParams_plain (w := x) hpar hk hse
    have hback := writeBack_of (b := ⟨ch, l.other⟩) (c := old) (w := { x with supply := u })
      ((congrArg BayRec.cart (bayRec_swapped_other (v := u) rfl)).trans hc)
    have hsame : setSupplied ch (placeOp ⟨.bay ⟨ch, l.other⟩, .write old.remaining, false⟩ { x with supply := u })
        = placeOp ⟨.bay ⟨ch, l.other⟩, .write old.remaining, false⟩ { x with supply := u } :=
      setSupplied_same ((congrArg Option.isSome (activeLetter_swapped (v := u) rfl)).trans hsup.symm)
    have hw : baySelect ch.num l.num (Work.of s)
        = placeOp ⟨.bay ⟨ch, l.other⟩, .write old.remaining, false⟩ { x with supply := u } := by
      rw [baySelect_swap hst ho hp, hbays, ← hsame, ← hback, ← htake]
      rfl
    exact ask_decided (q := ⟨0x12, tag, .baySelect ch.num l.num⟩) h rfl hw rfl rfl

/-! ### The re-evaluation (R79) -/

section
variable {ch : Chan} {w : Work}

@[simp] theorem when_supply_bays {c : Bool} {f : Work → Work} (h : (f w).supply.bays = w.supply.bays) :
    (when c f w).supply.bays = w.supply.bays := by cases c <;> simp [h]

@[simp] theorem writeBack_bays (b : Bay) : (writeBack b w).supply.bays = w.supply.bays := by
  unfold writeBack
  split <;> rfl

@[simp] theorem tellChanged_bays : (tellChanged ch w).supply.bays = w.supply.bays := by
  unfold tellChanged
  split
  · split <;> rfl
  · rfl

theorem dropStir_bays : (dropStir ch w).supply.bays = w.supply.bays := by
  unfold dropStir
  split <;> rfl

theorem handParams_bays (p : Params) : (handParams ch p w).supply.bays = w.supply.bays := by
  unfold handParams
  dsimp only
  rw [when_supply_bays rfl, when_supply_bays dropStir_bays]
  rfl

theorem setSupplied_bays : (setSupplied ch w).supply.bays = w.supply.bays := by
  unfold setSupplied
  dsimp only
  split
  · rfl
  · rw [when_supply_bays rfl]
    rfl

@[simp] theorem judged_bays : (judged ch w).supply.bays = w.supply.bays := by
  rw [judged, setSupplied_bays, takeParams]
  split
  · split
    · rfl
    · exact handParams_bays _
  · rfl

theorem standby_of_selectionOf {b : Bays BayRec} {left : Option Letter} {l : Letter} (h : selectionOf b left = some l) :
    (b.get l).state = .standby := by
  unfold selectionOf at h
  split at h
  · split_ifs at h with hs
    cases h
    exact hs
  · split_ifs at h with ha hb <;> cases h
    · exact ha
    · exact hb

/-- The two bays of a channel, judged against the table. -/
def rejudged (table : List Accept) (ch : Chan) (b : Bays BayRec) : Bays BayRec := ⟨rejudge table ch b.a, rejudge table ch b.b⟩

theorem rejudged_get (table : List Accept) (b : Bays BayRec) (l : Letter) :
    (rejudged table ch b).get l = rejudge table ch (b.get l) := by cases l <;> rfl

/-- The bays that a re-evaluation leaves: judged, and at most a STANDBY one of them made ACTIVE. -/
theorem reevaluate_bays : ∃ b : Bays BayRec, (reevaluate ch w).supply.bays = w.supply.bays.set ch b ∧
    ∀ l, let r := rejudge w.supply.accepts ch ((w.supply.bays.get ch).get l)
      b.get l = r ∨ r.state = .standby ∧ b.get l = { r with state := .active } := by
  unfold reevaluate
  extract_lets old wasActive b w1 still left chosen w2 new w3 w4 w5 w6 w7
  have h5 : w5.supply.bays = w4.supply.bays := by
    simp only [w5]
    cases chosen <;> rfl
  have h6 : w6.supply.bays = w5.supply.bays := by
    simp only [w6]
    cases left <;> simp
  have hbays : (judged ch w7).supply.bays = w2.supply.bays := by
    rw [judged_bays, when_supply_bays tellChanged_bays, h6, h5, when_supply_bays rfl, when_supply_bays rfl]
  have hget (l : Letter) : b.get l = rejudge w.supply.accepts ch (old.get l) := rejudged_get _ _ l
  have hw1 : w1.supply.bays = w.supply.bays.set ch b := rfl
  rw [hbays]
  cases hc : chosen with
  | none =>
    refine ⟨b, ?_, fun l => .inl (hget l)⟩
    simp only [w2, hc, hw1]
  | some l =>
    refine ⟨b.set l { b.get l with state := .active }, ?_, fun m => ?_⟩
    · simp only [w2, hc, setBayState, setBay_supply, bayRec, hw1, Chans.get_set_same, Chans.set_set]
    · have hsel : selectionOf b left = some l := by
        simp only [chosen] at hc
        split_ifs at hc
        exact hc
      dsimp only
      rw [Bays.get_set]
      split
      case isTrue hm =>
        subst hm
        exact .inr ⟨hget m ▸ standby_of_selectionOf hsel, by rw [← hget m]⟩
      case isFalse => exact .inl (hget m)

theorem rejudge_cases (table : List Accept) (ch : Chan) (r : BayRec) :
    (r.unjudged ∧ rejudge table ch r = r) ∨ (¬ r.unjudged ∧ ∀ c, r.cart = some c →
      (rejudge table ch r).cart = some c ∧ (rejudge table ch r).entry = verdict table c.ink ch
        ∧ (verdict table c.ink ch = none → (rejudge table ch r).state = .rejected)
        ∧ ∀ i, verdict table c.ink ch = some i →
          (rejudge table ch r).state = if r.state = .rejected then .standby else r.state) := by
  by_cases h : r.unjudged
  · exact .inl ⟨h, rejudge_unjudged h⟩
  · refine .inr ⟨h, fun c hc => ?_⟩
    have hj : (r.state = .active || r.state = .standby || r.state = .rejected) = true := by
      simp only [Bool.or_eq_true, decide_eq_true_eq]
      unfold BayRec.unjudged at h
      tauto
    rw [rejudge, if_pos hj, hc]
    cases hv : verdict table c.ink ch <;> simp [hv]

end

/-- Settles O35: a bay is left, or has its verdict, and only a STANDBY one is made ACTIVE by the selection. -/
theorem reevaluationJudgesTheChannel : Obligations.ReevaluationJudgesTheChannel := by
  intro w ch t
  obtain ⟨b, hb, hrec⟩ := reevaluate_bays (ch := ch) (w := w)
  refine ⟨fun x hx => ?_, fun l => ?_⟩
  · exact congrArg (fun y : Bays BayRec => y.get x.letter)
      ((congrArg (fun y : Chans (Bays BayRec) => y.get x.chan) hb).trans (Chans.get_set_other _ _ hx))
  · intro old new
    have hnew : new = b.get l := congrArg (fun y : Bays BayRec => y.get l)
      ((congrArg (fun y : Chans (Bays BayRec) => y.get ch) hb).trans (Chans.get_set_same _ _ _))
    have hr := hrec l
    dsimp only at hr
    rw [← hnew] at hr
    change new = rejudge w.supply.accepts ch old ∨ (rejudge w.supply.accepts ch old).state = .standby
      ∧ new = { rejudge w.supply.accepts ch old with state := .active } at hr
    obtain ⟨hu, hj⟩ | ⟨hu, hj⟩ := rejudge_cases w.supply.accepts ch old
    · rw [hj] at hr
      obtain hr | ⟨hst, -⟩ := hr
      · refine ⟨fun _ => hr, fun c _ hx => ?_⟩
        exact absurd hx (by rintro (h | h | h) <;> simp_all [BayRec.unjudged])
      · exact absurd hst hu.2.1
    · refine ⟨fun hx => absurd ?_ hu, fun c hc hx => ?_⟩
      · obtain h | h | h | h := hx <;> exact ⟨by rw [h]; decide, by rw [h]; decide, by rw [h]; decide⟩
      · obtain ⟨hcart, hentry, hnone, hsome⟩ := hj c hc
        obtain hr | ⟨hst, hr⟩ := hr
        · rw [hr]
          refine ⟨hcart, hentry, hnone, fun i hi => ?_, fun i hi ha => ?_⟩
          · rw [hsome i hi]
            obtain h | h | h := hx <;> simp [h]
          · rw [hsome i hi, ha]
            rfl
        · rw [hr]
          refine ⟨hcart, hentry, fun hv => ?_, fun i hi => .inl rfl, fun i hi ha => rfl⟩
          rw [hnone hv] at hst
          cases hst

end Sys2Proof.Machine
end

section
/-! ## Pump requests: how they start, merge, wait and age (R100 to R106; O42) -/

namespace Sys2Proof.Machine

open Sys2Proof

set_option Elab.async false

/-! ### The arbiter -/

theorem better_asymm {x y : PumpReq} (h : better x y = true) : better y x = false := by
  simp only [better, Bool.or_eq_true, Bool.and_eq_true, decide_eq_true_eq, Bool.or_eq_false_iff, Bool.and_eq_false_iff,
    decide_eq_false_iff_not] at h ⊢
  omega

theorem mem_of_bestOf {l : List PumpReq} {b : PumpReq} (h : bestOf l = some b) : b ∈ l := by
  induction l generalizing b with
  | nil => cases h
  | cons y rest ih =>
    rw [bestOf] at h
    split at h
    next c hc =>
      split at h
      · cases h
        exact List.mem_cons_of_mem _ (ih hc)
      · cases h
        exact List.mem_cons_self
    next => 
      cases h
      exact List.mem_cons_self

/-- An entry that comes before every other is the one granted (R106). -/
theorem bestOf_eq {l : List PumpReq} {r : PumpReq} (hr : r ∈ l) (h : ∀ x ∈ l, x = r ∨ better r x = true) : bestOf l = some r := by
  induction l with
  | nil => cases hr
  | cons y rest ih =>
    have hy := h y List.mem_cons_self
    have hrest (x : PumpReq) (hx : x ∈ rest) : x = r ∨ better r x = true := h x (List.mem_cons_of_mem _ hx)
    rw [bestOf]
    by_cases hmem : r ∈ rest
    · rw [ih hmem hrest]
      dsimp only
      obtain rfl | hy := hy
      · exact ite_self _
      · rw [if_pos hy]
    · have hyr : y = r := ((List.mem_cons.mp hr).resolve_right hmem).symm
      subst hyr
      cases hb : bestOf rest with
      | none => rfl
      | some b =>
        have hbr := (hrest b (mem_of_bestOf hb)).resolve_left fun he => hmem (he ▸ mem_of_bestOf hb)
        simp [better_asymm hbr]

theorem grant_best {w : Work} {r : PumpReq} (ho : w.pump.op = none) (ha : w.atOnce = []) (hr : r ∈ w.pump.list)
    (h : ∀ x ∈ w.pump.list, x = r ∨ better r x = true) : grant w = grantEntry r w := by
  have hl : w.pump.list.filter (fun x => !w.atOnce.contains x.chan) = w.pump.list := by simp [ha]
  simp only [grant, ho, Option.isSome_none, Bool.false_eq_true, if_false, hl, bestOf_eq hr h]

/-! ### The start of an operation -/

/-- The operation of a granted request in its first stroke (R107, R114). -/
def PumpReq.firstStroke (r : PumpReq) (l : Letter) (limit now : Nat) : PumpOp :=
  ⟨r.chan, r.kind, r.tags, r.service, ⟨r.chan, l⟩, 1, limit, 0, false, 0, 0, now, .open, false, false⟩

/-- The stroke limit of an operation that starts with the estimate `e` (R107, R114). -/
def PumpKind.limit (k : PumpKind) (e : Nat) : Nat := if k = .stir then 20 else (20000000 - e + 39999) / 40000 + 25

def PumpKind.valve (k : PumpKind) : Valve := if k = .stir then .circulate else .fill

theorem strokeLimit_eq (e : Nat) : strokeLimit e = (20000000 - e + 39999) / 40000 + 25 := by
  have h1 : Config.tankCapacity = 20000000 := rfl
  have h2 : Config.strokeVolume = 40000 := rfl
  have h3 : Config.strokeMargin = 25 := rfl
  rw [strokeLimit, h1, h2, h3, ceilDiv, Nat.add_sub_assoc (by decide)]

theorem PumpKind.isFill_iff {k : PumpKind} : k.isFill = true ↔ k ≠ .stir := by cases k <;> decide

theorem limit_eq (k : PumpKind) (e : Nat) : (if k.isFill then strokeLimit e else Config.stirStrokes) = k.limit e := by
  by_cases h : k = .stir
  · subst h
    rfl
  · rw [if_pos (PumpKind.isFill_iff.mpr h), PumpKind.limit, if_neg h, strokeLimit_eq]

theorem nextStroke_opFor {r : PumpReq} {l : Letter} {w x : Work} (hl : activeLetter w.supply r.chan = some l) (hx : x.now = w.now) :
    nextStroke (opFor r w) x = setOp (some (r.firstStroke l (r.kind.limit (chanRec w.toState r.chan).e) w.now)) x := by
  simp only [nextStroke, opFor, hl, limit_eq, hx]
  rfl

/-- A granted entry starts its first stroke (R106, R107, R114). -/
theorem grantEntry_starts {r : PumpReq} {l : Letter} {w : Work} (hs : w.supply.supplied.get r.chan = true)
    (hl : activeLetter w.supply r.chan = some l) (hf : r.kind = .stir ∨ (chanRec w.toState r.chan).full = false) :
    grantEntry r w = { w with pump := { w.pump with
      list := w.pump.list.filter (fun x => x.chan ≠ r.chan)
      op := some (r.firstStroke l (r.kind.limit (chanRec w.toState r.chan).e) w.now)
      valves := w.pump.valves.set r.chan r.kind.valve } } := by
  have hs' : ¬ (!w.supply.supplied.get r.chan) = true := by simp [hs]
  have hnext {v : Valve} := nextStroke_opFor (r := r) (l := l) (w := modPump (fun p => { p with
    list := p.list.filter (fun x => x.chan ≠ r.chan) }) w) (x := setValve r.chan v (modPump (fun p => { p with
    list := p.list.filter (fun x => x.chan ≠ r.chan) }) w)) hl rfl
  unfold grantEntry
  by_cases hk : r.kind = .stir
  · have hfill : ¬ r.kind.isFill = true := fun h => PumpKind.isFill_iff.mp h hk
    have hv : r.kind.valve = .circulate := if_pos hk
    rw [hv]
    exact (if_neg hfill).trans ((if_neg hs').trans hnext)
  · have hfull : ¬ (chanRec w.toState r.chan).full = true := by simp [hf.resolve_left hk]
    have hv : r.kind.valve = .fill := if_neg hk
    rw [hv]
    exact (if_pos (PumpKind.isFill_iff.mpr hk)).trans ((if_neg hs').trans ((if_neg hfull).trans hnext))

/-! ### Raising a request (R104) -/

section
variable {ch : Chan} {kind : PumpKind} {tags : List Nat} {svc : Bool} {w : Work} {o : PumpOp}

theorem raise_idle (ho : w.pump.op = none) : raise ch kind tags svc w = raiseEntry ch kind tags svc w := by simp only [raise, ho]

theorem raise_elsewhere (ho : w.pump.op = some o) (hc : o.chan ≠ ch) :
    raise ch kind tags svc w = raiseEntry ch kind tags svc w := by simp only [raise, ho, hc, if_false]

theorem raise_filling (ho : w.pump.op = some o) (hc : o.chan = ch) (hk : o.kind ≠ .stir) :
    raise ch kind tags svc w = setOp (some { o with tags := o.tags ++ tags, service := o.service || svc }) w := by
  simp only [raise, ho, hc, PumpKind.isFill_iff.mpr hk, if_true]

theorem raise_stirring (ho : w.pump.op = some o) (hc : o.chan = ch) (hk : o.kind = .stir) :
    raise ch kind tags svc w = modChan ch (fun c => { c with follow := some (mergeFollow w.conf kind tags svc c.follow) }) w := by
  have hf : o.kind.isFill = false := by rw [hk]; rfl
  simp only [raise, ho, hc, hf, if_true, Bool.false_eq_true, if_false]

theorem raiseEntry_new (h : entryOf w.pump ch = none) :
    raiseEntry ch kind tags svc w = grant (modPump
      (fun p => { p with list := p.list ++ [⟨ch, kind, kind.initial w.conf, w.now, 0, tags, svc⟩] }) w) := by
  simp only [raiseEntry, h, Option.isSome_none, Bool.false_eq_true, if_false]

theorem raiseEntry_there (h : entryOf w.pump ch ≠ none) :
    raiseEntry ch kind tags svc w = grant (modPump
      (fun p => { p with list := p.list.map (fun r => if r.chan = ch then mergeReq w.conf kind tags svc r else r) }) w) :=
  if_pos (Option.isSome_iff_ne_none.mpr h)

/-- A request for an idle pump with no other waiting is started at once (R106). -/
theorem raise_starts {l : Letter} (ho : w.pump.op = none) (hq : w.pump.list = []) (ha : w.atOnce = [])
    (hs : w.supply.supplied.get ch = true) (hl : activeLetter w.supply ch = some l)
    (hf : kind = .stir ∨ (chanRec w.toState ch).full = false) :
    raise ch kind tags svc w = { w with pump := { w.pump with
      op := some ⟨ch, kind, tags, svc, ⟨ch, l⟩, 1, kind.limit (chanRec w.toState ch).e, 0, false, 0, 0, w.now, .open, false, false⟩
      valves := w.pump.valves.set ch kind.valve } } := by
  let r : PumpReq := ⟨ch, kind, kind.initial w.conf, w.now, 0, tags, svc⟩
  let x : Work := modPump (fun p => { p with list := p.list ++ [r] }) w
  have hlist : x.pump.list = [r] := congrArg (· ++ [r]) hq
  have hentry : entryOf w.pump ch = none := by simp [entryOf, hq]
  have hgrant : grant x = grantEntry r x := grant_best (w := x) ho ha (by simp [hlist]) (by simp [hlist])
  rw [raise_idle ho, raiseEntry_new hentry]
  refine hgrant.trans ((grantEntry_starts (l := l) hs hl hf).trans ?_)
  have hnil : x.pump.list.filter (fun y => y.chan ≠ r.chan) = w.pump.list := by rw [hlist, hq]; simp
  rw [hnil]
  rfl

end

/-! ### Looking at R100 and R103 -/

theorem lookRefill_entered {ch : Chan} {w : Work} (h : entryOf w.pump ch ≠ none) : lookRefill ch w = w := by
  have hsome : (entryOf w.pump ch).isNone = false := Option.isNone_eq_false_iff.mpr (Option.isSome_iff_ne_none.mpr h)
  simp [lookRefill, refillWanted, hsome]

theorem opOn_of {p : Pump} {o : PumpOp} {ch : Chan} (ho : p.op = some o) (hc : o.chan = ch) : opOn p ch = true := by
  simp [opOn, ho, hc]

theorem ageEntry_eq (now : Nat) (r : PumpReq) : ageEntry now r
    = if r.made + 2000 * (r.aged + 1) ≤ now then { r with number := r.number - 1, aged := r.aged + 1 } else r := by
  simp [ageEntry, ageingDue, Config.ageingStep]

theorem requestAgeing_eq (ch : Chan) (w : Work) : requestAgeing ch w = { w with pump := { w.pump with
    list := w.pump.list.map (fun r =>
      if r.chan = ch ∧ r.made + 2000 * (r.aged + 1) ≤ w.now then { r with number := r.number - 1, aged := r.aged + 1 }
      else r) } } := by
  simp only [requestAgeing, modPump, ageEntry_eq, ite_and]

theorem stirWanted_fresh {ch : Chan} {s : State} (h : (s.pump.chans.get ch).stirSince = some s.now) : stirWanted s ch = false := by
  have hz : stirTimer s ch = 0 := by simp [stirTimer, h]
  simp only [stirWanted, hz, Bool.and_eq_false_iff, decide_eq_false_iff_not]
  omega

/-! ### TOP_UP -/

section
variable {ch : Chan} {tag : Nat} {w : Work} {o : PumpOp}

theorem topUp_starved (h : w.supply.supplied.get ch = false) : topUp tag ch.num w = refuse .noInk w := by simp [topUp, h]

/-- TOP_UP is taken: the channel's float is trusted again (R101). -/
def trustFloat (ch : Chan) (w : Work) : Work := setChan ch { chanRec w.toState ch with suspect := false } (started ch.num w)

theorem chanRec_trustFloat : chanRec (trustFloat ch w).toState ch = { chanRec w.toState ch with suspect := false } :=
  Chans.get_set_same _ _ _

theorem topUp_supplied (h : w.supply.supplied.get ch = true) :
    topUp tag ch.num w = lookRefill ch (raise ch .topUp [tag] false (trustFloat ch w)) := by
  simp only [topUp, Chan.ofNum_num, h, Bool.not_true, Bool.false_eq_true, if_false]
  rfl

theorem topUp_starts {l : Letter} (hs : w.supply.supplied.get ch = true) (ho : w.pump.op = none) (hq : w.pump.list = [])
    (ha : w.atOnce = []) (hl : activeLetter w.supply ch = some l) (hf : (chanRec w.toState ch).full = false) :
    topUp tag ch.num w = { trustFloat ch w with pump := { (trustFloat ch w).pump with
      op := some ⟨ch, .topUp, [tag], false, ⟨ch, l⟩, 1, (20000000 - (chanRec w.toState ch).e + 39999) / 40000 + 25, 0, false,
        0, 0, w.now, .open, false, false⟩
      valves := w.pump.valves.set ch .fill } } := by
  rw [topUp_supplied hs, raise_starts (w := trustFloat ch w) (l := l) ho hq ha hs hl
    (.inr ((congrArg Channel.full chanRec_trustFloat).trans hf)), chanRec_trustFloat]
  exact lookRefill_opOn (opOn_of rfl rfl)

theorem topUp_filling (hs : w.supply.supplied.get ch = true) (ho : w.pump.op = some o) (hc : o.chan = ch) (hk : o.kind ≠ .stir) :
    topUp tag ch.num w = setOp (some { o with tags := o.tags ++ [tag] }) (trustFloat ch w) := by
  rw [topUp_supplied hs, raise_filling (w := trustFloat ch w) (o := o) ho hc hk, lookRefill_opOn, Bool.or_false]
  exact opOn_of (o := { o with tags := o.tags ++ [tag], service := o.service || false }) rfl hc

theorem topUp_new (hs : w.supply.supplied.get ch = true) (ho : w.pump.op = some o) (hc : o.chan ≠ ch)
    (he : entryOf w.pump ch = none) :
    topUp tag ch.num w
      = modPump (fun p => { p with list := p.list ++ [⟨ch, .topUp, w.conf.nTopUp, w.now, 0, [tag], false⟩] }) (trustFloat ch w) := by
  rw [topUp_supplied hs, raise_elsewhere (w := trustFloat ch w) (o := o) ho hc, raiseEntry_new (w := trustFloat ch w) he,
    grant_none, lookRefill_entered]
  · rfl
  · simp [entryOf, modPump]
  · exact .inl (Option.isSome_of_mem ho)

theorem topUp_there (hs : w.supply.supplied.get ch = true) (ho : w.pump.op = some o) (hc : o.chan ≠ ch)
    (he : entryOf w.pump ch ≠ none) :
    topUp tag ch.num w
      = modPump (fun p => { p with list := p.list.map (fun r => if r.chan = ch then mergeReq w.conf .topUp [tag] false r else r) })
          (trustFloat ch w) := by
  rw [topUp_supplied hs, raise_elsewhere (w := trustFloat ch w) (o := o) ho hc, raiseEntry_there (w := trustFloat ch w) he,
    grant_none, lookRefill_entered]
  · rfl
  · have hkeep : entryOf (trustFloat ch w).pump ch ≠ none := he
    simp only [entryOf, ne_eq, List.find?_eq_none, decide_eq_true_eq, not_forall, not_not] at hkeep
    obtain ⟨r, hr, hrc⟩ := hkeep
    simp only [entryOf, modPump, ne_eq, List.find?_eq_none, decide_eq_true_eq, not_forall, not_not]
    exact ⟨_, List.mem_map_of_mem hr, by rw [if_pos hrc]; exact hrc⟩
  · exact .inl (Option.isSome_of_mem ho)

theorem topUp_stirring (hs : w.supply.supplied.get ch = true) (ho : w.pump.op = some o) (hc : o.chan = ch) (hk : o.kind = .stir) :
    topUp tag ch.num w = setChan ch { chanRec w.toState ch with
      suspect := false, follow := some (mergeFollow w.conf .topUp [tag] false (chanRec w.toState ch).follow) } (started ch.num w) := by
  rw [topUp_supplied hs, raise_stirring (w := trustFloat ch w) (o := o) ho hc hk, lookRefill_opOn, modChan_eq,
    chanRec_trustFloat]
  · simp only [setChan, trustFloat, Chans.set_set]
    rfl
  · exact opOn_of ho hc

end

theorem mergeReq_topUp (c : Conf) (tag : Nat) (r : PumpReq) : mergeReq c .topUp [tag] false r = { r with
    kind := if r.kind = .prePurge then .prePurge else .topUp, number := min r.number c.nTopUp, tags := r.tags ++ [tag] } := by
  cases hk : r.kind <;> simp [mergeReq, hk, PumpKind.urgent, PumpKind.num, PumpKind.initial]

theorem mergeFollow_topUp (c : Conf) (tag : Nat) (f : FollowOn) : mergeFollow c .topUp [tag] false (some f)
    = ⟨if f.kind = .prePurge then .prePurge else .topUp, min f.number c.nTopUp, f.tags ++ [tag], f.service⟩ := by
  cases hk : f.kind <;> simp [mergeFollow, hk, PumpKind.urgent, PumpKind.num, PumpKind.initial]

/-! ### The end of a stir (R114) -/

theorem enterFollowOn_none {ch : Chan} {w : Work} (h : (chanRec w.toState ch).follow = none) : enterFollowOn ch w = w := by
  simp only [enterFollowOn, h]

/-- A stir that has made its last stroke, with nothing waiting for its channel (R113, R114). -/
theorem strokeEnd_stirred {o : PumpOp} {w : Work} (ho : w.pump.op = some o) (hk : o.kind = .stir) (hn : o.count = o.limit)
    (hg : o.changed = false) (hw : o.window ≠ .open) (ht : o.strokeStart + 200 ≤ w.now)
    (hf : (chanRec w.toState o.chan).follow = none) :
    strokeEnd w = { w with
      pump := { w.pump with
        chans := w.pump.chans.set o.chan { chanRec w.toState o.chan with stirSince := some w.now }
        op := none, valves := w.pump.valves.set o.chan .closed }
      agenda := w.agenda ++ [.pumpFreed o.chan] } := by
  have hdue : reached (strokeDue o) w.now = true := by rw [reached_iff]; exact ht
  have hclose : closeWindow o = o := if_neg hw
  have hfill : o.kind.isFill = false := by rw [hk]; rfl
  have hfollow : (chanRec (modChan o.chan (fun c => { c with stirSince := some w.now }) (pumpStops o w)).toState o.chan).follow
      = none := (congrArg Channel.follow (Chans.get_set_same _ _ _)).trans hf
  have hend : endStir o .ok true w
      = post (.pumpFreed o.chan) (modChan o.chan (fun c => { c with stirSince := some w.now }) (pumpStops o w)) := by
    exact congrArg (post (.pumpFreed o.chan)) (enterFollowOn_none hfollow)
  simp only [strokeEnd, ho, hdue, hclose, hfill, if_true, Bool.false_eq_true, if_false, stirStrokeEnd, hg, hn]
  exact hend

/-- The grant after a stir, and the looks at R100 and R103, which raise nothing (R113). -/
theorem drain_stirred {ch : Chan} {r : PumpReq} {l : Letter} {w : Work} (ha : w.agenda = [.pumpFreed ch]) (ho : w.pump.op = none)
    (hat : w.atOnce = []) (hr : r ∈ w.pump.list) (hbest : ∀ x ∈ w.pump.list, x = r ∨ better r x = true)
    (hs : w.supply.supplied.get r.chan = true) (hl : activeLetter w.supply r.chan = some l)
    (hf : r.kind = .stir ∨ (chanRec w.toState r.chan).full = false) (he : Config.refillThreshold ≤ (chanRec w.toState ch).e)
    (hstir : (chanRec w.toState ch).stirSince = some w.now) :
    drain 2 w = some { w with
      agenda := []
      pump := { w.pump with
        list := w.pump.list.filter (fun x => x.chan ≠ r.chan)
        op := some (r.firstStroke l (r.kind.limit (chanRec w.toState r.chan).e) w.now)
        valves := w.pump.valves.set r.chan r.kind.valve } } := by
  let x : Work := { w with
      agenda := []
      pump := { w.pump with
        list := w.pump.list.filter (fun x => x.chan ≠ r.chan)
        op := some (r.firstStroke l (r.kind.limit (chanRec w.toState r.chan).e) w.now)
        valves := w.pump.valves.set r.chan r.kind.valve } }
  have hgrant : grant { w with agenda := [] } = x :=
    (grant_best (w := { w with agenda := [] }) ho hat hr hbest).trans (grantEntry_starts hs hl hf)
  have hfreed : deliver (.pumpFreed ch) { w with agenda := [] } = post (.stirLook ch) x := by
    change post (.stirLook ch) (lookRefill ch (grant { w with agenda := [] })) = _
    rw [hgrant, lookRefill_full (w := x) he]
  have hlook : deliver (.stirLook ch) x = x := by
    change stirLook ch x = x
    have hno : stirWanted x.toState ch = false := stirWanted_fresh hstir
    rw [stirLook_last (by simp [x])]
    simp [lookStir, hno]
  exact drain_step ha hfreed (drain_step rfl hlook (drain_nil 0 rfl))

theorem bestOf_order {l : List PumpReq} {r : PumpReq}
    (h : ∀ x ∈ l, x = r ∨ r.number < x.number ∨ (r.number = x.number ∧ r.chan.num < x.chan.num)) (x : PumpReq) (hx : x ∈ l) :
    x = r ∨ better r x = true := by
  simpa [better] using h x hx

/-- Settles O42: ageing; the forms of TOP_UP; the grant after a stir; the stir timer. -/
theorem pumpRequestsStartAndAge : Obligations.PumpRequestsStartAndAge := by
  refine ⟨fun s ch hs => occur_done hs Keeps.requestAgeing (requestAgeing_eq ch (Work.of s)) rfl, ?_⟩
  intro s ch fresh
  refine ⟨fun tag h => ?_, fun o r l hs ho hc hk hn hg hw ht hf he hen hr hbest hsup hl hfull => ?_,
    fun hs => ⟨fun hno => ?_, fun l hwant ho hq hl => ?_⟩⟩
  · intro trusted
    have hask {w : Work} {p : Reply} (hw : topUp tag ch.num (Work.of s) = w) (hp : w.reply = some p) (hag : w.agenda = []) :=
      ask_decided (q := ⟨0x13, tag, .topUp ch.num⟩) h rfl hw hp hag
    refine ⟨fun hs => hask (topUp_starved hs) rfl rfl, fun l hs ho hq hl hf => hask (topUp_starts hs ho hq rfl hl hf) rfl rfl,
      fun o hs ho hc hk => hask (topUp_filling hs ho hc hk) rfl rfl, fun o hs ho => ?_⟩
    intro more joins
    refine ⟨fun hc he => hask (topUp_new hs ho hc he) rfl rfl, fun hc he => ?_, fun hc hk => ?_⟩
    · have hthere := topUp_there (tag := tag) (w := Work.of s) hs ho hc he
      simp only [mergeReq_topUp] at hthere
      exact hask hthere rfl rfl
    · have hstir := hask (topUp_stirring hs ho hc hk) rfl rfl
      refine hstir.trans ?_
      cases hfo : (s.pump.chans.get ch).follow with
      | none => simp only [chanRec, Work.of_pump, hfo]; rfl
      | some f => simp only [chanRec, Work.of_pump, hfo, mergeFollow_topUp]; rfl
  · subst hc
    have hne : r.chan ≠ o.chan := fun hx => by
      simp only [entryOf, List.find?_eq_none, decide_eq_true_eq] at hen
      exact hen r hr hx
    intro limit
    let x : Work := { Work.of s with
      pump := { s.pump with
        chans := s.pump.chans.set o.chan { chanRec s o.chan with stirSince := some s.now }
        op := none, valves := s.pump.valves.set o.chan .closed }
      agenda := [.pumpFreed o.chan] }
    have hkeep : chanRec x.toState r.chan = chanRec s r.chan := Chans.get_set_other _ _ hne
    have hsame : chanRec x.toState o.chan = { chanRec s o.chan with stirSince := some s.now } := Chans.get_set_same _ _ _
    have hd := drain_stirred (w := x) rfl rfl rfl hr (bestOf_order hbest) hsup hl (by rw [hkeep]; exact hfull)
      (he.trans_eq (congrArg Channel.e hsame).symm) (congrArg Channel.stirSince hsame)
    rw [hkeep] at hd
    exact occur_from hs Keeps.strokeEnd (strokeEnd_stirred (w := Work.of s) ho hk hn hg hw ht hf) hd (by decide)
  · exact occur_void hs ((congrArg (fun b => when b (raise ch .stir [] false) (Work.of s)) hno).trans rfl)
  · have hsup : s.supply.supplied.get ch = true := by
      simp only [stirWanted, Bool.and_eq_true] at hwant
      exact hwant.1.1.2
    have hlook : lookStir ch (Work.of s) = raise ch .stir [] false (Work.of s) :=
      congrArg (fun b => when b (raise ch .stir [] false) (Work.of s)) hwant
    exact occur_done hs Keeps.lookStir (hlook.trans (raise_starts (l := l) ho hq rfl hsup hl (.inl rfl))) rfl

end Sys2Proof.Machine
end

section
/-! ## The strokes of a pump operation (R107 to R113; O43) -/

namespace Sys2Proof.Machine

open Sys2Proof

set_option Elab.async false

/-! ### A change of E while the pump works for the channel (R96, R97) -/

section
variable {ch : Chan} {v : Bool} {w : Work}

theorem setChan_self : setChan ch (chanRec w.toState ch) w = w :=
  congrArg (fun x => { w with pump := { w.pump with chans := x } }) (Chans.set_get w.pump.chans ch)

theorem setDry_eq : setDry ch v w = { setChan ch { chanRec w.toState ch with dry := v } w with
    outbox := w.outbox ++ if v = (chanRec w.toState ch).dry then [] else [eventNotice .supply 3 (u8 ch.num ++ flag v)]
    agenda := w.agenda ++ if v = (chanRec w.toState ch).dry then [] else [.inkChanged ch .dry] } := by
  unfold setDry
  split
  next h =>
    subst h
    have hs : setChan ch { chanRec w.toState ch with dry := (chanRec w.toState ch).dry } w = w := setChan_self
    rw [hs]
    simp
  next => rfl

theorem setHold_eq : setHold ch v w = { setChan ch { chanRec w.toState ch with hold := v } w with
    outbox := w.outbox ++ if v = (chanRec w.toState ch).hold then [] else [eventNotice .supply 4 (u8 ch.num ++ flag v)]
    agenda := w.agenda ++ if v = (chanRec w.toState ch).hold then [] else [.inkChanged ch .hold] } := by
  unfold setHold
  split
  next h =>
    subst h
    have hs : setChan ch { chanRec w.toState ch with hold := (chanRec w.toState ch).hold } w = w := setChan_self
    rw [hs]
    simp
  next => rfl

/-- The flags that follow an estimate: DRY and the ink hold (R96, R97). -/
def Channel.flagged (c : Channel) : Channel := { c with dry := dryAfter c.e c.dry, hold := holdAfter c.e c.hold }

/-- What is told when the flags of a channel change: DRY first (log entry 15). -/
def flagNotices (ch : Chan) (c : Channel) : List Notice :=
  (if c.flagged.dry = c.dry then [] else [eventNotice .supply 3 (u8 ch.num ++ u8 0)])
    ++ if c.flagged.hold = c.hold then [] else [eventNotice .supply 4 (u8 ch.num ++ flag c.flagged.hold)]

def flagReports (ch : Chan) (c : Channel) : List Report :=
  (if c.flagged.dry = c.dry then [] else [.inkChanged ch .dry]) ++ if c.flagged.hold = c.hold then [] else [.inkChanged ch .hold]

/-- A level that changes DRY clears it (R96). -/
theorem dryAfter_told {e : Nat} {d : Bool} {f : List Byte → Notice} :
    (if dryAfter e d = d then [] else [f (flag (dryAfter e d))]) = if dryAfter e d = d then [] else [f (u8 0)] := by
  unfold dryAfter
  split
  · rfl
  · rw [if_pos rfl, if_pos rfl]

theorem setChan_setChan (x y : Channel) : setChan ch x (setChan ch y w) = setChan ch x w := by simp [setChan]

/-- With an operation of the channel in flight no refill is raised for it (R100). -/
theorem levelChanged_pumping (h : opOn w.pump ch = true) :
    levelChanged ch false w = { setChan ch (chanRec w.toState ch).flagged w with
      outbox := w.outbox ++ flagNotices ch (chanRec w.toState ch)
      agenda := w.agenda ++ flagReports ch (chanRec w.toState ch) } := by
  have hrec : chanRec (setChan ch { chanRec w.toState ch with dry := dryAfter (chanRec w.toState ch).e (chanRec w.toState ch).dry }
      w).toState ch = { chanRec w.toState ch with dry := dryAfter (chanRec w.toState ch).e (chanRec w.toState ch).dry } :=
    Chans.get_set_same _ _ _
  rw [levelChanged]
  dsimp only
  rw [Bool.false_or, setDry_eq, setHold_eq, lookRefill_opOn]
  · dsimp only
    rw [hrec, dryAfter_told (f := fun bs => eventNotice .supply 3 (u8 ch.num ++ bs))]
    simp only [setChan, Chans.set_set, flagNotices, flagReports, Channel.flagged, List.append_assoc]
    rfl
  · exact h

theorem mem_flagReports {c : Channel} {r : Report} (h : r ∈ flagReports ch c) : ∃ k, r = .inkChanged ch k := by
  simp only [flagReports, List.mem_append] at h
  obtain h | h := h
  all_goals
    split at h
    · cases h
    · exact ⟨_, List.mem_singleton.mp h⟩

theorem length_flagReports (c : Channel) : (flagReports ch c).length ≤ reportBound := by
  have h : (flagReports ch c).length ≤ 2 := by
    unfold flagReports
    split <;> split <;> simp
  exact h.trans (by decide)

theorem flagged_same {c : Channel} (hh : c.hold = false) (hd : c.dry = false) (he : Config.printReserve ≤ c.e) :
    c.flagged = c ∧ flagNotices ch c = [] ∧ flagReports ch c = [] := by
  obtain ⟨hhold, hdry⟩ := flags_kept hh hd he
  have hc : c.flagged = c := by
    rw [Channel.flagged, hdry, hhold]
  refine ⟨hc, ?_, ?_⟩
  · simp [flagNotices, hc]
  · simp [flagReports, hc]

end

theorem levelChanged_kept {ch : Chan} {c : Channel} {w : Work} (h : opOn w.pump ch = true) (hc : chanRec w.toState ch = c)
    (hh : c.hold = false) (hd : c.dry = false) (he : Config.printReserve ≤ c.e) : levelChanged ch false w = w := by
  subst hc
  obtain ⟨hf, hn, hr⟩ := flagged_same (ch := ch) hh hd he
  rw [levelChanged_pumping h, hf, hn, hr, setChan_self]
  simp

/-! ### A flow pulse (R108, R114) -/

section
variable {w : Work} {o : PumpOp}

theorem flowPulse_idle (h : w.pump.op = none) : flowPulse w = w := by simp only [flowPulse, h]

theorem flowPulse_late (h : w.pump.op = some o) (hw : o.window ≠ .open) : flowPulse w = w := by
  simp only [flowPulse, h]
  exact if_pos hw

theorem flowPulse_stir (h : w.pump.op = some o) (hw : o.window = .open) (hk : o.kind = .stir) :
    flowPulse w = setOp (some { o with window := .pulsed, missing := 0 }) w := by
  have hf : ¬ o.kind.isFill = true := fun hx => PumpKind.isFill_iff.mp hx hk
  simp only [flowPulse, h]
  exact (if_neg (not_not_intro hw)).trans (if_neg hf)

/-- The operation after a pulsed stroke of a fill. -/
def PumpOp.pulsedOnce (o : PumpOp) : PumpOp :=
  { o with window := .pulsed, missing := 0, pulsed := o.pulsed + 1, drawn := o.drawn + 40000 }

/-- A stroke in the sub-tank: the channel, the operation, and the charge of the bay (R86, R108). -/
def strokeIn (o : PumpOp) (w : Work) : Work :=
  when (!o.bayGone) (charge o.bay) (setChan o.chan (addStroke (chanRec w.toState o.chan)) (setOp (some o.pulsedOnce) w))

theorem flowPulse_fill (h : w.pump.op = some o) (hw : o.window = .open) (hk : o.kind ≠ .stir) :
    flowPulse w = levelChanged o.chan false (strokeIn o w) := by
  simp only [flowPulse, h]
  exact (if_neg (not_not_intro hw)).trans (if_pos (PumpKind.isFill_iff.mpr hk))

theorem charge_eq {b : Bay} {c : Cart} (h : (bayRec w.supply b).cart = some c) :
    charge b w = { w with supply := w.supply.withBay b { bayRec w.supply b with
      cart := some { c with remaining := c.remaining - 40000 }, charged := true } } := by
  simp only [charge, h]
  rfl

theorem addStroke_eq (c : Channel) : addStroke c = { c with
    drawn := c.drawn + 40000, e := min (c.e + 40000) 20000000
    reconcile := c.reconcile - ((c.e + 40000 - 20000000 : Nat) : Int) } := rfl

theorem addStroke_flags (c : Channel) : (addStroke c).hold = c.hold ∧ (addStroke c).dry = c.dry := by
  rw [addStroke_eq]
  exact ⟨rfl, rfl⟩

/-- A stroke's channel with its flags, as the levels of Table 5-2 give them. -/
theorem flagged_addStroke (r : Channel) : (addStroke r).flagged =
    let e := min (r.e + 40000) 20000000
    { r with
      drawn := r.drawn + 40000, e := e, reconcile := r.reconcile - ((r.e + 40000 - 20000000 : Nat) : Int)
      dry := if 2500000 < e then false else r.dry
      hold := if e < 2500000 then true else if 4000000 ≤ e then false else r.hold } := by
  have h1 : Config.printReserve = 2500000 := rfl
  have h2 : Config.holdRelease = 4000000 := rfl
  rw [addStroke_eq, Channel.flagged, dryAfter, holdAfter, h1, h2]

theorem strokeIn_gone (hg : o.bayGone = true) : strokeIn o w
    = setChan o.chan (addStroke (chanRec w.toState o.chan)) (setOp (some o.pulsedOnce) w) := by
  rw [strokeIn, hg]
  rfl

theorem strokeIn_charged {c : Cart} (hg : o.bayGone = false) (hc : (bayRec w.supply o.bay).cart = some c) :
    strokeIn o w = { setChan o.chan (addStroke (chanRec w.toState o.chan)) (setOp (some o.pulsedOnce) w) with
      supply := w.supply.withBay o.bay { bayRec w.supply o.bay with
        cart := some { c with remaining := c.remaining - 40000 }, charged := true } } := by
  rw [strokeIn, hg]
  exact charge_eq (w := setChan o.chan (addStroke (chanRec w.toState o.chan)) (setOp (some o.pulsedOnce) w)) hc

end

/-- A pulse whose bay has gone charges nothing; the flags follow E (R96, R97, R109). -/
theorem flowPulse_gone {c : Channel} {w : Work} {o : PumpOp} (ho : w.pump.op = some o) (hw : o.window = .open) (hk : o.kind ≠ .stir)
    (hg : o.bayGone = true) (hc : addStroke (chanRec w.toState o.chan) = c) :
    flowPulse w = { setChan o.chan c.flagged (setOp (some o.pulsedOnce) w) with
      outbox := w.outbox ++ flagNotices o.chan c, agenda := w.agenda ++ flagReports o.chan c } := by
  have hrec : chanRec (setChan o.chan c (setOp (some o.pulsedOnce) w)).toState o.chan = c := Chans.get_set_same _ _ _
  rw [flowPulse_fill ho hw hk, strokeIn_gone hg, hc, levelChanged_pumping (ch := o.chan) (opOn_of (o := o.pulsedOnce) rfl rfl), hrec,
    setChan_setChan]
  rfl

/-! ### The windows and the strokes (R107, R108) -/

section
variable {w : Work} {o : PumpOp}

theorem pulseWindowEnd_idle (h : w.pump.op = none) : pulseWindowEnd w = w := by simp only [pulseWindowEnd, h]

theorem pulseWindowEnd_early (h : w.pump.op = some o) (ht : w.now < o.strokeStart + 150) : pulseWindowEnd w = w := by
  have hr : reached (windowDue o) w.now = false := (reached_false_iff _ _).mpr ht
  simp only [pulseWindowEnd, h, hr, Bool.false_eq_true, if_false]

theorem pulseWindowEnd_missed (h : w.pump.op = some o) (hw : o.window = .open) (ht : o.strokeStart + 150 ≤ w.now) :
    pulseWindowEnd w = setOp (some { o with window := .missed, missing := o.missing + 1 }) w := by
  have hr : reached (windowDue o) w.now = true := (reached_iff _ _).mpr ht
  have hc : closeWindow o = { o with window := .missed, missing := o.missing + 1 } := if_pos hw
  simp only [pulseWindowEnd, h, hr, if_true, hc]

theorem strokeEnd_idle (h : w.pump.op = none) : strokeEnd w = w := by simp only [strokeEnd, h]

theorem strokeEnd_early (h : w.pump.op = some o) (ht : w.now < o.strokeStart + 200) : strokeEnd w = w := by
  have hr : reached (strokeDue o) w.now = false := (reached_false_iff _ _).mpr ht
  simp only [strokeEnd, h, hr, Bool.false_eq_true, if_false]

theorem strokeEnd_fill (h : w.pump.op = some o) (hw : o.window ≠ .open) (ht : o.strokeStart + 200 ≤ w.now) (hk : o.kind ≠ .stir) :
    strokeEnd w = fillStrokeEnd o w := by
  have hr : reached (strokeDue o) w.now = true := (reached_iff _ _).mpr ht
  have hc : closeWindow o = o := if_neg hw
  simp only [strokeEnd, h, hr, if_true, hc, PumpKind.isFill_iff.mpr hk]

theorem strokeEnd_goesOn (h : w.pump.op = some o) (hw : o.window ≠ .open) (ht : o.strokeStart + 200 ≤ w.now)
    (hf : o.fullCame = false) (hg : o.changed = false) (hn : o.count ≠ o.limit) (hm : o.missing < 3) :
    strokeEnd w = nextStroke o w := by
  have hr : reached (strokeDue o) w.now = true := (reached_iff _ _).mpr ht
  have hc : closeWindow o = o := if_neg hw
  have hm' : ¬ Config.missingLimit ≤ o.missing := Nat.not_le.mpr hm
  by_cases hk : o.kind = .stir
  · have hfill : o.kind.isFill = false := by rw [hk]; rfl
    simp only [strokeEnd, h, hr, hc, hfill, stirStrokeEnd, hg, hn, hm', if_true, if_false, Bool.false_eq_true]
  · rw [strokeEnd_fill h hw ht hk]
    simp only [fillStrokeEnd, hf, hg, hn, hm', if_false, Bool.false_eq_true]

end

/-! ### Writes on the module bus -/

/-- A supply in which an operation has been placed on the bus. -/
def Supply.placed (now : Nat) (op : BusOp) (u : Supply) : Supply :=
  { u with bus := busJoin op u.bus, busStart := if u.bus.isEmpty then now else u.busStart }

theorem sameKind_target {x y : BusOp} (h : x.target ≠ y.target) : x.sameKind y = false := by simp [BusOp.sameKind, h]

/-- What waits on the bus stays there when an operation for another target is placed. -/
theorem mem_busJoin_of_mem {x op : BusOp} {q : List BusOp} (hx : x ∈ q) (h : x.target ≠ op.target) : x ∈ busJoin op q := by
  unfold busJoin
  split
  · cases hx
  · next head waiting =>
    split
    · split
      · exact hx
      · exact List.mem_append_left _ hx
    · split
      · obtain rfl | hx := List.mem_cons.mp hx
        · exact List.mem_cons_self
        · exact List.mem_cons_of_mem _ (List.mem_map.mpr ⟨x, hx, by rw [sameKind_target h.symm]; rfl⟩)
      · exact List.mem_append_left _ hx

/-- The write-back of one bay at the end of a fill (R86, R87). -/
def Supply.fillWrote (now : Nat) (b : Bay) (u : Supply) : Supply :=
  if (bayRec u b).charged then
    match (bayRec u b).cart with
    | some c => u.placed now ⟨.bay b, .write c.remaining, false⟩
    | none => u
  else u

/-- A bay without its charged mark (R86). -/
def Supply.unmarked (b : Bay) (u : Supply) : Supply := u.withBay b { bayRec u b with charged := false }

/-- The write-backs at the end of a fill, and the marks cleared (R86, R87). -/
def Supply.fillEnded (now : Nat) (ch : Chan) (u : Supply) : Supply :=
  (((u.fillWrote now ⟨ch, .a⟩).fillWrote now ⟨ch, .b⟩).unmarked ⟨ch, .a⟩).unmarked ⟨ch, .b⟩

theorem when_writeBack (b : Bay) (w : Work) :
    when (bayRec w.supply b).charged (writeBack b) w = { w with supply := w.supply.fillWrote w.now b } := by
  unfold Supply.fillWrote
  cases hc : (bayRec w.supply b).charged
  · rfl
  · cases hcart : (bayRec w.supply b).cart with
    | none => simp [writeBack, hcart]
    | some c =>
      rw [when_true, writeBack_of hcart]
      rfl

theorem fillWriteBacks_eq (ch : Chan) (w : Work) :
    fillWriteBacks ch w = { w with supply := w.supply.fillEnded w.now ch } := by
  rw [fillWriteBacks, when_writeBack, when_writeBack]
  rfl

theorem fillWrote_bays (now : Nat) (b : Bay) (u : Supply) : (u.fillWrote now b).bays = u.bays := by
  unfold Supply.fillWrote
  split
  · split <;> rfl
  · rfl

theorem fillWrote_supplied (now : Nat) (b : Bay) (u : Supply) : (u.fillWrote now b).supplied = u.supplied := by
  unfold Supply.fillWrote
  split
  · split <;> rfl
  · rfl

theorem bayRec_congr {u v : Supply} (h : v.bays = u.bays) (b : Bay) : bayRec v b = bayRec u b := by simp only [bayRec, h]

theorem fillEnded_supplied (now : Nat) (ch : Chan) (u : Supply) : (u.fillEnded now ch).supplied = u.supplied :=
  (fillWrote_supplied _ _ _).trans (fillWrote_supplied _ _ _)

theorem bayRec_fillEnded (now : Nat) (ch : Chan) (u : Supply) (l : Letter) :
    bayRec (u.fillEnded now ch) ⟨ch, l⟩ = { bayRec u ⟨ch, l⟩ with charged := false } := by
  have hb : ((u.fillWrote now ⟨ch, .a⟩).fillWrote now ⟨ch, .b⟩).bays = u.bays := by rw [fillWrote_bays, fillWrote_bays]
  cases l <;> simp [Supply.fillEnded, Supply.unmarked, Supply.withBay, bayRec, hb, Bays.get, Bays.set]

theorem mem_fillWrote_of_mem {now : Nat} {b : Bay} {u : Supply} {x : BusOp} (hx : x ∈ u.bus)
    (h : x.target = .bay b → ∀ c, (bayRec u b).cart = some c → x = ⟨.bay b, .write c.remaining, false⟩) :
    x ∈ (u.fillWrote now b).bus := by
  unfold Supply.fillWrote
  split
  · split
    next c hc =>
      by_cases ht : x.target = .bay b
      · rw [h ht c hc]
        exact mem_busJoin_write _ _ _ _
      · exact mem_busJoin_of_mem hx ht
    next => exact hx
  · exact hx

theorem mem_fillWrote {now : Nat} {b : Bay} {u : Supply} {c : Cart} (hc : (bayRec u b).cart = some c)
    (hm : (bayRec u b).charged = true) : ⟨.bay b, .write c.remaining, false⟩ ∈ (u.fillWrote now b).bus := by
  rw [Supply.fillWrote, if_pos hm, hc]
  exact mem_busJoin_write _ _ _ _

/-- A write of what is left of a bay stays on the bus, or is placed again, at the end of a fill. -/
theorem mem_fillEnded_of_mem {now : Nat} {ch : Chan} {l : Letter} {u : Supply} {c : Cart}
    (hc : (bayRec u ⟨ch, l⟩).cart = some c) (h : ⟨.bay ⟨ch, l⟩, .write c.remaining, false⟩ ∈ u.bus) :
    ⟨.bay ⟨ch, l⟩, .write c.remaining, false⟩ ∈ (u.fillEnded now ch).bus := by
  refine mem_fillWrote_of_mem (u := u.fillWrote now ⟨ch, .a⟩) (mem_fillWrote_of_mem h fun ht d hd => ?_) fun ht d hd => ?_
  · cases ht
    rw [hc] at hd
    cases hd
    rfl
  · cases ht
    rw [bayRec_congr (fillWrote_bays _ _ _), hc] at hd
    cases hd
    rfl

/-- Each charged bay's write is on the bus after a fill (R86, R87). -/
theorem mem_fillEnded {now : Nat} {ch : Chan} {l : Letter} {u : Supply} {c : Cart} (hc : (bayRec u ⟨ch, l⟩).cart = some c)
    (hm : (bayRec u ⟨ch, l⟩).charged = true) :
    ⟨.bay ⟨ch, l⟩, .write c.remaining, false⟩ ∈ (u.fillEnded now ch).bus := by
  have hrec := bayRec_congr (fillWrote_bays now ⟨ch, .a⟩ u)
  cases l
  · refine mem_fillWrote_of_mem (u := u.fillWrote now ⟨ch, .a⟩) (mem_fillWrote hc hm) fun ht => ?_
    cases ht
  · exact mem_fillWrote (u := u.fillWrote now ⟨ch, .a⟩) (by rw [hrec]; exact hc) (by rw [hrec]; exact hm)

/-! ### The end of a fill (R113) -/

/-- What is told at the end of a fill: each waiting tag, and the notice of an end that is not OK (R113). -/
def fillNotices (o : PumpOp) (outcome : Code) (e : Nat) : List Notice :=
  o.tags.map (fun tag => opDoneNotice 0x13 tag outcome (u8 o.chan.num ++ u16 o.pulsed ++ u32 o.drawn ++ u32 e))
    ++ if outcome = .ok then [] else [eventNotice .supply 5 (u8 o.chan.num ++ u8 o.kind.num ++ code outcome)]

/-- The pump after a fill (R113). -/
def Pump.filled (o : PumpOp) (now : Nat) (p : Pump) : Pump :=
  { p with
    op := none, valves := p.valves.set o.chan .closed
    chans := p.chans.set o.chan { p.chans.get o.chan with stirSince := some now } }

theorem endFill_eq (o : PumpOp) (outcome : Code) (w : Work) :
    endFill o outcome w = { w with
      supply := w.supply.fillEnded w.now o.chan
      pump := w.pump.filled o w.now
      outbox := w.outbox ++ fillNotices o outcome (chanRec w.toState o.chan).e
      agenda := w.agenda ++ ((if o.service then [.fillAnswered o.chan] else []) ++ [.pumpFreed o.chan]) } := by
  have hkeep : chanRec { pumpStops o w with supply := (pumpStops o w).supply.fillEnded (pumpStops o w).now o.chan }.toState o.chan
      = chanRec w.toState o.chan := rfl
  simp only [endFill, fillWriteBacks_eq, forEach_opDone, chanRec_modChan_same, fillDetail, hkeep, fillNotices]
  cases hs : o.service <;> by_cases hok : outcome = .ok
  all_goals
    simp [when, hok, event, give, post, modChan, modPump, pumpStops, setValve, setOp, Pump.filled, kindTopUp, eventNotice]

theorem filled_setChan (o : PumpOp) (c : Channel) (now : Nat) (w : Work) : (setChan o.chan c w).pump.filled o now = { w.pump with
    op := none, valves := w.pump.valves.set o.chan .closed, chans := w.pump.chans.set o.chan { c with stirSince := some now } } := by
  simp [setChan, Pump.filled]

/-- The reports at the end of a fill: nobody hears those before the last, and the looks after the grant raise nothing (R113). -/
theorem drain_filled {ch : Chan} {w : Work} {l : List Report} {n : Nat} (ha : w.agenda = l ++ [.pumpFreed ch])
    (hl : ∀ r ∈ l, ∀ rest, deliver r { w with agenda := rest } = { w with agenda := rest }) (hn : l.length + 2 ≤ n)
    (hq : w.pump.list = [])
    (hlook : Config.refillThreshold ≤ (chanRec w.toState ch).e ∨ w.supply.supplied.get ch = false
      ∨ (chanRec w.toState ch).suspect = true)
    (hstir : (chanRec w.toState ch).stirSince = some w.now) : drain n w = some { w with agenda := [] } := by
  refine drain_of_le (n := l.length + 2) ?_ hn
  clear hn
  induction l generalizing w with
  | nil =>
    have hfreed : deliver (.pumpFreed ch) { w with agenda := [] } = { w with agenda := [.stirLook ch] } := by
      have hlook' : lookRefill ch { w with agenda := [] } = { w with agenda := [] } := lookRefill_unwanted (by tauto)
      change post (.stirLook ch) (lookRefill ch (grant { w with agenda := [] })) = _
      rw [grant_none (w := { w with agenda := [] }) (.inr hq), hlook']
      rfl
    have hstirred : deliver (.stirLook ch) { w with agenda := [] } = { w with agenda := [] } := by
      change stirLook ch { w with agenda := [] } = _
      rw [stirLook_last (by simp)]
      exact congrArg (fun b => when b (raise ch .stir [] false) { w with agenda := [] }) (stirWanted_fresh hstir)
    exact drain_step ha hfreed (drain_step rfl hstirred (drain_nil 0 rfl))
  | cons r rest ih =>
    have hd := ih (w := { w with agenda := rest ++ [.pumpFreed ch] }) rfl (fun p hp => hl p (List.mem_cons_of_mem _ hp)) hq hlook hstir
    exact drain_step ha (hl r List.mem_cons_self _) hd

/-- A stroke whose end is the end of its fill, with nothing waiting for the pump and nobody to hear of it. -/
theorem strokeEnd_fillEnds {s : State} {o : PumpOp} {outcome : Code} {x : Work} (hs : s.running = true)
    (hx : strokeEnd (Work.of s) = endFill o outcome x) (hq : x.pump.list = []) (hv : x.station.service = none)
    (hp : x.sheet.phase = .none) (hab : x.sheet.abort = none)
    (hpre : x.agenda = [] ∨ x.agenda = [.inkChanged o.chan .supply])
    (hlook : Config.refillThreshold ≤ (chanRec x.toState o.chan).e ∨ x.supply.supplied.get o.chan = false
      ∨ (chanRec x.toState o.chan).suspect = true) :
    exec .strokeEnd s = .next { x.toState with
      supply := x.supply.fillEnded x.now o.chan
      pump := x.pump.filled o x.now
      link := told (x.outbox ++ fillNotices o outcome (chanRec x.toState o.chan).e) s.link } := by
  have hrec : (x.pump.filled o x.now).chans.get o.chan = { chanRec x.toState o.chan with stirSince := some x.now } :=
    Chans.get_set_same _ _ _
  have hd : drain 5 (endFill o outcome x) = some { endFill o outcome x with agenda := [] } := by
    rw [endFill_eq]
    refine drain_filled (ch := o.chan) (l := x.agenda ++ if o.service then [.fillAnswered o.chan] else []) ?_ ?_ ?_ hq ?_ ?_
    · simp
    · intro r hr rest
      obtain hr | hr := List.mem_append.mp hr
      · obtain h | h := hpre <;> rw [h] at hr
        · cases hr
        · cases List.mem_singleton.mp hr
          exact inkChanged_unheard hp hab hv
      · split at hr
        · cases List.mem_singleton.mp hr
          change onFillAnswered o.chan _ = _
          simp only [onFillAnswered, hv]
        · cases hr
    · obtain h | h := hpre <;> rw [h] <;> cases o.service <;> simp
    · obtain h | h | h := hlook
      · exact .inl (h.trans_eq (congrArg Channel.e hrec).symm)
      · exact .inr (.inl ((congrArg (fun y : Chans Bool => y.get o.chan) (fillEnded_supplied _ _ _)).trans h))
      · exact .inr (.inr ((congrArg Channel.suspect hrec).trans h))
    · exact congrArg Channel.stirSince hrec
  have h := occur_from hs Keeps.strokeEnd hx hd (by decide)
  rw [endFill_eq] at h
  exact h

/-! ### A fill goes on from another bay, or ends (R109, R110) -/

section
variable {o : PumpOp} {w : Work}

/-- The operation in its first stroke from another bay (R109). -/
def PumpOp.onward (o : PumpOp) (l : Letter) (e now : Nat) : PumpOp :=
  { o with
    bay := ⟨o.chan, l⟩, limit := (20000000 - e + 39999) / 40000 + 25, count := 1, missing := 0, changed := false
    bayGone := false, strokeStart := now, window := .open }

theorem fillGoesOn_bay {l : Letter} (h : activeLetter w.supply o.chan = some l) :
    fillGoesOn o w = setOp (some (o.onward l (chanRec w.toState o.chan).e w.now)) w := by
  simp only [fillGoesOn, h, strokeLimit_eq]
  rfl

theorem fillGoesOn_nobody (h : activeLetter w.supply o.chan = none) : fillGoesOn o w = endFill o .noSupply w := by
  simp only [fillGoesOn, h]

theorem fillStrokeEnd_full (h : o.fullCame = true) : fillStrokeEnd o w = endFill o .ok w := if_pos h

theorem fillStrokeEnd_changed (hf : o.fullCame = false) (h : o.changed = true) : fillStrokeEnd o w = fillGoesOn o w := by
  simp only [fillStrokeEnd, hf, h, if_true, Bool.false_eq_true, if_false]

theorem fillStrokeEnd_limit (hf : o.fullCame = false) (hg : o.changed = false) (h : o.count = o.limit) :
    fillStrokeEnd o w = endFill o .fillFault (setChan o.chan { chanRec w.toState o.chan with suspect := true } w) := by
  simp only [fillStrokeEnd, hf, hg, h, if_true, Bool.false_eq_true, if_false]
  rfl

theorem fillStrokeEnd_missing (hf : o.fullCame = false) (hg : o.changed = false) (hn : o.count ≠ o.limit) (h : 3 ≤ o.missing) :
    fillStrokeEnd o w = fillGoesOn o (noFlow o.bay w) := by
  have hm : Config.missingLimit ≤ o.missing := h
  simp only [fillStrokeEnd, hf, hg, hn, hm, if_true, Bool.false_eq_true, if_false]

end

/-! ### A no-flow (R85) -/

section
variable {r : BayRec} {c : Cart} {b : Bay} {w : Work}

theorem noFlowRec_spent (hc : r.cart = some c) (h : c.remaining * 20 ≤ c.capacity) :
    noFlowRec r = { r with state := .spent, entry := none } := by simp [noFlowRec, hc, h]

theorem noFlowRec_fault (hc : r.cart = some c) (h : ¬ c.remaining * 20 ≤ c.capacity) :
    noFlowRec r = { r with state := .fault, entry := none, fault := some .noFlow } := by simp [noFlowRec, hc, h]

theorem noFlowRec_keeps (hc : r.cart = some c) : (noFlowRec r).cart = r.cart ∧ (noFlowRec r).charged = r.charged
    ∧ (noFlowRec r).state ≠ .active ∧ bayItems b (noFlowRec r)
      = bayBytes b ++ (if c.remaining * 20 ≤ c.capacity then u8 4 else u8 6 ++ code .noFlow) := by
  by_cases h : c.remaining * 20 ≤ c.capacity
  · rw [noFlowRec_spent hc h, if_pos h]
    exact ⟨rfl, rfl, by simp, by simp [bayItems, BayState.num]⟩
  · rw [noFlowRec_fault hc h, if_neg h]
    exact ⟨rfl, rfl, by simp, by simp [bayItems, BayState.num, optCode]⟩

/-- A supply whose ACTIVE bay has given no flow: its record, and the write-back of what is left of it (R85). -/
def Supply.noFlowed (now : Nat) (b : Bay) (c : Cart) (u : Supply) : Supply :=
  (u.withBay b (noFlowRec (bayRec u b))).placed now ⟨.bay b, .write c.remaining, false⟩

/-- What is told of a bay that has given no flow (R72, R85). -/
def noFlowNotice (b : Bay) (c : Cart) : Notice :=
  eventNotice .supply 0 (bayBytes b ++ (if c.remaining * 20 ≤ c.capacity then u8 4 else u8 6 ++ code .noFlow))

theorem noFlow_active (ha : (bayRec w.supply b).state = .active) (hc : (bayRec w.supply b).cart = some c) :
    noFlow b w = judged b.chan (select b.chan (some b.letter) { w with
      supply := w.supply.noFlowed w.now b c
      outbox := w.outbox ++ [noFlowNotice b c] }) := by
  have hback : writeBack b (bayEvent b (setBay b (noFlowRec (bayRec w.supply b)) w))
      = placeOp ⟨.bay b, .write c.remaining, false⟩ (bayEvent b (setBay b (noFlowRec (bayRec w.supply b)) w)) :=
    writeBack_of ((congrArg BayRec.cart (bayRec_setBay_same b _ w)).trans ((noFlowRec_keeps (b := b) hc).1.trans hc))
  rw [noFlow, if_neg (not_not_intro ha), hback, bayEvent_setBay, (noFlowRec_keeps hc).2.2.2]
  rfl

theorem bayRec_noFlowed {u : Supply} {now : Nat} : bayRec (u.noFlowed now b c) b = noFlowRec (bayRec u b) :=
  bayRec_withBay_same

theorem bayRec_noFlowed_other {u : Supply} {now : Nat} :
    bayRec (u.noFlowed now b c) ⟨b.chan, b.letter.other⟩ = bayRec u ⟨b.chan, b.letter.other⟩ :=
  bayRec_withBay_other

theorem activeLetter_noFlowed {u : Supply} {now : Nat} (hc : (bayRec u b).cart = some c)
    (ho : (bayRec u ⟨b.chan, b.letter.other⟩).state ≠ .active) : activeLetter (u.noFlowed now b c) b.chan = none := by
  refine activeLetter_none_iff.mpr fun m => ?_
  obtain rfl | rfl := Letter.eq_or_other b.letter m
  · have h := (noFlowRec_keeps (b := b) hc).2.2.1
    rw [← bayRec_noFlowed (now := now) (c := c)] at h
    exact h
  · rw [bayRec_noFlowed_other]
    exact ho

/-- A no-flow whose bay has a partner with the same parameters (R81, R85). -/
theorem noFlow_partner {p : BayRec} (ha : (bayRec w.supply b).state = .active) (hc : (bayRec w.supply b).cart = some c)
    (hp : bayRec w.supply ⟨b.chan, b.letter.other⟩ = p) (hst : p.state = .standby) (hs : w.supply.supplied.get b.chan = true)
    (hpar : p.entry.bind (fun i => (w.supply.accepts[i]?).map Accept.params) = some (w.supply.params.get b.chan)) :
    noFlow b w = { w with
      supply := (w.supply.noFlowed w.now b c).withBay ⟨b.chan, b.letter.other⟩ { p with state := .active }
      outbox := w.outbox ++ [noFlowNotice b c]
        ++ [eventNotice .supply 1 (u8 b.chan.num ++ bayBytes b ++ bayBytes ⟨b.chan, b.letter.other⟩)] } := by
  have hna : (bayRec w.supply ⟨b.chan, b.letter.other⟩).state ≠ .active := by rw [hp, hst]; decide
  exact (noFlow_active ha hc).trans (judged_select_partner (w := { w with
    supply := w.supply.noFlowed w.now b c, outbox := w.outbox ++ [noFlowNotice b c] })
    (bayRec_noFlowed_other.trans hp) hst (activeLetter_noFlowed hc hna) hs hpar)

/-- A no-flow whose bay has no partner (R83, R85). -/
theorem noFlow_nobody (ha : (bayRec w.supply b).state = .active) (hc : (bayRec w.supply b).cart = some c)
    (hst : (bayRec w.supply ⟨b.chan, b.letter.other⟩).state ≠ .standby)
    (hna : (bayRec w.supply ⟨b.chan, b.letter.other⟩).state ≠ .active) (hs : w.supply.supplied.get b.chan = true) :
    noFlow b w = { w with
      supply := { w.supply.noFlowed w.now b c with supplied := w.supply.supplied.set b.chan false }
      agenda := w.agenda ++ [.inkChanged b.chan .supply]
      outbox := w.outbox ++ [noFlowNotice b c] ++ [eventNotice .supply 2 (u8 b.chan.num ++ u8 1)] } :=
  (noFlow_active ha hc).trans (judged_select_nobody (w := { w with
    supply := w.supply.noFlowed w.now b c, outbox := w.outbox ++ [noFlowNotice b c] })
    (by rw [bayRec_noFlowed_other]; exact hst) (activeLetter_noFlowed hc hna) hs)

end

/-- The bays after a fill: no mark is left, and every charged bay's write is on the bus (R86, R87). -/
theorem fillEnded_bays {u v : Supply} {now : Nat} {ch : Chan}
    (h : ∀ l, (bayRec v ⟨ch, l⟩).cart = (bayRec u ⟨ch, l⟩).cart
      ∧ (bayRec v ⟨ch, l⟩).charged = (bayRec u ⟨ch, l⟩).charged)
    (l : Letter) : (bayRec (v.fillEnded now ch) ⟨ch, l⟩).charged = false ∧ ∀ c, (bayRec u ⟨ch, l⟩).cart = some c →
      (bayRec u ⟨ch, l⟩).charged = true → ⟨.bay ⟨ch, l⟩, .write c.remaining, false⟩ ∈ (v.fillEnded now ch).bus := by
  obtain ⟨hcart, hmark⟩ := h l
  exact ⟨congrArg BayRec.charged (bayRec_fillEnded _ _ _ _),
    fun c hc hm => mem_fillEnded (hcart.trans hc) (hmark.trans hm)⟩

/-- Settles O43: pulses, windows and strokes, and the four ends of a fill with its two ways to go on. -/
theorem strokesFillTheTank : Obligations.StrokesFillTheTank := by
  intro s hs
  refine ⟨fun hn => ⟨occur_void hs (flowPulse_idle hn), occur_void hs (pulseWindowEnd_idle hn), occur_void hs (strokeEnd_idle hn)⟩,
    ?_⟩
  intro o ho with'
  have hon : opOn s.pump o.chan = true := opOn_of ho rfl
  refine ⟨fun hw => occur_void hs (flowPulse_late ho hw), fun ht => occur_void hs (pulseWindowEnd_early ho ht),
    fun ht => occur_void hs (strokeEnd_early ho ht),
    fun hw ht => occur_done hs Keeps.pulseWindowEnd (pulseWindowEnd_missed ho hw ht) rfl,
    fun hw ht hf hg hn hm => occur_done hs Keeps.strokeEnd (strokeEnd_goesOn ho hw ht hf hg hn hm) rfl,
    fun c hw hk hg hc hh hd he => ?_,
    fun hw hk => occur_done hs Keeps.flowPulse (flowPulse_stir ho hw hk) rfl, fun hw hk hg hp hab hv => ?_,
    fun hk hw ht hq hv hp hab => ?_⟩
  · have hx := strokeIn_charged (w := Work.of s) hg hc
    have hrec : chanRec (strokeIn o (Work.of s)).toState o.chan = addStroke (chanRec s o.chan) := by
      rw [hx]
      exact Chans.get_set_same _ _ _
    have hfull : Config.printReserve ≤ (addStroke (chanRec s o.chan)).e := 
      Nat.le_min.mpr ⟨le_trans he (Nat.le_add_right _ _), by decide⟩
    have hop : opOn (strokeIn o (Work.of s)).pump o.chan = true := by
      rw [hx]
      exact opOn_of (o := o.pulsedOnce) rfl rfl
    have hkept := levelChanged_kept hop hrec ((addStroke_flags _).1.trans hh) ((addStroke_flags _).2.trans hd) hfull
    exact occur_done hs Keeps.flowPulse ((flowPulse_fill ho hw hk).trans (hkept.trans hx)) rfl
  · generalize hc : addStroke (chanRec s o.chan) = c
    let x : Work := { setChan o.chan c.flagged (setOp (some o.pulsedOnce) (Work.of s)) with
      outbox := flagNotices o.chan c, agenda := flagReports o.chan c }
    have hpulse : flowPulse (Work.of s) = x := flowPulse_gone ho hw hk hg hc
    have hdrain : drain reportBound x = some { x with agenda := [] } :=
      drain_allUnheard (fun p hr rest => by
        obtain ⟨k, rfl⟩ := mem_flagReports hr
        exact inkChanged_unheard hp hab hv) rfl (length_flagReports c)
    have h := occur_drained (w := { x with agenda := [] }) hs Keeps.flowPulse (by rw [hpulse]; exact hdrain)
    subst hc
    intro r e dry hold
    have hrec : (addStroke (chanRec s o.chan)).flagged = { r with
        drawn := r.drawn + 40000, e := e, reconcile := r.reconcile - ((r.e + 40000 - 20000000 : Nat) : Int)
        dry := dry, hold := hold } := by
      exact flagged_addStroke r
    have hnotes : flagNotices o.chan (addStroke (chanRec s o.chan))
        = (if dry = r.dry then [] else [eventNotice .supply 3 (u8 o.chan.num ++ u8 0)])
          ++ if hold = r.hold then [] else [eventNotice .supply 4 (u8 o.chan.num ++ u8 (if hold then 1 else 0))] := by
      rw [flagNotices, hrec, (addStroke_flags _).1, (addStroke_flags _).2]
      dsimp only [flag]
    rw [← hrec, ← hnotes]
    exact h
  · intro ch r ended onward
    have hfill := strokeEnd_fill (w := Work.of s) ho hw ht hk
    have hends {outcome : Code} (hx : strokeEnd (Work.of s) = endFill o outcome (Work.of s))
        (hlook : Config.refillThreshold ≤ r.e ∨ s.supply.supplied.get ch = false ∨ r.suspect = true) :
        ∃ t, exec .strokeEnd s = .next t ∧ ended t outcome r.suspect [] :=
      ⟨_, strokeEnd_fillEnds hs hx hq hv hp hab (.inl rfl) hlook, rfl, rfl, fillEnded_bays fun _ => ⟨rfl, rfl⟩, rfl⟩
    refine ⟨fun hf he => hends (hfill.trans (fillStrokeEnd_full hf)) (.inl he), fun l hf hg hl => ?_,
      fun hf hg hl hsup => hends (hfill.trans ((fillStrokeEnd_changed hf hg).trans (fillGoesOn_nobody hl))) (.inr (.inl hsup)),
      fun hf hg hn => ?_, fun l b c hf hg hn hm hb hbr hba hbc hsup => ?_⟩
    · exact occur_done hs Keeps.strokeEnd (hfill.trans ((fillStrokeEnd_changed hf hg).trans (fillGoesOn_bay hl))) rfl
    · let x : Work := setChan ch { r with suspect := true } (Work.of s)
      have hrec : chanRec x.toState ch = { r with suspect := true } := Chans.get_set_same _ _ _
      refine ⟨_, strokeEnd_fillEnds (x := x) hs (hfill.trans (fillStrokeEnd_limit hf hg hn)) hq hv hp hab (.inl rfl)
        (.inr (.inr (congrArg Channel.suspect hrec))), ?_, ?_, fillEnded_bays fun _ => ⟨rfl, rfl⟩, rfl⟩
      · exact filled_setChan o _ _ _
      · exact congrArg (fun e => told ([] ++ fillNotices o .fillFault e) s.link)
          (show (chanRec x.toState ch).e = r.e by rw [hrec])
    · subst hbr
      rw [hb] at hba hbc ⊢
      have hmiss := hfill.trans (fillStrokeEnd_missing hf hg hn hm)
      rw [hb] at hmiss
      intro spent left gone
      let b : Bay := ⟨ch, l⟩
      let u : Supply := s.supply.noFlowed s.now b c
      have hrec : bayRec u b = noFlowRec (bayRec s.supply b) := bayRec_noFlowed
      refine ⟨fun hst hpar => ?_, fun hst hna => ?_⟩
      · have hnf := noFlow_partner (w := Work.of s) hba hbc rfl hst hsup hpar
        let p : BayRec := { bayRec s.supply ⟨ch, l.other⟩ with state := .active }
        have hl : activeLetter (u.withBay ⟨ch, l.other⟩ p) ch = some l.other :=
          activeLetter_withBay_active (b := ⟨ch, l.other⟩) (activeLetter_noFlowed (b := b) hbc (by rw [hst]; decide)) rfl
        have hkept : bayRec (u.withBay ⟨ch, l.other⟩ p) b = bayRec u b := by
          have h := bayRec_withBay_other (u := u) (b := ⟨ch, l.other⟩) (r := p)
          rw [Letter.other_other] at h
          exact h
        refine ⟨_, occur_done hs Keeps.strokeEnd (hmiss.trans ((congrArg (fillGoesOn o) hnf).trans (fillGoesOn_bay hl))) rfl,
          ⟨fun hsp => ?_, fun hsp => ?_, mem_busJoin_write _ _ _ _⟩, rfl, bayRec_withBay_same, rfl, rfl, rfl⟩
        · exact (hkept.trans hrec).trans (noFlowRec_spent hbc hsp)
        · exact (hkept.trans hrec).trans (noFlowRec_fault hbc hsp)
      · have hnf := noFlow_nobody (w := Work.of s) hba hbc hst hna hsup
        have hl : activeLetter u ch = none := activeLetter_noFlowed (b := b) hbc hna
        have hend := hmiss.trans ((congrArg (fillGoesOn o) hnf).trans (fillGoesOn_nobody hl))
        obtain ⟨hcart, hmark, -, -⟩ := noFlowRec_keeps (b := b) hbc
        refine ⟨_, strokeEnd_fillEnds hs hend hq hv hp hab (.inr rfl) (.inr (.inl (Chans.get_set_same _ _ _))),
          ⟨fun hsp => ?_, fun hsp => ?_, ?_⟩, fillEnded_supplied _ _ _, rfl, rfl, fillEnded_bays fun m => ?_, rfl⟩
        · exact (bayRec_fillEnded _ _ _ _).trans
            (congrArg (fun y : BayRec => { y with charged := false }) (hrec.trans (noFlowRec_spent hbc hsp)))
        · exact (bayRec_fillEnded _ _ _ _).trans
            (congrArg (fun y : BayRec => { y with charged := false }) (hrec.trans (noFlowRec_fault hbc hsp)))
        · exact mem_fillEnded_of_mem ((congrArg BayRec.cart hrec).trans (hcart.trans hbc)) (mem_busJoin_write _ _ _ _)
        · obtain rfl | rfl := Letter.eq_or_other l m
          · exact ⟨(congrArg BayRec.cart hrec).trans hcart, (congrArg BayRec.charged hrec).trans hmark⟩
          · have hother : bayRec u ⟨ch, l.other⟩ = bayRec s.supply ⟨ch, l.other⟩ := bayRec_noFlowed_other (b := b)
            exact ⟨congrArg BayRec.cart hother, congrArg BayRec.charged hother⟩

end Sys2Proof.Machine
end

section
/-! ## Counts, deadlines and the sheet that asked for the move (R9 to R18, R52, R58, R66; O14, O15) -/

namespace Sys2Proof.Machine

open Sys2Proof

set_option Elab.async false

/-! ### The feed drive -/

section
variable {m : Move} {x : Nat} {w : Work}

theorem countMove_idle (h : w.feed.move = none) : countMove x w = w := by simp only [countMove, h]

theorem countMove_more (h : w.feed.move = some m) (hc : m.seen + 1 < m.commanded) :
    countMove x w = { w with feed := { w.feed with move := some { m with seen := m.seen + 1 } } } := by
  simp only [countMove, h, Nat.not_le.mpr hc, if_false]

theorem countMove_last (h : w.feed.move = some m) (hc : m.seen + 1 = m.commanded) :
    countMove x w = completeMove { m with seen := m.commanded } x w := by
  simp only [countMove, h, hc, le_refl, if_true]

theorem completeMove_slip (ht : m.tracked = true) (hs : max 300 (m.ask.a / 50) < ((m.ask.a : Int) - (x : Int)).natAbs) :
    completeMove m x w = endMove m .slip (some x) w := by
  have hs' : slipped m.ask.a x = true := decide_eq_true hs
  simp only [completeMove, ht, hs', Bool.not_true, Bool.false_eq_true, if_true, if_false]

theorem trackAfter_eq (sTrack : Int) (a x : Nat) : trackAfter sTrack a x
    = if a < 10000 then sTrack
      else clampInt (-5000) 5000 (sTrack + ((((a : Int) - x) * 1000000).tdiv a).tdiv 8) := by
  have h1 : Config.trimMinMove = 10000 := rfl
  have h2 : Config.trackTrimLimit = 5000 := rfl
  have h3 : (Config.million : Int) = 1000000 := rfl
  rw [trackAfter, trackError, h1, h2, h3]

theorem completeMove_tracked (ht : m.tracked = true) (hs : ((m.ask.a : Int) - (x : Int)).natAbs ≤ max 300 (m.ask.a / 50)) :
    completeMove m x w = endMove m .completed (some x)
      { w with feed := { w.feed with sTrack := trackAfter w.feed.sTrack m.ask.a x } } := by
  have hs' : slipped m.ask.a x = false := decide_eq_false (Nat.not_lt.mpr hs)
  simp only [completeMove, ht, hs', Bool.not_true, Bool.false_eq_true, if_false]

theorem stallMove_idle (h : w.feed.move = none) : stallMove w = w := by simp only [stallMove, h]

theorem stallMove_moving (h : w.feed.move = some m) (hc : m.seen ≠ 0 ∨ w.now < m.start + 30) : stallMove w = w := by
  have hno : (m.seen = 0 && reached (stallDue m) w.now) = false := by
    obtain hc | hc := hc
    · simp [hc]
    · have hr : reached (stallDue m) w.now = false := (reached_false_iff _ _).mpr hc
      simp [hr]
  simp only [stallMove, h, hno, Bool.false_eq_true, if_false]

theorem stallMove_stalled (h : w.feed.move = some m) (hc : m.seen = 0) (ht : m.start + 30 ≤ w.now) :
    stallMove w = endMove m .feedStall none w := by
  have hr : reached (stallDue m) w.now = true := (reached_iff _ _).mpr ht
  simp only [stallMove, h, hc, hr, decide_true, Bool.and_self, if_true]

theorem timeoutMove_idle (h : w.feed.move = none) : timeoutMove w = w := by simp only [timeoutMove, h]

theorem timeoutMove_early (h : w.feed.move = some m) (ht : w.now < m.start + 60 + (m.commanded + 99) / 100) : timeoutMove w = w := by
  have hr : reached (completionDue m) w.now = false := (reached_false_iff _ _).mpr ht
  simp only [timeoutMove, h, hr, Bool.false_eq_true, if_false]

theorem timeoutMove_due (h : w.feed.move = some m) (ht : m.start + 60 + (m.commanded + 99) / 100 ≤ w.now) :
    timeoutMove w = endMove m .feedTimeout none w := by
  have hr : reached (completionDue m) w.now = true := (reached_iff _ _).mpr ht
  simp only [timeoutMove, h, hr, if_true]

/-- The report of a move that ends (R18). -/
def Move.report (m : Move) (outcome : MoveOutcome) (measured : Option Nat) (k : Nat) : MoveReport :=
  ⟨m.ask, outcome, m.commanded, m.seen, reportTravel k m.ask.a m.seen outcome, measured, m.sUsed⟩

theorem askAgainMove_none (h : w.feed.again = none) : askAgainMove w = w := by simp only [askAgainMove, h]

end

/-! ### What a move leaves of the roll it fed (R32) -/

/-- The path once the THREADED roll has lost the travel of a forward move. -/
def Media.fed (slot : Slot) (travel : Nat) (m : Media) : Media :=
  { m with rolls := m.rolls.set slot { m.rolls.get slot with remaining := (m.rolls.get slot).remaining.map (· - travel) } }

theorem accountMove_forward {r : MoveReport} {slot : Slot} {w : Work} (ht : threadedSlot w.media = some slot)
    (hf : r.ask.forward = true) (ha : 1 ≤ r.ask.a) : accountMove r w = { w with media := w.media.fed slot r.travel } := by
  have hs : ((1 ≤ r.ask.a && (w.media.rolls.get slot).state ≠ .ended) : Bool) = true := by
    rw [threadedSlot_state ht]
    simp [ha]
  simp only [accountMove, rollOnPath_threaded ht, hs, if_true, hf]
  rfl

/-- A forward move of the sheet has ended: the roll is accounted for, and the sheet hears of it. -/
theorem deliver_sheetMove {r : MoveReport} {slot : Slot} {n : Nat} {w x : Work} (ht : threadedSlot w.media = some slot)
    (hf : r.ask.forward = true) (ha : 1 ≤ r.ask.a) (hr : r.ask.requester = .sheet) (hn : r.travel = n)
    (hx : sheetMoveEnded r { w with media := w.media.fed slot n } = x) (hagain : x.feed.again = none) :
    deliver (.moveEnded r) w = x := by
  subst hn
  change askAgainMove (moveRequester r (accountMove r w)) = x
  rw [accountMove_forward ht hf ha]
  simp only [moveRequester, hr]
  rw [hx, askAgainMove_none hagain]

/-! ### A fault of the sheet (R65, R66) -/

/-- The record of a faulted sheet whose queue holds no waiting swath (R66). -/
def faultedSheet (reason : Code) (x : Sheet) : Sheet :=
  { x with phase := .faulted, fault := some reason, openTag := none, close := none, abort := none }

/-- What the operation under way is told when its sheet, until then in the phase `old`, faults, while no abort stands
(R66 step 3). -/
def operationNotices (reason : Code) (old : SheetPhase) (stack : Nat) (x : Sheet) : List Notice :=
  x.openTag.toList.map (fun tag => opDoneNotice kindSheetOpen tag reason (absent 5))
    ++ x.close.toList.map fun c =>
      opDoneNotice kindSheetClose c.tag (if old = .swathing then .aborted else reason) (u8 stack)

theorem discardWaiting_none {w : Work} (h : ∀ e ∈ w.sheet.queue, e.inFlight = true) : discardWaiting w = w := by
  have hf : w.sheet.queue.filter (fun e => !e.inFlight) = [] := by simpa [List.filter_eq_nil_iff] using h
  simp only [discardWaiting, hf, forEach_nil]

theorem endOperation_eq {reason : Code} {old : SheetPhase} {w : Work} (h : w.sheet.abort = none) :
    endOperation reason old w = { w with
      sheet := { w.sheet with openTag := none, close := none, abort := none }
      outbox := w.outbox ++ operationNotices reason old w.media.stack w.sheet } := by
  cases ho : w.sheet.openTag <;> cases hc : w.sheet.close
  all_goals
    simp only [endOperation, operationNotices, ho, hc, h, Option.toList_none, Option.toList_some, List.map_nil, List.map_cons,
      List.nil_append, List.append_nil, ← List.append_assoc]
    rfl

/-- A fault of a sheet with no waiting swath and no abort (R66). -/
theorem faultNow_eq {reason : Code} {x : Sheet} {ns : List Notice} {w : Work} (hq : ∀ e ∈ w.sheet.queue, e.inFlight = true)
    (ha : w.sheet.abort = none) (hx : faultedSheet reason w.sheet = x)
    (hn : operationNotices reason w.sheet.phase w.media.stack w.sheet = ns) :
    faultNow reason w = { w with
      sheet := x, outbox := w.outbox ++ ns ++ [eventNotice .sheet 6 (code reason)] } := by
  subst hx hn
  rw [faultNow, discardWaiting_none (w := modSheet (fun x => { x with phase := .faulted, fault := some reason }) w) hq,
    endOperation_eq (w := modSheet (fun x => { x with phase := .faulted, fault := some reason }) w) ha]
  rfl

/-! ### The sheet hears of its move -/

section
variable {r : MoveReport} {w : Work}

/-- The record of a sheet whose move has ended: media has moved where a count was seen (R52). -/
def movedSheet (seen : Nat) (x : Sheet) : Sheet := { x with fed := x.fed || decide (0 < seen) }

theorem sheetMoveEnded_margin (h : w.sheet.phase = .opening) (hp : r.ask.purpose = .leadingMargin) :
    sheetMoveEnded r w = marginEnded r { w with sheet := movedSheet r.seen w.sheet } := by
  rw [sheetMoveEnded, if_neg (by rw [h]; decide), hp]
  rfl

theorem marginEnded_fault (h : w.sheet.phase = .opening) (ha : w.sheet.abort = none) (hf : r.outcome.isFault = true) :
    marginEnded r w = faultNow r.outcome.code w := by simp [marginEnded, h, ha, hf]

theorem sheetMoveEnded_swath {x : Sheet} (h : w.sheet.phase = .swathing) (hp : r.ask.purpose = .swath)
    (hx : movedSheet r.seen w.sheet = x) : sheetMoveEnded r w = swathEnded r { w with sheet := x } := by
  subst hx
  rw [sheetMoveEnded, if_neg (by rw [h]; decide), hp]
  rfl

/-- The leading margin of an opening sheet has failed: its open ends (R52, R66). -/
theorem sheetMoveEnded_marginFails {tag : Nat} (h : w.sheet.phase = .opening) (hp : r.ask.purpose = .leadingMargin)
    (ha : w.sheet.abort = none) (hc : w.sheet.close = none) (ho : w.sheet.openTag = some tag) (hq : w.sheet.queue = [])
    (hf : r.outcome.isFault = true) :
    sheetMoveEnded r w = { w with
      sheet := { w.sheet with
        phase := .faulted, fault := some r.outcome.code, openTag := none, fed := w.sheet.fed || decide (0 < r.seen) }
      outbox := w.outbox ++ [opDoneNotice 0x01 tag r.outcome.code (absent 5), eventNotice .sheet 6 (code r.outcome.code)] } := by
  have hsheet : faultedSheet r.outcome.code (movedSheet r.seen w.sheet) = { w.sheet with
      phase := .faulted, fault := some r.outcome.code, openTag := none, fed := w.sheet.fed || decide (0 < r.seen) } := by
    simp only [faultedSheet, movedSheet, hc, ha]
  have hnotes : operationNotices r.outcome.code (movedSheet r.seen w.sheet).phase w.media.stack (movedSheet r.seen w.sheet)
      = [opDoneNotice kindSheetOpen tag r.outcome.code (absent 5)] := by
    simp [operationNotices, movedSheet, ho, hc]
  rw [sheetMoveEnded_margin h hp, marginEnded_fault (w := { w with sheet := movedSheet r.seen w.sheet }) h ha hf,
    faultNow_eq (w := { w with sheet := movedSheet r.seen w.sheet }) (by simp [movedSheet, hq]) ha hsheet hnotes]
  dsimp only
  rw [List.append_assoc]
  rfl

/-- SWATH_DONE of the swath whose move has ended, with `left` entries still in the queue (R58). -/
def swathNotice (e : Swath) (r : MoveReport) (left : Nat) : Notice :=
  .completion 0x62 e.tag (code (if r.outcome.isFault then .discarded else .completed)
    ++ code (if r.outcome.isFault then r.outcome.code else .ok) ++ u32 r.commanded ++ u32 r.seen ++ o32 r.measured
    ++ s32 r.sUsed ++ u8 (Config.swathSlots - left))

/-- A swath's move has passed while its sheet is SWATHING (R58, R59). -/
theorem swathEnded_passed {e : Swath} {rest : List Swath} (h : w.sheet.phase = .swathing) (ha : w.sheet.abort = none)
    (hq : w.sheet.queue = e :: rest) (hf : r.outcome.isFault = false) :
    swathEnded r w = sheetLook { w with
      sheet := { w.sheet with queue := rest, trailing := addTrail ⟨e.advance, e.ink⟩ w.sheet.trailing }
      outbox := w.outbox ++ [swathNotice e r rest.length] } := by
  simp [swathEnded, hq, h, ha, hf, swathNotice, swathDone, modSheet, give, freeSwaths]

/-- A swath's move has failed while its sheet is SWATHING (R58, R66). -/
theorem swathEnded_failed {e : Swath} {rest : List Swath} (h : w.sheet.phase = .swathing) (ha : w.sheet.abort = none)
    (hq : w.sheet.queue = e :: rest) (hf : r.outcome.isFault = true) :
    swathEnded r w = faultNow r.outcome.code { w with
      sheet := { w.sheet with queue := rest }, outbox := w.outbox ++ [swathNotice e r rest.length] } := by
  simp [swathEnded, hq, h, ha, hf, swathNotice, swathDone, modSheet, give, freeSwaths]

end

/-! ### O15 and O14 -/

/-- Settles O15: the two deadlines of an opening sheet's margin, and what leaves a move as it is. -/
theorem countsAndDeadlinesRunTheMove : Obligations.CountsAndDeadlinesRunTheMove := by
  intro s hs
  refine ⟨?_, fun m hm hc => occur_void hs (stallMove_moving hm hc), fun m hm ht => occur_void hs (timeoutMove_early hm ht),
    fun m x hm hc => occur_done hs Keeps.countMove (countMove_more hm hc) rfl,
    fun hn => ⟨fun x => occur_void hs (countMove_idle hn), occur_void hs (stallMove_idle hn), occur_void hs (timeoutMove_idle hn)⟩⟩
  intro m slot tag hm hown hreq hfw hpur ha hag hth hph hab hcl hot hq ends
  have hends {f : Work → Work} {o : MoveOutcome} (hf : ∀ {w x : Work}, Keeps false w x → Keeps false w (f x))
      (hw : f (Work.of s) = endMove m o none (Work.of s)) (ho : o.isFault = true)
      (htr : reportTravel s.feed.k m.ask.a m.seen o = m.seen * 1000000 / s.feed.k) : occur f s = .next (ends o.code) := by
    have hsheet := sheetMoveEnded_marginFails (r := m.report o none s.feed.k) (tag := tag) (w := { Work.of s with
      feed := { s.feed with move := none }, media := s.media.fed slot (m.seen * 1000000 / s.feed.k) }) hph hpur hab hcl hot hq ho
    exact occur_one hs hf hw rfl (deliver_sheetMove (w := { Work.of s with feed := { s.feed with move := none } })
      hth hfw ha hreq htr hsheet hag) rfl
  exact ⟨fun hc ht => hends Keeps.stallMove (stallMove_stalled hm hc ht) rfl rfl,
    fun ht => hends Keeps.timeoutMove (timeoutMove_due hm ht) rfl rfl⟩

/-- Settles O14: the swath passes, or slips. -/
theorem trackedSwathIsJudged : Obligations.TrackedSwathIsJudged := by
  intro s m e slot x hs hm hask htr hseen ha hag hth hph hab hcl hot hq a media done
  obtain ⟨ask, commanded, sUsed, tracked, start, seen⟩ := m
  obtain rfl : ask = ⟨.sheet, .sheet, true, e.advance, .swath⟩ := hask
  have hlast := countMove_last (x := x) (w := Work.of s) hm hseen
  have hmoved : movedSheet commanded s.sheet = { s.sheet with fed := true } := by
    have hpos : 0 < commanded := by
      have : seen + 1 = commanded := hseen
      omega
    simp [movedSheet, hpos]
  let r (o : MoveOutcome) : MoveReport := ⟨⟨.sheet, .sheet, true, e.advance, .swath⟩, o, commanded, commanded, a, some x, sUsed⟩
  have hheard (o : MoveOutcome) (f : Feed) :=
    sheetMoveEnded_swath (r := r o) (w := { Work.of s with feed := f, media := s.media.fed slot a }) hph rfl hmoved
  refine ⟨fun hin => ?_, fun hout => ?_⟩
  · let f : Feed := { s.feed with move := none, sTrack := trackAfter s.feed.sTrack a x }
    have hpass := hlast.trans (completeMove_tracked htr hin)
    have hend := (hheard .completed f).trans ((swathEnded_passed (rest := []) (r := r .completed)
      (w := { Work.of s with feed := f, media := s.media.fed slot a, sheet := { s.sheet with fed := true } }) hph hab hq rfl).trans
        (sheetLook_idle rfl hcl))
    rw [← trackAfter_eq]
    exact occur_one hs Keeps.countMove hpass rfl
      (deliver_sheetMove (r := r .completed) (w := { Work.of s with feed := f }) hth rfl ha rfl rfl hend hag) rfl
  · let f : Feed := { s.feed with move := none }
    have hslip := hlast.trans (completeMove_slip htr hout)
    have hsheet : faultedSheet .slip { s.sheet with fed := true, queue := [] } = { s.sheet with
        queue := [], fed := true, phase := .faulted, fault := some .slip } := by
      simp only [faultedSheet, hot, hcl, hab]
    have hnotes : operationNotices .slip s.sheet.phase s.media.stack { s.sheet with fed := true, queue := [] } = [] := by
      simp [operationNotices, hot, hcl]
    have hend := (hheard .slip f).trans ((swathEnded_failed (rest := []) (r := r .slip)
      (w := { Work.of s with feed := f, media := s.media.fed slot a, sheet := { s.sheet with fed := true } }) hph hab hq rfl).trans
        (faultNow_eq (by simp) hab hsheet hnotes))
    exact occur_one hs Keeps.countMove hslip rfl
      (deliver_sheetMove (r := r .slip) (w := { Work.of s with feed := f }) hth rfl ha rfl rfl hend hag) rfl

end Sys2Proof.Machine
end

section
/-! ## The cut of a sheet, its exit and the basket (R39 to R42, R62 to R65; O23, O24, O25) -/

namespace Sys2Proof.Machine

open Sys2Proof

set_option Elab.async false

/-! ### The hold of a cut (R39, R126) -/

section
variable {w : Work}

theorem askHold_waits (hh : w.station.car.hold = .none)
    (hp : w.station.car.state.isParked = false ∨ w.station.car.still = false) :
    askHold w = { w with station := { w.station with car := { w.station.car with hold := .waiting, idleSince := none } } } := by
  have hmod : modCar (fun c => { c with hold := .waiting }) w = _ :=
    modCar_awake (by simp [Carriage.idles])
  rw [askHold, if_pos hh, hmod, testHold]
  refine if_neg ?_
  obtain h | h := hp
  · simp [h]
  · have h' : (!w.station.car.move.any CarMove.inFlight) = false := h
    simp [h']

theorem askHold_granted (hh : w.station.car.hold = .none) (hp : w.station.car.state.isParked = true)
    (hs : w.station.car.still = true) :
    askHold w = { w with
      station := { w.station with car := { w.station.car with hold := .granted, idleSince := none } }
      agenda := w.agenda ++ [.holdGranted] } := by
  have hmod : modCar (fun c => { c with hold := .waiting }) w = _ := modCar_awake (by simp [Carriage.idles])
  have hs' : (!w.station.car.move.any CarMove.inFlight) = true := hs
  rw [askHold, if_pos hh, hmod, testHold]
  dsimp only
  rw [if_pos (by simp [hp, hs']), modCar_awake (by simp [Carriage.idles])]
  rfl

theorem giveUpHold_still (hm : w.station.car.move = none) : giveUpHold w = { w with
    station := { w.station with car := ({ w.station.car with hold := .none } : Carriage).timed w.now } } := by
  rw [giveUpHold, tryMove_none]
  · rfl
  · simp [modCar, setStation, Carriage.timed, hm]

end

/-! ### The end of a cut and of the exit watch (R40, R41) -/

section
variable {w : Work} {owner : Owner} {piece : Piece} {start : Nat}

theorem cutComplete_none (h : w.media.cut = none) : cutComplete w = w := by simp only [cutComplete, h]

theorem cutterTimeout_none (h : w.media.cut = none) : cutterTimeout w = w := by simp only [cutterTimeout, h]

/-- The path once a cut has been made (R39 to R41). -/
def Media.cutMade (piece : Piece) (now : Nat) (m : Media) : Media :=
  { m with cut := none, content := .clean, exitWatch := if piece = .sheet then some now else m.exitWatch }

theorem cutComplete_cut (h : w.media.cut = some ⟨owner, piece, some start⟩) (hm : w.station.car.move = none) :
    cutComplete w = { w with
      feed := { w.feed with r := 0 }
      media := w.media.cutMade piece w.now
      station := { w.station with car := ({ w.station.car with hold := .none } : Carriage).timed w.now }
      agenda := w.agenda ++ [.cutEnded owner piece false] } := by
  have hgive := giveUpHold_still (w := modMedia (fun m => { m with cut := none }) w) hm
  simp only [cutComplete, h, hgive]
  cases piece <;> rfl

theorem cutterTimeout_early (h : w.media.cut = some ⟨owner, piece, some start⟩) (ht : w.now < start + 2500) :
    cutterTimeout w = w := by
  have hr : reached (start + Config.cutterTime) w.now = false := (reached_false_iff _ _).mpr ht
  simp only [cutterTimeout, h, hr, Bool.false_eq_true, if_false]

/-- The path once it has faulted in the hands of a sheet or a check (R27). -/
theorem pathFault_eq {reason : Code} {slot : Option Slot} (ho : w.media.owner ≠ .loading) (ho' : w.media.owner ≠ .unloading) :
    pathFault reason slot w = { w with
      media := { w.media with content := .fault }
      outbox := w.outbox ++ [eventNotice .media 0 (code reason ++ optSlot slot)] } := by
  simp [pathFault, ho, ho', modMedia, pathFaultEvent, event, give]
  rfl

theorem cutterTimeout_jam (h : w.media.cut = some ⟨.sheet, piece, some start⟩) (ht : start + 2500 ≤ w.now)
    (ho : w.media.owner = .sheet) (hm : w.station.car.move = none) :
    cutterTimeout w = { w with
      media := { w.media with cut := none, content := .fault }
      station := { w.station with car := ({ w.station.car with hold := .none } : Carriage).timed w.now }
      outbox := w.outbox ++ [eventNotice .media 0 (code .cutterJam ++ optSlot (concernedSlot w.media))]
      agenda := w.agenda ++ [.cutEnded .sheet piece true] } := by
  have hr : reached (start + Config.cutterTime) w.now = true := (reached_iff _ _).mpr ht
  have hgive := giveUpHold_still (w := modMedia (fun m => { m with cut := none }) w) hm
  have hfault := pathFault_eq (reason := .cutterJam) (slot := concernedSlot w.media) (w := { w with
    media := { w.media with cut := none }
    station := { w.station with car := ({ w.station.car with hold := .none } : Carriage).timed w.now } })
    (by simp [ho]) (by simp [ho])
  simp only [cutterTimeout, h, hr, if_true]
  exact congrArg (post (.cutEnded .sheet piece true)) ((congrArg (pathFault .cutterJam (concernedSlot w.media)) hgive).trans hfault)

theorem exitPass_none (h : w.media.exitWatch = none) : exitPass w = w := by simp [exitPass, h]

theorem exitPass_watched (h : w.media.exitWatch = some start) : exitPass w = { w with
    media := { w.media with exitWatch := none, stack := min 200 (w.media.stack + 1) }
    agenda := w.agenda ++ [.exitEnded false] } := by
  simp only [exitPass, h, Option.isSome_some, if_true]
  rfl

theorem exitWatchTimeout_none (h : w.media.exitWatch = none) : exitWatchTimeout w = w := by simp only [exitWatchTimeout, h]

theorem exitWatchTimeout_early (h : w.media.exitWatch = some start) (ht : w.now < start + 4000) : exitWatchTimeout w = w := by
  have hr : reached (start + Config.exitTime) w.now = false := (reached_false_iff _ _).mpr ht
  simp only [exitWatchTimeout, h, hr, Bool.false_eq_true, if_false]

theorem exitWatchTimeout_jam (h : w.media.exitWatch = some start) (ht : start + 4000 ≤ w.now) (ho : w.media.owner = .sheet) :
    exitWatchTimeout w = { w with
      media := { w.media with exitWatch := none, content := .fault }
      outbox := w.outbox ++ [eventNotice .media 0 (code .exitJam ++ optSlot (concernedSlot w.media))]
      agenda := w.agenda ++ [.exitEnded true] } := by
  have hr : reached (start + Config.exitTime) w.now = true := (reached_iff _ _).mpr ht
  have hfault := pathFault_eq (reason := .exitJam) (slot := concernedSlot w.media)
    (w := modMedia (fun m => { m with exitWatch := none }) w) (by simp [modMedia, ho]) (by simp [modMedia, ho])
  simp only [exitWatchTimeout, h, hr, if_true, hfault]
  rfl

end

/-! ### The sheet hears of its cut and its exit (R63 to R65) -/

section
variable {w : Work} {c : CloseRec}

theorem sheetCutEnded_made (h : w.sheet.phase = .cutting) : sheetCutEnded .sheet false w = { w with
    sheet := { w.sheet with phase := .ejecting, fed := false }, outbox := w.outbox ++ [eventNotice .sheet 4 []] } := by
  simp only [sheetCutEnded, h, ne_eq, not_true_eq_false, if_false, Bool.false_eq_true]
  rfl

/-- A sheet closed, with nothing else under way, faults: its close ends (R65, R66). -/
theorem faultNow_closed {reason : Code} (hc : w.sheet.close = some c) (ha : w.sheet.abort = none) (ho : w.sheet.openTag = none)
    (hq : w.sheet.queue = []) (hp : w.sheet.phase ≠ .swathing) : faultNow reason w = { w with
      sheet := { w.sheet with phase := .faulted, fault := some reason, close := none }
      outbox := w.outbox ++ [opDoneNotice 0x03 c.tag reason (u8 w.media.stack)] ++ [eventNotice .sheet 6 (code reason)] } := by
  have hsheet : faultedSheet reason w.sheet = { w.sheet with phase := .faulted, fault := some reason, close := none } := by
    simp only [faultedSheet, ho, ha]
  have hnotes : operationNotices reason w.sheet.phase w.media.stack w.sheet
      = [opDoneNotice 0x03 c.tag reason (u8 w.media.stack)] := by
    simp [operationNotices, ho, hc, hp, kindSheetClose]
  exact faultNow_eq (by simp [hq]) ha hsheet hnotes

theorem sheetCutEnded_jam (h : w.sheet.phase = .cutting) : sheetCutEnded .sheet true w = faultNow .cutterJam w := by
  simp only [sheetCutEnded, h, ne_eq, not_true_eq_false, if_false, if_true]

theorem sheetExitEnded_jam (h : w.sheet.phase = .ejecting) : sheetExitEnded true w = faultNow .exitJam w := by
  simp only [sheetExitEnded, h, ne_eq, not_true_eq_false, if_false, if_true]

/-- The path given up by a sheet, with no ejection and no switch to follow (R26). -/
theorem releasePath_idle (ho : w.media.owner = .sheet) (he : w.media.ejecting = none) (hs : w.media.switch = none) :
    releasePath .sheet w = { w with media := { w.media with owner := .idle } } := by
  rw [releasePath, if_pos ho, handOn_idle he hs]
  rfl

/-- A closed sheet is over and stacked (R64). -/
theorem sheetExitEnded_stacked (h : w.sheet.phase = .ejecting) (ha : w.sheet.abort = none) (hc : w.sheet.close = some c)
    (ho : w.media.owner = .sheet) (he : w.media.ejecting = none) (hs : w.media.switch = none) :
    sheetExitEnded false w = { w with
      media := { w.media with owner := .idle }, sheet := closedSheet w.sheet
      outbox := w.outbox ++ [eventNotice .sheet 5 (u8 w.media.stack), opDoneNotice 0x03 c.tag .ok (u8 w.media.stack)] } := by
  have hrel := releasePath_idle (w := modSheet closedSheet (sheetEvent 5 (u8 w.media.stack) w)) ho he hs
  have hfirst : sheetExitEnded false w = endSheet (sheetEvent 5 (u8 w.media.stack) w) := by
    simp only [sheetExitEnded, h, ne_eq, not_true_eq_false, if_false, Bool.false_eq_true]
  have hend : endSheet (sheetEvent 5 (u8 w.media.stack) w)
      = cutDone kindSheetClose c.tag .ok (releasePath .sheet (modSheet closedSheet (sheetEvent 5 (u8 w.media.stack) w))) := by
    have ha' : (sheetEvent 5 (u8 w.media.stack) w).sheet.abort = none := ha
    have hc' : (sheetEvent 5 (u8 w.media.stack) w).sheet.close = some c := hc
    simp only [endSheet, ha', hc']
  rw [hfirst, hend, hrel]
  simp only [cutDone, opDone, give, sheetEvent, event, modSheet, List.append_assoc]
  rfl

end

/-! ### The cut is asked for (R39, R42, R63) -/

section
variable {w : Work} {owner : Owner} {piece : Piece} {t : Nat}

theorem requestCut_taken (ho : w.media.owner = owner) (hc : w.media.content = .clean ∨ w.media.content = .dirty)
    (hn : w.media.cut = none) (hm : w.feed.move = none) :
    requestCut owner piece w = askHold { w with media := { w.media with cut := some ⟨owner, piece, none⟩ } } := by
  have hfree : cutRefused owner w.toState = false := by
    obtain hc | hc := hc <;> simp [cutRefused, ho, hc, hn, hm]
  simp only [requestCut, hfree, Bool.false_eq_true, if_false]
  rfl

theorem askRoom_full (h : w.conf.stackLimit ≤ w.media.stack) :
    askRoom w = { w with sheet := { w.sheet with roomWait := true } } := by
  have hno : basketRoom w.toState = false := decide_eq_false (Nat.not_lt.mpr h)
  simp only [askRoom, hno, Bool.false_eq_true, if_false]
  rfl

theorem askRoom_room (h : w.media.stack < w.conf.stackLimit) (ho : w.media.owner = .sheet)
    (hc : w.media.content = .clean ∨ w.media.content = .dirty) (hn : w.media.cut = none) (hm : w.feed.move = none) :
    askRoom w = askHold { w with
      sheet := { w.sheet with roomWait := false }, media := { w.media with cut := some ⟨.sheet, .sheet, none⟩ } } := by
  have hyes : basketRoom w.toState = true := decide_eq_true h
  simp only [askRoom, hyes, if_true]
  exact requestCut_taken (w := modSheet (fun x => { x with roomWait := false }) w) ho hc hn hm

theorem sheetRoom_unheard (h : w.sheet.phase ≠ .cutWait ∨ w.sheet.roomWait = false) : sheetRoom w = w := by
  refine if_neg ?_
  obtain h | h := h <;> simp [h]

theorem sheetRoom_waiting (h : w.sheet.phase = .cutWait) (hr : w.sheet.roomWait = true) : sheetRoom w = askRoom w := by
  simp [sheetRoom, h, hr]

theorem dryEnd_early (h : w.sheet.dryEnd = some t) (ht : w.now < t) : dryEnd w = w := by
  have hr : reached t w.now = false := (reached_false_iff _ _).mpr ht
  simp only [dryEnd, h, Option.any_some, hr, Bool.and_false, Bool.false_eq_true, if_false]

theorem dryEnd_due (hp : w.sheet.phase = .drying) (h : w.sheet.dryEnd = some t) (ht : t ≤ w.now) : dryEnd w = enterCutWait w := by
  have hr : reached t w.now = true := (reached_iff _ _).mpr ht
  simp only [dryEnd, hp, h, Option.any_some, hr, decide_true, Bool.and_self, if_true]

/-- The cutter starts over a carriage that has granted its hold, and the sheet is CUTTING (R39, R63). -/
theorem drain_cutStarts (ha : w.agenda = [.holdGranted]) (hc : w.media.cut = some ⟨.sheet, .sheet, none⟩)
    (hh : w.station.car.hold = .granted) (hp : w.sheet.phase = .cutWait) : drain 2 w = some { w with
      agenda := []
      media := { w.media with cut := some ⟨.sheet, .sheet, some w.now⟩ }
      sheet := { w.sheet with phase := .cutting }, outbox := w.outbox ++ [eventNotice .sheet 3 []] } := by
  have h1 : deliver .holdGranted { w with agenda := [] } = { w with
      media := { w.media with cut := some ⟨.sheet, .sheet, some w.now⟩ }, agenda := [.cutStarted .sheet] } := by
    change onHoldGranted { w with agenda := [] } = _
    simp only [onHoldGranted, hc, hh, if_true]
    rfl
  have h2 : deliver (.cutStarted .sheet) { w with
      media := { w.media with cut := some ⟨.sheet, .sheet, some w.now⟩ }, agenda := [] } = { w with
      agenda := []
      media := { w.media with cut := some ⟨.sheet, .sheet, some w.now⟩ }
      sheet := { w.sheet with phase := .cutting }, outbox := w.outbox ++ [eventNotice .sheet 3 []] } := if_pos hp
  exact drain_step ha h1 (drain_step rfl h2 (drain_nil 0 rfl))

end

/-- Settles O23: the cut is made, or jams at 2,500 ms. -/
theorem cutEndsInSheetOrJam : Obligations.CutEndsInSheetOrJam := by
  intro s hs
  refine ⟨fun start c hcut hph hab hcl hot hq ho hm => ?_,
    fun hn => ⟨occur_void hs (cutComplete_none hn), occur_void hs (cutterTimeout_none hn)⟩⟩
  intro car
  have hns : s.sheet.phase ≠ .swathing := by rw [hph]; decide
  refine ⟨?_, fun ht => ?_, fun ht => occur_void hs (cutterTimeout_early hcut ht)⟩
  · exact occur_one hs Keeps.cutComplete (cutComplete_cut hcut hm) rfl (sheetCutEnded_made hph) rfl
  · exact occur_one hs Keeps.cutterTimeout (cutterTimeout_jam hcut ht ho hm) rfl
      ((sheetCutEnded_jam hph).trans (faultNow_closed hcl hab hot hq hns)) rfl

/-- Settles O24: a pass in time, or the watch's end at 4,000 ms. -/
theorem exitWatchStacksOrJams : Obligations.ExitWatchStacksOrJams := by
  intro s hs
  refine ⟨fun hn => ⟨occur_void hs (exitPass_none hn), occur_void hs (exitWatchTimeout_none hn)⟩, ?_⟩
  intro start c hw hph hab hcl hot hq ho he hsw stack
  have hns : s.sheet.phase ≠ .swathing := by rw [hph]; decide
  refine ⟨?_, fun ht => ?_, fun ht => occur_void hs (exitWatchTimeout_early hw ht)⟩
  · exact occur_one hs Keeps.exitPass (exitPass_watched hw) rfl (sheetExitEnded_stacked hph hab hcl ho he hsw) rfl
  · exact occur_one hs Keeps.exitWatchTimeout (exitWatchTimeout_jam hw ht ho) rfl
      ((sheetExitEnded_jam hph).trans (faultNow_closed hcl hab hot hq hns)) rfl

/-- Settles O25: no sheet waits for room; the drying ends on a full basket; the cut is asked for with the hold granted, or waiting. -/
theorem sheetCutWaitsForRoom : Obligations.SheetCutWaitsForRoom := by
  intro s hs
  refine ⟨fun h => occur_unheard hs Keeps.basketEmptied rfl rfl (sheetRoom_unheard h), fun t hp hd => ⟨fun ht => ?_,
    fun ht hfull => ?_⟩, fun ho hc hn hm hh hl => ?_⟩
  · exact occur_void hs (dryEnd_early hd ht)
  · exact occur_done hs Keeps.dryEnd ((dryEnd_due hp hd ht).trans (askRoom_full hfull)) rfl
  · intro asks dried
    have hroom0 : 0 < s.conf.stackLimit := hl
    let emptied : Work := { Work.of s with media := { s.media with stack := 0 } }
    let waiting : Work := { Work.of s with
      sheet := { s.sheet with phase := .cutWait, fault := none, dryEnd := none }, outbox := [eventNotice .sheet 2 []] }
    refine ⟨fun hpk hst => ?_, fun haway => ?_⟩
    · refine ⟨fun hp hr => ?_, fun t hp hd ht hroom => ?_⟩
      · have h := (sheetRoom_waiting (w := emptied) hp hr).trans
          ((askRoom_room (w := emptied) hroom0 ho hc hn hm).trans (askHold_granted hh hpk hst))
        exact occur_from hs Keeps.basketEmptied rfl (drain_step rfl h (drain_cutStarts rfl rfl rfl hp)) (by decide)
      · have h := (dryEnd_due hp hd ht).trans
          ((askRoom_room (w := waiting) hroom ho hc hn hm).trans (askHold_granted hh hpk hst))
        exact occur_from hs Keeps.dryEnd h (drain_cutStarts rfl rfl rfl rfl) (by decide)
    · refine ⟨fun hp hr => ?_, fun t hp hd ht hroom => ?_⟩
      · have h := (sheetRoom_waiting (w := emptied) hp hr).trans
          ((askRoom_room (w := emptied) hroom0 ho hc hn hm).trans (askHold_waits hh haway))
        exact occur_one hs Keeps.basketEmptied rfl rfl h rfl
      · have h := (dryEnd_due hp hd ht).trans
          ((askRoom_room (w := waiting) hroom ho hc hn hm).trans (askHold_waits hh haway))
        exact occur_done hs Keeps.dryEnd h rfl

end Sys2Proof.Machine
end

section
/-! ## Rolls: unload, select, presence switches and roll ends (R21, R22, R33 to R37; O17, O20) -/

namespace Sys2Proof.Machine

open Sys2Proof

set_option Elab.async false

/-! ### The rewind of an unload (R33, R34) -/

section
variable {w : Work} {job : Job} {tag : Option Nat} {sl : Slot} {old : Option Slot}

/-- The carriage under the media claim (R125). -/
def Carriage.mediaClaimed (c : Carriage) : Carriage := { c with claims := { c.claims with media := true }, idleSince := none }

theorem setMediaClaim_true : setMediaClaim true w
    = { w with station := { w.station with car := w.station.car.mediaClaimed } } :=
  modCar_awake (by simp [Carriage.idles, Claims.any])

theorem takeSeq_eq {q : Sequence} : takeSeq q w = { w with
    media := { w.media with seq := some q, switch := none }
    station := { w.station with car := w.station.car.mediaClaimed } } := setMediaClaim_true

/-- The unload part of a sequence on a CLEAN path: the rewind starts, in reverse and with R left (R8, R33, R34). -/
theorem startUnload_clean (hc : w.media.content = .clean) (hm : w.feed.move = none) (hk : 700000 * w.feed.k / 1000000 ≠ 0) :
    startUnloadPart (takeSeq (newSeq job tag sl old) w) = { w with
      media := { w.media with
        owner := .unloading, switch := none
        seq := some ⟨job, .unloadRewind, tag, sl, old, 0, none, .left, none, 0, none, none, none, false⟩ }
      feed := { w.feed with
        move := some ⟨⟨.unloading, .media, false, 700000, .rewind⟩, 700000 * w.feed.k / 1000000, 0, false, w.now, 0⟩ }
      station := { w.station with car := w.station.car.mediaClaimed } } := by
  have hnd : ¬ (setOwner .unloading (takeSeq (newSeq job tag sl old) w)).media.content = .dirty := by
    rw [takeSeq_eq]
    simp [setOwner, modMedia, hc]
  rw [startUnloadPart, if_neg hnd, unloadRewind, askMove_taken, startMove_reverse rfl]
  · rw [takeSeq_eq]
    rfl
  · rw [takeSeq_eq]
    exact hk
  · refine moveAnswer_taken ?_ rfl ?_ rfl rfl
    · rw [takeSeq_eq]
      exact hm
    · simp [setOwner, modMedia, modSeq]

end

theorem mediaUnload_clean {tag : Nat} {old : Slot} {w : Work} (ht : threadedSlot w.media = some old)
    (hc : w.media.content = .clean) (ho : w.media.owner = .idle) (he : w.media.ejecting = none) :
    mediaUnload tag w = startUnloadPart (takeSeq (newSeq .unload (some tag) old (some old)) (started old.num w)) := by
  simp [mediaUnload, ht, hc, ho, he]

theorem rollSelect_threaded {tag : Nat} {sl : Slot} {w : Work} (h : (w.media.rolls.get sl).state = .threaded) :
    rollSelect tag sl.num w = okWith [] w := by simp [rollSelect, h]

theorem rollSelect_other {tag : Nat} {sl old : Slot} {w : Work} (ht : threadedSlot w.media = some old)
    (hc : w.media.content = .clean) (ho : w.media.owner = .idle) (he : w.media.ejecting = none) (hp : parked w.toState = true)
    (hs : switchable w.toState (w.media.rolls.get sl) = true) :
    rollSelect tag sl.num w
      = startUnloadPart (takeSeq (newSeq .select (some tag) sl (some old)) (started sl.num w)) := by
  have hst : (w.media.rolls.get sl).state = .standby := by
    simp only [switchable, Bool.and_eq_true, decide_eq_true_eq] at hs
    exact hs.1.1
  simp [rollSelect, hst, hc, ho, he, hs, hp, startSwitch, ht]

/-- Settles O17: the unload, the select of the other roll, and the select of the THREADED one. -/
theorem unloadAndSelectStartTheRewind : Obligations.UnloadAndSelectStartTheRewind := by
  intro s tag old h ht hc ho he hm hk rewinds
  refine ⟨?_, fun hp hs => ?_, ?_⟩
  · exact ask_decided (q := ⟨0x09, tag, .mediaUnload⟩) h rfl
      ((mediaUnload_clean (w := Work.of s) ht hc ho he).trans (startUnload_clean hc hm hk)) rfl rfl
  · exact ask_decided (q := ⟨0x0A, tag, .rollSelect old.other.num⟩) h rfl
      ((rollSelect_other (w := Work.of s) ht hc ho he hp hs).trans (startUnload_clean hc hm hk)) rfl rfl
  · exact ask_decided (q := ⟨0x0A, tag, .rollSelect old.num⟩) h rfl (rollSelect_threaded (threadedSlot_state ht)) rfl rfl

/-! ### Swaths that are discarded (R66, R68) -/

/-- SWATH_DONE of a discarded swath, with `left` entries still in the queue. -/
def discardNotice (e : Swath) (left : Nat) : Notice :=
  .completion 0x62 e.tag (code .discarded ++ code .ok ++ u32 0 ++ u32 0 ++ absent 4 ++ s32 0 ++ u8 (Config.swathSlots - left))

/-- The one waiting swath, behind those in flight, is discarded. -/
theorem discardWaiting_last {moving : List Swath} {e : Swath} {w : Work} (hq : w.sheet.queue = moving ++ [e])
    (hm : ∀ x ∈ moving, x.inFlight = true ∧ x.tag ≠ e.tag) (he : e.inFlight = false) :
    discardWaiting w = { w with
      sheet := { w.sheet with queue := moving }, outbox := w.outbox ++ [discardNotice e moving.length] } := by
  have hwait : w.sheet.queue.filter (fun x => !x.inFlight) = [e] := by
    have hnone : moving.filter (fun x => !x.inFlight) = [] := by
      simp only [List.filter_eq_nil_iff]
      intro x hx
      simp [(hm x hx).1]
    simp [hq, List.filter_append, hnone, he]
  have hleft : w.sheet.queue.filter (fun y => y.tag ≠ e.tag) = moving := by
    have hall : moving.filter (fun y => y.tag ≠ e.tag) = moving := by
      simp only [List.filter_eq_self]
      intro x hx
      simp [(hm x hx).2]
    simp only [hq, List.filter_append, hall]
    simp
  simp only [discardWaiting, hwait, forEach_cons, forEach_nil]
  simp only [modSheet, hleft, swathDone, give, freeSwaths]
  rfl

/-- A fault of a sheet with one waiting swath and no abort (R66). -/
theorem faultNow_discards {reason : Code} {moving : List Swath} {e : Swath} {x : Sheet} {ns : List Notice} {w : Work}
    (hq : w.sheet.queue = moving ++ [e]) (hm : ∀ x ∈ moving, x.inFlight = true ∧ x.tag ≠ e.tag) (he : e.inFlight = false)
    (ha : w.sheet.abort = none) (hx : faultedSheet reason { w.sheet with queue := moving } = x)
    (hn : operationNotices reason w.sheet.phase w.media.stack w.sheet = ns) :
    faultNow reason w = { w with
      sheet := x
      outbox := w.outbox ++ [discardNotice e moving.length] ++ ns ++ [eventNotice .sheet 6 (code reason)] } := by
  subst hx hn
  have hd := discardWaiting_last (w := modSheet (fun x => { x with phase := .faulted, fault := some reason }) w) hq hm he
  rw [faultNow, hd, endOperation_eq]
  · rfl
  · exact ha

/-! ### The presence switches and the roll-end sensors (R21, R22, R37) -/

theorem Slots.set_set {α : Type} (x : Slots α) (i : Slot) (u v : α) : (x.set i u).set i v = x.set i v := by cases i <;> rfl

/-- The media path with the THREADED roll ended and its ejection pending (R37). -/
def Media.threadedOver (m : Media) (sl : Slot) : Media :=
  { m with rolls := m.rolls.set sl (endedRoll (m.rolls.get sl)), ejecting := some sl }

theorem dropSwitch_absent {w : Work} (h : w.media.switch = none) : dropSwitch w = w := by
  simp only [dropSwitch, modMedia, h, Option.filter_none]
  rw [← h]

theorem modCheck_none {f : Check → Check} {w : Work} (h : w.checker.check = none) : modCheck f w = w := by
  simp only [modCheck, modChecker, h, Option.map_none]
  rw [← h]

section
variable {w : Work} {sl : Slot}

theorem rollEndReport_threaded (hq : w.media.seq = none) (ht : threadedSlot w.media = some sl) (ho : w.media.owner = .sheet) :
    rollEndReport sl w = { w with
      media := w.media.threadedOver sl
      outbox := w.outbox ++ [eventNotice .media 3 (u8 sl.num)], agenda := w.agenda ++ [.rollEnded] } := by
  have hst := threadedSlot_state ht
  simp only [rollEndReport, hq, hst]
  have ho' : ¬ (w.media.threadedOver sl).owner = .idle := by
    show ¬ w.media.owner = .idle
    rw [ho]
    decide
  have hwhen : ((w.media.threadedOver sl).owner = .idle && (w.media.threadedOver sl).content ≠ .fault : Bool) = false := by
    simp [ho']
  unfold threadedEnded
  exact (congrArg (fun b => when b _ _) hwhen).trans rfl

theorem standbyEnded_eq (hs : w.media.switch = none) : standbyEnded sl w = { w with
    media := { w.media with rolls := w.media.rolls.set sl (endedRoll (w.media.rolls.get sl)) }
    outbox := w.outbox ++ [eventNotice .media 3 (u8 sl.num)] } :=
  dropSwitch_absent (w := rollEndEvent sl (modRoll sl endedRoll w)) hs

theorem rollEndReport_standby (hq : w.media.seq = none) (hs : w.media.switch = none) (hst : (w.media.rolls.get sl).state = .standby) :
    rollEndReport sl w = { w with
      media := { w.media with rolls := w.media.rolls.set sl (endedRoll (w.media.rolls.get sl)) }
      outbox := w.outbox ++ [eventNotice .media 3 (u8 sl.num)] } := by
  refine Eq.trans ?_ (standbyEnded_eq hs)
  simp only [rollEndReport, hq, hst]

theorem rollEndReport_over (hq : w.media.seq = none)
    (hst : (w.media.rolls.get sl).state = .ended ∨ (w.media.rolls.get sl).state = .fault
      ∨ (w.media.rolls.get sl).state = .absent) : rollEndReport sl w = w := by
  obtain h | h | h := hst <;> simp only [rollEndReport, hq, h]

/-- The media path with what the presence switch of a slot shows. -/
def Media.showing (m : Media) (sl : Slot) (present : Bool) : Media := { m with present := m.present.set sl present }

/-- The switch opens on a slot without a sequence: the rule of R22 by the state of the roll. -/
theorem rollPresentOpen_threaded (hq : w.media.seq = none) (hst : (w.media.rolls.get sl).state = .threaded) :
    rollPresentOpen sl w = rollEndReport sl { w with media := w.media.showing sl false } := by
  simp only [rollPresentOpen, beingLoaded, beingUnloaded, modMedia, hq, hst, Option.any_none, Bool.or_self, Bool.false_eq_true,
    if_false, Media.showing]

theorem rollPresentOpen_takesAway (hq : w.media.seq = none) (hs : w.media.switch = none)
    (hst : (w.media.rolls.get sl).state = .standby ∨ (w.media.rolls.get sl).state = .fault
      ∨ ((w.media.rolls.get sl).state = .ended ∧ w.media.ejecting ≠ some sl)) :
    rollPresentOpen sl w = { w with
      media := { w.media.showing sl false with rolls := w.media.rolls.set sl Roll.none } } := by
  have hdrop := dropSwitch_absent (w := modRoll sl (fun _ => Roll.none) { w with media := w.media.showing sl false }) hs
  have hgo : rollPresentOpen sl w = modRoll sl (fun _ => Roll.none) { w with media := w.media.showing sl false } := by
    obtain h | h | ⟨h, he⟩ := hst
    · refine .trans ?_ hdrop
      simp only [rollPresentOpen, beingLoaded, beingUnloaded, modMedia, hq, h, Option.any_none, Bool.or_self,
        Bool.false_eq_true, if_false, Media.showing]
    · refine .trans ?_ hdrop
      simp only [rollPresentOpen, beingLoaded, beingUnloaded, modMedia, hq, h, Option.any_none, Bool.or_self,
        Bool.false_eq_true, if_false, Media.showing]
    · simp only [rollPresentOpen, beingLoaded, beingUnloaded, modMedia, hq, h, he, Option.any_none, Bool.or_self,
        Bool.false_eq_true, if_false, Media.showing]
  exact hgo.trans rfl

theorem rollPresentOpen_stays (hq : w.media.seq = none)
    (hst : (w.media.rolls.get sl).state = .absent
      ∨ ((w.media.rolls.get sl).state = .ended ∧ w.media.ejecting = some sl)) :
    rollPresentOpen sl w = { w with media := w.media.showing sl false } := by
  obtain h | ⟨h, he⟩ := hst
  · simp only [rollPresentOpen, beingLoaded, beingUnloaded, modMedia, hq, h, Option.any_none, Bool.or_self,
      Bool.false_eq_true, if_false, Media.showing]
  · simp only [rollPresentOpen, beingLoaded, beingUnloaded, modMedia, hq, h, he, Option.any_none, Bool.or_self,
      Bool.false_eq_true, if_false, if_true, Media.showing]

/-- The switch closes (R21). -/
theorem rollPresentClose_new (hst : (w.media.rolls.get sl).state = .absent) :
    rollPresentClose sl false w = { w with
      media := { w.media.showing sl true with
        rolls := w.media.rolls.set sl ⟨.standby, none, none, none, none, true, none⟩ } } := by
  simp only [rollPresentClose, modMedia, hst, if_true, when, Bool.false_eq_true, if_false]
  rfl

theorem rollPresentClose_core (hs : w.media.switch = none) (hst : (w.media.rolls.get sl).state = .absent) :
    rollPresentClose sl true w = { w with
      media := { w.media.showing sl true with
        rolls := w.media.rolls.set sl ⟨.ended, none, none, none, some 0, true, none⟩ }
      outbox := w.outbox ++ [eventNotice .media 3 (u8 sl.num)] } := by
  have hgo : rollPresentClose sl true w = standbyEnded sl { w with
      media := { w.media.showing sl true with
        rolls := w.media.rolls.set sl ⟨.standby, none, none, none, none, true, none⟩ } } := by
    simp only [rollPresentClose, modMedia, hst, if_true, when]
    rfl
  rw [hgo, standbyEnded_eq (by exact hs)]
  simp only [Slots.get_set_same, Slots.set_set, endedRoll]

theorem rollPresentClose_known {core : Bool} (hst : (w.media.rolls.get sl).state ≠ .absent) :
    rollPresentClose sl core w = { w with media := w.media.showing sl true } := by
  simp only [rollPresentClose, modMedia, hst, if_false, Media.showing]

/-- The roll end of the THREADED roll, heard by a sheet that is SWATHING with one waiting swath (R37, R66). -/
theorem deliver_rollEnded {e : Swath} (hph : w.sheet.phase = .swathing) (ha : w.sheet.abort = none) (hcl : w.sheet.close = none)
    (hop : w.sheet.openTag = none) (hq : w.sheet.queue = [e]) (he : e.inFlight = false) (hck : w.checker.check = none) :
    deliver .rollEnded w = { w with
      sheet := { w.sheet with phase := .faulted, fault := some .rollEnd, queue := [] }
      outbox := w.outbox ++ [discardNotice e 0] ++ [] ++ [eventNotice .sheet 6 (code .rollEnd)] } := by
  have hf : sheetRollEnded w = faultNow .rollEnd w := by simp [sheetRollEnded, sheetFault, hph, ha]
  show checkRollEnded (sheetRollEnded w) = _
  rw [hf, faultNow_discards (moving := []) hq (fun _ hx => absurd hx List.not_mem_nil) he ha]
  · exact modCheck_none hck
  · simp [faultedSheet, hop, hcl, ha]
  · simp [operationNotices, hop, hcl]

end

/-- Settles O20: the roll end of the THREADED roll under a sheet, and the sensors of a slot without a sequence, state by state. -/
theorem rollSensorsMoveTheRecord : Obligations.RollSensorsMoveTheRecord := by
  refine ⟨?_, ?_⟩
  · intro s sl e hs hseq ht ho hph ha hcl hop hq he hck ended
    have hst := threadedSlot_state ht
    refine ⟨?_, ?_⟩
    · exact occur_one hs Keeps.rollEndReport (rollEndReport_threaded hseq ht ho) rfl
        (deliver_rollEnded (w := { Work.of s with media := s.media.threadedOver sl, outbox := [eventNotice .media 3 (u8 sl.num)] })
          hph ha hcl hop hq he hck) rfl
    · exact occur_one hs Keeps.rollPresentOpen
        ((rollPresentOpen_threaded (w := Work.of s) hseq hst).trans
          (rollEndReport_threaded (w := { Work.of s with media := s.media.showing sl false }) hseq ht ho)) rfl
        (deliver_rollEnded (w := { Work.of s with
            media := (s.media.showing sl false).threadedOver sl, outbox := [eventNotice .media 3 (u8 sl.num)] })
          hph ha hcl hop hq he hck) rfl
  · intro s sl hs hseq hsw with' r ended
    refine ⟨fun h => ⟨?_, ?_⟩, fun h core => ?_, fun h => ?_, fun h => ?_, fun h => ?_, fun h => ?_⟩
    · exact occur_done hs Keeps.rollPresentClose (rollPresentClose_new h) rfl
    · exact occur_done hs Keeps.rollPresentClose (rollPresentClose_core hsw h) rfl
    · refine (occur_done hs Keeps.rollPresentClose (rollPresentClose_known h) rfl).trans ?_
      simp only [with', r, Slots.set_get]
      rfl
    · exact occur_done hs Keeps.rollPresentOpen (rollPresentOpen_takesAway hseq hsw h) rfl
    · refine (occur_done hs Keeps.rollPresentOpen (rollPresentOpen_stays hseq h) rfl).trans ?_
      simp only [with', r, Slots.set_get]
      rfl
    · refine (occur_done hs Keeps.rollEndReport (rollEndReport_standby hseq hsw h) rfl).trans ?_
      simp only [with', Slots.set_get]
      rfl
    · exact occur_void hs (rollEndReport_over hseq h)

end Sys2Proof.Machine
end

section
/-! ## Loads: edge search, width scan, lead trim and scrap cut (R28 to R32, R36, R38; O16, O21, O22) -/

namespace Sys2Proof.Machine

open Sys2Proof

set_option Elab.async false

/-! ### Asking for a move -/

section
variable {w : Work} {q : MoveAsk} {c : Int}

/-- A forward move that starts, with no tracked roll (R3 to R6). -/
theorem askMove_forward (hm : w.feed.move = none) (ho : q.owner = w.media.owner) (hi : w.media.owner ≠ .idle)
    (ha : allowed q.owner q.forward q.purpose = true) (hf : q.forward = true) (hl : 1 ≤ q.a) (hmax : q.a ≤ 3000000)
    (ht : threadedSlot w.media = none) (hc : totalS w.toState = c) (hn : forwardCounts q.a w.feed.k c w.feed.r ≠ 0) :
    askMove q w = { w with
      feed := { w.feed with
        r := newResidue q.a w.feed.k c w.feed.r
        move := some ⟨q, forwardCounts q.a w.feed.k c w.feed.r, c, false, w.now, 0⟩ } } := by
  subst hc
  have hlen : lengthOk q.purpose q.a = true := by simp [lengthOk, hl, hmax, Config.maxMove]
  rw [askMove_taken (moveAnswer_taken hm ho hi ha hlen), startMove_forward hf (by omega) hn, trackingApplies_none ht]

/-- A reverse move that starts (R8). -/
theorem askMove_reverse (hm : w.feed.move = none) (ho : q.owner = w.media.owner) (hi : w.media.owner ≠ .idle)
    (ha : allowed q.owner q.forward q.purpose = true) (hf : q.forward = false) (hl : 1 ≤ q.a) (hmax : q.a ≤ 3000000)
    (hn : q.a * w.feed.k / 1000000 ≠ 0) :
    askMove q w = { w with
      feed := { w.feed with move := some ⟨q, q.a * w.feed.k / 1000000, 0, false, w.now, 0⟩ } } := by
  have hlen : lengthOk q.purpose q.a = true := by simp [lengthOk, hl, hmax, Config.maxMove]
  rw [askMove_taken (moveAnswer_taken hm ho hi ha hlen), startMove_reverse hf hn]
  rfl

end

/-! ### The roll of a sequence and its moves (R4, R23) -/

/-- The media path after a move of the roll in a slot. -/
def Media.moved (slot : Slot) (forward : Bool) (travel : Nat) (m : Media) : Media :=
  { m with rolls := m.rolls.set slot { m.rolls.get slot with
      remaining := (m.rolls.get slot).remaining.map (remainingAfter forward travel) } }

theorem Media.moved_forward {m : Media} {sl : Slot} {n : Nat} : m.moved sl true n = m.fed sl n := by
  have h : remainingAfter true n = (· - n) := funext fun _ => if_pos rfl
  simp only [Media.moved, Media.fed, h]

section
variable {w x : Work} {r : MoveReport} {sl : Slot} {n : Nat} {q : Sequence} {fwd : Bool}

theorem accountMove_moved (hp : rollOnPath w.media = some sl) (ha : 1 ≤ r.ask.a) (hs : (w.media.rolls.get sl).state ≠ .ended) :
    accountMove r w = { w with media := w.media.moved sl r.ask.forward r.travel } := by
  have hcond : ((1 ≤ r.ask.a && (w.media.rolls.get sl).state ≠ .ended) : Bool) = true := by simp [ha, hs]
  simp only [accountMove, hp, hcond, if_true]
  rfl

theorem accountMove_ended (hp : rollOnPath w.media = some sl) (hs : (w.media.rolls.get sl).state = .ended) :
    accountMove r w = w := by
  have hcond : ((1 ≤ r.ask.a && (w.media.rolls.get sl).state ≠ .ended) : Bool) = false := by simp [hs]
  simp only [accountMove, hp, hcond, Bool.false_eq_true, if_false]

/-- The end of a move that the media path controller asked for, of a roll whose remaining length follows it (R14, R23). -/
theorem deliver_mediaMove (hp : rollOnPath w.media = some sl) (ha : 1 ≤ r.ask.a) (hs : (w.media.rolls.get sl).state ≠ .ended)
    (hr : r.ask.requester = .media) (hf : r.ask.forward = fwd) (hn : r.travel = n)
    (hx : mediaMoveEnded r { w with media := w.media.moved sl fwd n } = x) (hagain : x.feed.again = none) :
    deliver (.moveEnded r) w = x := by
  subst hn hf
  change askAgainMove (moveRequester r (accountMove r w)) = x
  rw [accountMove_moved hp ha hs]
  simp only [moveRequester, hr]
  rw [hx, askAgainMove_none hagain]

/-- The end of a move of an ejection: the remaining length of the ENDED roll stays 0 (R23, R38). -/
theorem deliver_ejectMove (hp : rollOnPath w.media = some sl) (hs : (w.media.rolls.get sl).state = .ended)
    (hr : r.ask.requester = .media) (hx : mediaMoveEnded r w = x) (hagain : x.feed.again = none) :
    deliver (.moveEnded r) w = x := by
  change askAgainMove (moveRequester r (accountMove r w)) = x
  rw [accountMove_ended hp hs]
  simp only [moveRequester, hr]
  rw [hx, askAgainMove_none hagain]

end

theorem completeMove_untracked {m : Move} {n : Nat} {w : Work} (ht : m.tracked = false) :
    completeMove m n w = endMove m .completed none w := by
  simp only [completeMove, ht, Bool.not_false, if_true]

/-- The last count of a move without tracking (R7, R14). -/
theorem countMove_ends {m : Move} {n : Nat} {w : Work} (h : w.feed.move = some m) (hc : m.seen + 1 = m.commanded)
    (ht : m.tracked = false) :
    countMove n w = { w with
      feed := { w.feed with move := none }
      agenda := w.agenda ++ [.moveEnded ({ m with seen := m.commanded }.report .completed none w.feed.k)] } :=
  (countMove_last h hc).trans (completeMove_untracked ht)

/-! ### The start of a load (R28, R29) -/

section
variable {w : Work} {job : Job} {tag : Option Nat} {sl : Slot} {old : Option Slot}

/-- The load part of a sequence: the edge search starts with the correction of the roll named. -/
theorem startLoad_eq {c : Int} {prof : Option Profile} (hm : w.feed.move = none) (ht : threadedSlot w.media = none)
    (hp : slotProfile w.toState sl = prof)
    (hc : clampInt (-20000) 20000 ((prof.map Profile.sProfile).getD 0 + w.feed.sHost + w.feed.sTrack) = c)
    (hn : forwardCounts 400000 w.feed.k c w.feed.r ≠ 0) :
    startLoadPart sl (takeSeq (newSeq job tag sl old) w) = { w with
      media := { w.media with
        owner := .loading, switch := none
        seq := some ⟨job, .edgeSearch, tag, sl, old, 0, none, .left, none, 0, none, none, none, false⟩ }
      feed := { w.feed with
        r := newResidue 400000 w.feed.k c w.feed.r
        move := some ⟨⟨.loading, .media, true, 400000, .edgeSearch⟩, forwardCounts 400000 w.feed.k c w.feed.r, c, false, w.now, 0⟩ }
      station := { w.station with car := w.station.car.mediaClaimed } } := by
  subst hp hc
  rw [startLoadPart, takeSeq_eq]
  have hpath : rollOnPath { w.media with
      owner := .loading, switch := none
      seq := some ⟨job, .edgeSearch, tag, sl, old, 0, none, .left, none, 0, none, none, none, false⟩ } = some sl :=
    rollOnPath_seq (q := ⟨job, .edgeSearch, tag, sl, old, 0, none, .left, none, 0, none, none, none, false⟩) ht rfl rfl
  refine askMove_forward (w := { w with
    media := { w.media with
      owner := .loading, switch := none
      seq := some ⟨job, .edgeSearch, tag, sl, old, 0, none, .left, none, 0, none, none, none, false⟩ }
    station := { w.station with car := w.station.car.mediaClaimed } }) hm rfl ?_ rfl rfl ?_ ?_ ht (totalS_of hpath) hn
  · show Owner.loading ≠ .idle
    decide
  · show 1 ≤ 400000
    decide
  · show 400000 ≤ 3000000
    decide

end

/-- The roll record that MEDIA_LOAD leaves (R28). -/
def namedRoll (width p : Nat) (remaining : Option Nat) (r : Roll) : Roll :=
  { r with
    declared := some width, remaining := remaining.map (min 300000000), profile := some p, measured := none, fault := none }

theorem mediaLoad_taken {tag width p : Nat} {remaining : Option Nat} {sl : Slot} {w : Work} (hmin : 279000 ≤ width)
    (hmax : width ≤ 1118000) (hp : (profileAt w.toState p).isSome = true) (hc : w.media.content ≠ .fault)
    (ho : w.media.owner = .idle) (he : w.media.ejecting = none) (ht : threadedSlot w.media = none)
    (hs : (w.media.rolls.get sl).state = .standby) (hpark : parked w.toState = true) :
    mediaLoad tag sl.num width remaining p w
      = startLoadPart sl (takeSeq (newSeq .load (some tag) sl none)
          (modRoll sl (namedRoll width p remaining) (started sl.num w))) := by
  have hwidth : (width < Config.widthMin || Config.widthMax < width || (profileAt w.toState p).isNone : Bool) = false := by
    have h1 : ¬ width < Config.widthMin := by unfold Config.widthMin; omega
    have h2 : ¬ Config.widthMax < width := by unfold Config.widthMax; omega
    simp [h1, h2, Option.isNone_eq_false_iff.mpr hp]
  have hfree : loadRefusal sl w.toState = none := by simp [loadRefusal, hc, ho, he, ht, hs, hpark]
  simp only [mediaLoad, Slot.ofNum_num, hwidth, hfree, Bool.false_eq_true, if_false]
  rfl

/-- MEDIA_LOAD of a STANDBY roll (R28, R29). -/
theorem mediaLoad_starts {tag width p : Nat} {remaining : Option Nat} {sl : Slot} {prof : Profile} {c : Int} {w : Work}
    (hmin : 279000 ≤ width) (hmax : width ≤ 1118000) (hp : profileAt w.toState p = some prof) (hc : w.media.content ≠ .fault)
    (ho : w.media.owner = .idle) (he : w.media.ejecting = none) (ht : threadedSlot w.media = none)
    (hs : (w.media.rolls.get sl).state = .standby) (hpark : parked w.toState = true) (hm : w.feed.move = none)
    (hcor : clampInt (-20000) 20000 (prof.sProfile + w.feed.sHost + w.feed.sTrack) = c)
    (hn : forwardCounts 400000 w.feed.k c w.feed.r ≠ 0) :
    mediaLoad tag sl.num width remaining p w = { started sl.num w with
      media := { w.media with
        rolls := w.media.rolls.set sl (namedRoll width p remaining (w.media.rolls.get sl))
        owner := .loading, switch := none
        seq := some ⟨.load, .edgeSearch, some tag, sl, none, 0, none, .left, none, 0, none, none, none, false⟩ }
      feed := { w.feed with
        r := newResidue 400000 w.feed.k c w.feed.r
        move := some ⟨⟨.loading, .media, true, 400000, .edgeSearch⟩, forwardCounts 400000 w.feed.k c w.feed.r, c, false, w.now, 0⟩ }
      station := { w.station with car := w.station.car.mediaClaimed } } := by
  have ht' : threadedSlot (modRoll sl (namedRoll width p remaining) (started sl.num w)).media = none :=
    (threadedSlot_set (m := w.media) (sl := sl) (r := namedRoll width p remaining (w.media.rolls.get sl)) rfl rfl).trans ht
  have hprof : slotProfile (modRoll sl (namedRoll width p remaining) (started sl.num w)).toState sl = some prof := by
    simp only [slotProfile, modRoll, modMedia, Slots.get_set_same, namedRoll, Option.bind_some]
    exact hp
  rw [mediaLoad_taken hmin hmax (by rw [hp]; rfl) hc ho he ht hs hpark]
  exact startLoad_eq (w := modRoll sl (namedRoll width p remaining) (started sl.num w)) hm ht' hprof hcor hn

/-! ### The end of a load (R30, R31) -/

/-- The carriage without the media claim (R125). -/
def Carriage.mediaFreed (c : Carriage) : Carriage := { c with claims := { c.claims with media := false } }

/-- The time at which the idle time starts does not depend on a check made at that time before. -/
theorem mediaFreed_timed_timed {c : Carriage} {n : Nat} (h : c.idleSince = none) :
    (c.timed n).mediaFreed.timed n = c.mediaFreed.timed n := by
  have hi : (c.timed n).mediaFreed.idles = c.mediaFreed.idles := rfl
  have hstart : (c.timed n).idleSince.getD n = n := by
    simp only [Carriage.timed, h]
    split <;> rfl
  show ({ (c.timed n).mediaFreed with
      idleSince := if (c.timed n).mediaFreed.idles then some ((c.timed n).idleSince.getD n) else none } : Carriage)
    = { c.mediaFreed with idleSince := if c.mediaFreed.idles then some (c.idleSince.getD n) else none }
  rw [hi, hstart, h]
  rfl

/-- The media path after a completed load (R31). -/
def Media.loaded (q : Sequence) (m : Media) : Media :=
  { m with
    content := .clean, owner := .idle, seq := none
    rolls := m.rolls.set q.slot { m.rolls.get q.slot with state := .threaded, measured := q.measured, fresh := false } }

section
variable {w : Work} {q : Sequence} {tag c1 c2 width : Nat}

theorem completeLoad_eq {c : Carriage} (hj : q.job = .load) (ht : q.tag = some tag) (h1 : q.c1 = some c1)
    (h2 : q.c2 = some c2) (hw : q.measured = some width) (hf : q.failSeen = none)
    (he : w.media.ejecting = none) (hs : w.media.switch = none)
    (hc : w.station.car.mediaFreed.timed w.now = c) :
    completeLoad q w = { w with
      media := w.media.loaded q
      feed := { w.feed with r := 0, sTrack := 0 }
      station := { w.station with car := c }
      outbox := w.outbox ++ [opDoneNotice 0x08 tag .ok
        (u8 q.slot.num ++ u32 width ++ u32 ((c2 - c1) * 1000000 / w.feed.k) ++ absent 4)] } := by
  subst hc
  have hend {y : Work} : seqNotices q .ok false y = { y with
      outbox := y.outbox ++ [opDoneNotice 0x08 tag .ok
        (u8 q.slot.num ++ u32 width ++ u32 ((c2 - c1) * 1000000 / y.feed.k) ++ absent 4)] } := by
    simp only [seqNotices, hj, ht, loadDetail, skewWindow, h1, h2, hw, hf]
    rfl
  dsimp only [completeLoad, endSeq]
  rw [handOn_idle (by exact he) (by exact hs), hend]
  rfl

/-- The trim length is read of the profile and the fresh flag of the roll (R31). -/
theorem trimLength_of {prof : Profile} {s : State} {sl : Slot} {trim : Nat} (hp : slotProfile s sl = some prof)
    (h : (if (s.media.rolls.get sl).fresh then prof.freshTrim else prof.rethreadTrim) = trim) : trimLength s sl = trim := by
  simp only [trimLength, hp, h]

/-- A width scan within the tolerance starts the lead trim (R30, R31). -/
theorem widthScanned_fits {measured a declared : Nat} {c : Int} {prof : Profile} (hd : (w.media.rolls.get q.slot).declared = some declared)
    (hlo : measured ≤ declared + 3000) (hhi : declared ≤ measured + 3000) (ho : w.media.owner = .loading)
    (hm : w.feed.move = none) (ht : threadedSlot w.media = none) (hp : slotProfile w.toState q.slot = some prof)
    (ha : leadTrimA w.feed.k { q with measured := some measured } (trimLength w.toState q.slot) = a) (h1 : 1 ≤ a) (hmax : a ≤ 3000000)
    (hc : clampInt (-20000) 20000 (prof.sProfile + w.feed.sHost + w.feed.sTrack) = c) (hn : forwardCounts a w.feed.k c w.feed.r ≠ 0) :
    widthScanned q .ok measured w = { w with
      media := { w.media with seq := some { q with measured := some measured, step := .leadTrim } }
      feed := { w.feed with
        r := newResidue a w.feed.k c w.feed.r
        move := some ⟨⟨.loading, .media, true, a, .leadTrim⟩, forwardCounts a w.feed.k c w.feed.r, c, false, w.now, 0⟩ } } := by
  subst ha
  have hfits : ¬ Config.widthTolerance < ((measured : Int) - (declared : Int)).natAbs := by
    unfold Config.widthTolerance
    omega
  have hpath : rollOnPath { w.media with seq := some { q with measured := some measured, step := .leadTrim } } = some q.slot :=
    rollOnPath_seq (q := { q with measured := some measured, step := .leadTrim }) ht rfl rfl
  have hcor : totalS { w.toState with
      media := { w.media with seq := some { q with measured := some measured, step := .leadTrim } } } = c := by
    refine (totalS_of hpath).trans (Eq.trans ?_ hc)
    have hprof : ((w.media.rolls.get q.slot).profile.bind (profileAt w.toState)) = some prof := hp
    exact congrArg (fun p => clampInt (-20000) 20000 ((Option.map Profile.sProfile p).getD 0 + w.feed.sHost + w.feed.sTrack)) hprof
  simp only [widthScanned, ne_eq, not_true_eq_false, if_false, hd, Option.getD_some, hfits]
  refine askMove_forward (w := { w with
    media := { w.media with seq := some { q with measured := some measured, step := .leadTrim } } }) hm ho.symm ?_ rfl rfl h1 hmax ht
    hcor hn
  show w.media.owner ≠ .idle
  rw [ho]
  decide

/-- A cut of the load's scrap over a parked carriage: the hold is granted at once (R31, R39). -/
theorem requestCut_loading (ho : w.media.owner = .loading) (hf : w.media.content ≠ .fault) (hn : w.media.cut = none)
    (hm : w.feed.move = none) (hh : w.station.car.hold = .none) (hp : parked w.toState = true) (hc : w.station.car.move = none) :
    requestCut .loading .scrap w = { w with
      media := { w.media with cut := some ⟨.loading, .scrap, none⟩ }
      station := { w.station with car := { w.station.car with hold := .granted, idleSince := none } }
      agenda := w.agenda ++ [.holdGranted] } := by
  have hfree : cutRefused .loading w.toState = false := by simp [cutRefused, ho, hf, hn, hm]
  have hp' : w.station.car.state.isParked = true := isParked_iff.mpr (by simpa [parked] using hp)
  have hstill : w.station.car.still = true := by simp [Carriage.still, hc]
  simp only [requestCut, hfree, Bool.false_eq_true, if_false]
  exact askHold_granted (w := { w with media := { w.media with cut := some ⟨.loading, .scrap, none⟩ } }) hh hp' hstill

end

section
variable {w : Work} {q : Sequence}

theorem deliver_carriageParked (hs : w.media.switch = none) : deliver .carriageParked w = w := trySwitch_absent hs

/-- Nothing waits to be asked again after a carriage move (R30, R145, R166). -/
theorem deliver_askAgain_nobody {st : MediaStep} (hq : w.media.seq = some q) (hs : q.step = st) (hst : st ≠ .widthScan)
    (hv : w.station.service = none)
    (hc : w.checker.check = none) : deliver .askAgain w = w := by
  have hm : mediaAskAgain w = w := by simp [mediaAskAgain, hq, hs, hst]
  have hw : serviceAskAgain w = w := by simp only [serviceAskAgain, hv]
  show checkAskAgain (serviceAskAgain (mediaAskAgain w)) = w
  rw [hm, hw]
  simp only [checkAskAgain, hc]

theorem deliver_widthScan {m : CarMove} {o : Code} {b : Bool} {x : Work} (hr : m.requester = .media) (hq : w.media.seq = some q)
    (hs : q.step = .widthScan) (hx : widthScanned q o m.width w = x) : deliver (.carMoveEnded m o b) w = post .askAgain x := by
  subst hx
  have hreq : carMoveRequester m o w = widthScanned q o m.width w := by
    simp only [carMoveRequester, hr, mediaCarMoveEnded, hq, hs]
  exact congrArg (post .askAgain) hreq

theorem mediaMoveEnded_leadTrim {r : MoveReport} (hq : w.media.seq = some q) (hs : q.step = .leadTrim) (hp : r.ask.purpose = .leadTrim)
    (ho : r.outcome = .completed) :
    mediaMoveEnded r w
      = if trimLength w.toState q.slot = 0 then completeLoad { q with fed := q.fed + r.travel } w
        else requestCut .loading .scrap (modMedia (fun m => { m with
          seq := some { q with fed := q.fed + r.travel, step := .trimCut } }) w) := by
  simp only [mediaMoveEnded, hq, hs, hp, leadTrimEnded, ho, MoveOutcome.isFault, Bool.false_eq_true, if_false]

theorem deliver_trimCut (hq : w.media.seq = some q) (hs : q.step = .trimCut) :
    deliver (.cutEnded .loading .scrap false) w = completeLoad q w := by
  show mediaCutEnded false w = _
  simp only [mediaCutEnded, hq, hs, Bool.false_eq_true, if_false]

theorem deliver_cutStarted_loading : deliver (.cutStarted .loading) w = w := rfl

theorem deliver_holdGranted {o : Owner} {p : Piece} (hc : w.media.cut = some ⟨o, p, none⟩) (hh : w.station.car.hold = .granted) :
    deliver .holdGranted w = { w with
      media := { w.media with cut := some ⟨o, p, some w.now⟩ }, agenda := w.agenda ++ [.cutStarted o] } := by
  show onHoldGranted w = _
  simp only [onHoldGranted, hc, hh, if_true]
  rfl

end

theorem slotProfile_moved {s : State} {sl : Slot} {fwd : Bool} {n : Nat} :
    slotProfile { s with media := s.media.moved sl fwd n } sl = slotProfile s sl := by
  simp only [slotProfile, Media.moved, Slots.get_set_same]
  rfl

theorem trimLength_moved {s : State} {sl : Slot} {fwd : Bool} {n : Nat} :
    trimLength { s with media := s.media.moved sl fwd n } sl = trimLength s sl := by
  simp only [trimLength, slotProfile_moved]
  simp only [Media.moved, Slots.get_set_same]

/-- A completed load whose last move was the lead trim. -/
theorem loaded_moved {m : Media} {q : Sequence} {fwd : Bool} {n : Nat} : (m.moved q.slot fwd n).loaded q = { m with
    content := .clean, owner := .idle, seq := none
    rolls := m.rolls.set q.slot { m.rolls.get q.slot with
      state := .threaded, measured := q.measured, fresh := false
      remaining := (m.rolls.get q.slot).remaining.map (remainingAfter fwd n) } } := by
  simp only [Media.loaded, Media.moved, Slots.get_set_same, Slots.set_set]

/-- Settles O16: the load's start, the lead trim after its width scan, the cut after its lead trim, and its end. -/
theorem mediaLoadRunsToItsEnd : Obligations.MediaLoadRunsToItsEnd := by
  refine ⟨?_, ?_⟩
  · intro s tag width p remaining sl prof h hmin hmax hp hc ho he ht hs hpark hm c counts hn
    exact ask_decided (q := ⟨0x08, tag, .mediaLoad sl.num width remaining p⟩) h rfl
      (mediaLoad_starts hmin hmax hp hc ho he ht hs hpark hm rfl hn) rfl rfl
  · intro s q tag c1 c2 width prof hs hq hj htag h1 h2 hfail ho he hsw ht hp r trim completed done freed
    have hslot : ∀ {step : MediaStep}, q.step = step → (step.isLoad || step.isEject) = true →
        rollOnPath s.media = some q.slot := fun h hl => rollOnPath_seq ht hq (by rw [h]; exact hl)
    have htrim : trimLength s q.slot = trim := trimLength_of hp rfl
    refine ⟨?_, ?_, ?_⟩
    · intro m u hres hmove hreq hkind hphase hfault hhold hsled hclaim hserv hcheck hstep hdecl hst hlo hhi hfeed hcar a corr
        counts ha1 hamax hn
      have hc : (Carriage.returned { s.station.car with idleSince := none }).timed s.now
          = { s.station.car with state := .open, move := none, home := true, idleSince := none } :=
        Carriage.timed_awake (by simp [Carriage.idles, Carriage.returned, Claims.any, hclaim])
      have hhome : homeReport (Work.of s) = { Work.of s with
          station := { s.station with
            car := { s.station.car with state := .open, move := none, home := true, idleSince := none } }
          agenda := [.carriageParked, .carMoveEnded m .ok true] } := by
        rw [homeReport_returning (w := Work.of s) hres hmove hphase, hfault]
        exact endCarMove_home hc hcar (by rw [show (Work.of s).station.car.hold = .none from hhold]; decide)
      have hlead : leadTrimA s.feed.k { q with measured := some m.width } (trimLength s q.slot) = a := by
        simp only [leadTrimA, h2, Option.getD_some, htrim]
        rfl
      exact occur_from (n := 3) hs Keeps.homeReport hhome
        (drain_step rfl (deliver_carriageParked hsw)
          (drain_step rfl
            (deliver_widthScan hreq hq hstep (widthScanned_fits hdecl hlo hhi ho hfeed ht hp hlead ha1 hamax rfl hn))
            (drain_step rfl (deliver_askAgain_nobody (st := .leadTrim) rfl rfl (by decide) hserv hcheck) (drain_nil _ rfl)))) (by decide)
    · intro m a n hstep hmeas hmove hask ha1 hunt hlast hagain hst fed
      have hR : (m.ask.requester = .media ∧ m.ask.forward = true ∧ m.ask.purpose = .leadTrim) ∧ m.ask.a = a := by
        rw [hask]
        exact ⟨⟨rfl, rfl, rfl⟩, rfl⟩
      obtain ⟨⟨hreq, hfwd, hpurp⟩, ha⟩ := hR
      have hne : (s.media.rolls.get q.slot).state ≠ .ended := by
        show r.state ≠ .ended
        rw [hst]
        decide
      have hended (w : Work) (hwq : w.media.seq = some q) (hR : trimLength w.toState q.slot = trim) :
          mediaMoveEnded (({ m with seen := m.commanded } : Move).report .completed none s.feed.k) w
            = if trim = 0 then completeLoad { q with fed := q.fed + a } w
              else requestCut .loading .scrap (modMedia (fun m => { m with
                seq := some { q with fed := q.fed + a, step := .trimCut } }) w) := by
        rw [mediaMoveEnded_leadTrim hwq hstep hpurp rfl, hR]
        subst ha
        rfl
      have hcount := countMove_ends (w := Work.of s) (n := n) hmove hlast hunt
      have ha1' : 1 ≤ m.ask.a := by rw [ha]; exact ha1
      have htrim' := (trimLength_moved (s := s) (sl := q.slot) (fwd := true) (n := a)).trans htrim
      refine ⟨fun hzero => ?_, fun hsome hcf hcut hpark hhold hcm => ?_⟩
      · have hend := hended { Work.of s with feed := { s.feed with move := none }, media := s.media.moved q.slot true a } hq htrim'
        rw [if_pos hzero, completeLoad_eq (q := { q with fed := q.fed + a }) hj htag h1 h2 hmeas hfail he hsw rfl,
          loaded_moved] at hend
        exact occur_one hs Keeps.countMove hcount rfl
          (deliver_mediaMove (w := { Work.of s with feed := { s.feed with move := none } }) (hslot hstep rfl) ha1' hne hreq
            hfwd ha hend hagain) rfl
      · have hend := hended { Work.of s with feed := { s.feed with move := none }, media := s.media.moved q.slot true a } hq htrim'
        rw [if_neg hsome, requestCut_loading (by exact ho) (by exact hcf) (by exact hcut) (by exact rfl) (by exact hhold)
          (by exact hpark) (by exact hcm)] at hend
        exact occur_from (n := 3) hs Keeps.countMove hcount
          (drain_step rfl (deliver_mediaMove (w := { Work.of s with feed := { s.feed with move := none } }) (hslot hstep rfl) ha1' hne
            hreq hfwd ha hend hagain)
            (drain_step rfl (deliver_holdGranted rfl rfl)
              (drain_step rfl (deliver_cutStarted_loading) (drain_nil _ rfl)))) (by decide)
    · intro start hstep hmeas hcut hmove hidle
      have hend := completeLoad_eq (w := { Work.of s with
        media := s.media.cutMade .scrap s.now, feed := { s.feed with r := 0 }
        station := { s.station with car := ({ s.station.car with hold := .none } : Carriage).timed s.now } })
        hj htag h1 h2 hmeas hfail he hsw (mediaFreed_timed_timed hidle)
      exact occur_one hs Keeps.cutComplete (cutComplete_cut (w := Work.of s) hcut hmove) rfl
        ((deliver_trimCut (w := { Work.of s with
          media := s.media.cutMade .scrap s.now, feed := { s.feed with r := 0 }
          station := { s.station with car := ({ s.station.car with hold := .none } : Carriage).timed s.now } })
          hq hstep).trans hend) rfl

/-! ### The sensors of the path (R29, R32, R38) -/

/-- What a lead-edge sensor shows. -/
def Media.edge (m : Media) : EdgeSensor → Bool
  | .left => m.edgeLeft
  | .right => m.edgeRight

/-- The media path with a lead-edge sensor that shows media. -/
def Media.edgeShown (m : Media) : EdgeSensor → Media
  | .left => { m with edgeLeft := true }
  | .right => { m with edgeRight := true }

section
variable {w : Work} {q : Sequence} {m : Move} {e : EdgeSensor} {late : Nat}

@[simp] theorem Media.edgeShown_seq (n : Media) (e : EdgeSensor) : (n.edgeShown e).seq = n.seq := by cases e <;> rfl

theorem leadEdgeChange_noSeq (hq : w.media.seq = none) : leadEdgeChange e true late w = { w with media := w.media.edgeShown e } := by
  cases e <;> simp only [leadEdgeChange, modMedia, hq] <;> simp only [Media.edgeShown, hq]

/-- A new edge during an edge search (R29). -/
theorem leadEdgeChange_search (hq : w.media.seq = some q) (hs : q.step = .edgeSearch) (hm : w.feed.move = some m)
    (hwas : w.media.edge e = false) :
    leadEdgeChange e true late w = edgeSeen e late q m.seen { w with media := w.media.edgeShown e } := by
  cases e <;> (simp only [Media.edge] at hwas; simp [leadEdgeChange, modMedia, hq, hs, hm, hwas, Media.edgeShown])

theorem edgeSeen_first {n : Nat} (hq : w.media.seq = some q) (h : q.c1 = none) :
    edgeSeen e late q n w = { w with media := { w.media with seq := some { q with c1 := some n, c1Sensor := e } } } := by
  simp only [edgeSeen, h, modSeq, modMedia, hq, Option.map_some]

theorem edgeSeen_again {n c1 : Nat} (h : q.c1 = some c1) (hs : q.c1Sensor = e) : edgeSeen e late q n w = w := by
  simp [edgeSeen, h, hs]

/-- A stop request while counts are still to come (R12). -/
theorem stopMove_stops {o : Owner} (hm : w.feed.move = some m) (ho : m.ask.owner = o) (hl : m.seen + late < m.commanded) :
    stopMove o late w = { w with
      feed := { w.feed with move := none }
      agenda := w.agenda ++ [.moveEnded (({ m with seen := m.seen + late } : Move).report .stopped none w.feed.k)] } := by
  have hl' : ¬ m.commanded ≤ m.seen + late := by omega
  simp only [stopMove, hm, ho, ne_eq, not_true_eq_false, if_false, hl']
  rfl

theorem edgeSeen_second {n c1 : Nat} (h : q.c1 = some c1) (hs : q.c1Sensor ≠ e) (h2 : q.c2 = none) (hq : w.media.seq = some q) :
    edgeSeen e late q n w
      = stopMove .loading late { w with media := { w.media with seq := some { q with c2 := some n } } } := by
  have hs' : e ≠ q.c1Sensor := Ne.symm hs
  simp [edgeSeen, h, hs', h2, modSeq, modMedia, hq]

/-- A failed load rewinds its media (R32). -/
theorem failLoad_rewinds {reason : Code} {seen : Option Nat} {back : Nat} (ho : w.media.owner = .loading) (hm : w.feed.move = none)
    (hb : q.fed + 50000 = back) (hmax : back ≤ 3000000) (hn : back * w.feed.k / 1000000 ≠ 0) :
    failLoad q reason seen w = { w with
      media := { w.media with seq := some { q with step := .failRewind, failure := some reason, failSeen := seen } }
      feed := { w.feed with
        move := some ⟨⟨.loading, .media, false, back, .rewind⟩, back * w.feed.k / 1000000, 0, false, w.now, 0⟩ } } := by
  subst hb
  refine askMove_reverse (q := ⟨.loading, .media, false, q.fed + 50000, .rewind⟩) (w := { w with
    media := { w.media with seq := some { q with step := .failRewind, failure := some reason, failSeen := seen } } })
    hm ho.symm ?_ rfl rfl ?_ hmax hn
  · show w.media.owner ≠ .idle
    rw [ho]
    decide
  · show 1 ≤ q.fed + 50000
    omega

theorem slotProfile_of {s t : State} {sl : Slot} {p : Option Profile} (h : slotProfile t sl = p) (hr : s.media.rolls = t.media.rolls)
    (hp : s.media.profiles = t.media.profiles) : slotProfile s sl = p := by
  have hat : profileAt s = profileAt t := funext fun i => by simp only [profileAt, hp]
  simp only [slotProfile, hr, hat]
  exact h

/-- An edge search whose skew window is beyond the limit (R29). -/
theorem edgeSearchEnded_skewed {r : MoveReport} {c1 c2 : Nat} {prof : Profile} (h1 : q.c1 = some c1) (h2 : q.c2 = some c2)
    (ho : r.outcome = .stopped) (hp : slotProfile w.toState q.slot = some prof)
    (hskew : prof.skewLimit < countTravel w.feed.k (c2 - c1)) :
    edgeSearchEnded q r w
      = failLoad { q with fed := q.fed + r.travel, endSeen := r.seen } .skew none
          { w with media := { w.media with seq := some { q with fed := q.fed + r.travel, endSeen := r.seen } } } := by
  have hgood : ¬ r.outcome.isFault = true := by simp [ho, MoveOutcome.isFault]
  have hwin : skewWindow w.feed.k { q with fed := q.fed + r.travel, endSeen := r.seen } = some (countTravel w.feed.k (c2 - c1)) := by
    simp only [skewWindow, h1, h2]
  unfold edgeSearchEnded
  extract_lets fed stopped
  rw [if_neg hgood]
  split
  next hnone => exact absurd (hnone.symm.trans h1) nofun
  next hnone => exact absurd (hnone.symm.trans hwin) nofun
  next win _ hsome =>
    have hlong : prof.skewLimit < win := Option.some.inj (hsome.symm.trans hwin) ▸ hskew
    rw [slotProfile_of (s := stopped.toState) (t := w.toState) hp rfl rfl]
    exact if_neg (by simpa using hlong)

theorem pathEntryChange_noSeq {sl : Slot} {b : Bool} (hq : w.media.seq = none) :
    pathEntryChange sl b late w = { w with media := { w.media with entry := w.media.entry.set sl b } } := by
  simp only [pathEntryChange, modMedia, hq]

theorem pathEntryChange_leaves {sl : Slot} (hq : w.media.seq = some q) (hs : q.step = .ejectFirst) (hl : q.slot = sl) :
    pathEntryChange sl false late w
      = stopMove .unloading late { w with media := { w.media with entry := w.media.entry.set sl false } } := by
  simp [pathEntryChange, modMedia, hq, hs, hl]

/-- The first move of an ejection has ended with no media at the entry: the second one is asked (R38). -/
theorem mediaMoveEnded_ejectFirst {r : MoveReport} (hq : w.media.seq = some q) (hs : q.step = .ejectFirst) (hp : r.ask.purpose = .ejection)
    (ho : r.outcome = .stopped) (he : w.media.entry.get q.slot = false) :
    mediaMoveEnded r w
      = ejectMove 650000 { w with media := { w.media with seq := some { q with step := .ejectSecond } } } := by
  simp [mediaMoveEnded, hq, hs, hp, ejectMoveEnded, ho, MoveOutcome.isFault, he, modSeq, modMedia]
  rfl

end

@[simp] theorem Media.edgeShown_rolls (n : Media) (e : EdgeSensor) : (n.edgeShown e).rolls = n.rolls := by cases e <;> rfl
@[simp] theorem Media.edgeShown_profiles (n : Media) (e : EdgeSensor) : (n.edgeShown e).profiles = n.profiles := by cases e <;> rfl
@[simp] theorem Media.edgeShown_owner (n : Media) (e : EdgeSensor) : (n.edgeShown e).owner = n.owner := by cases e <;> rfl

theorem threadedSlot_edgeShown (n : Media) (e : EdgeSensor) : threadedSlot (n.edgeShown e) = threadedSlot n := by
  simp only [threadedSlot, Media.edgeShown_rolls]

/-- The search stopped by its second edge, with a window beyond the limit: the media is rewound (R29, R32). -/
theorem deliver_skewedSearch {w : Work} {q : Sequence} {m : Move} {c1 c2 n k travel back counts : Nat} {prof : Profile}
    (hk : w.feed.k = k) (hq : w.media.seq = some q) (hs : q.step = .edgeSearch) (ht : threadedSlot w.media = none)
    (ha : m.ask = ⟨.loading, .media, true, 400000, .edgeSearch⟩) (hseen : m.seen = n) (h1 : q.c1 = some c1) (h2 : q.c2 = some c2)
    (ho : w.media.owner = .loading) (hm : w.feed.move = none) (hagain : w.feed.again = none) (hp : slotProfile w.toState q.slot = some prof)
    (hst : (w.media.rolls.get q.slot).state = .standby) (htr : n * 1000000 / k = travel)
    (hskew : prof.skewLimit < (c2 - c1) * 1000000 / k) (hb : q.fed + travel + 50000 = back) (hmax : back ≤ 3000000)
    (hcn : back * k / 1000000 = counts) (hn : counts ≠ 0) :
    deliver (.moveEnded (m.report .stopped none k)) w = { w with
      media := { w.media.fed q.slot travel with
        seq := some { q with fed := q.fed + travel, endSeen := n, step := .failRewind, failure := some .skew, failSeen := none } }
      feed := { w.feed with
        move := some ⟨⟨.loading, .media, false, back, .rewind⟩,
          counts, 0, false, w.now, 0⟩ } } := by
  subst hseen hk hcn
  have hfed : w.media.fed q.slot travel = w.media.moved q.slot true travel := Media.moved_forward.symm
  rw [hfed]
  have hask : m.ask.forward = true ∧ m.ask.a = 400000 ∧ m.ask.requester = .media ∧ m.ask.purpose = .edgeSearch := by simp [ha]
  obtain ⟨hf, ha1, hr, hpu⟩ := hask
  have htravel : (m.report .stopped none w.feed.k).travel = travel := by
    rw [← htr]
    rfl
  have hmoved : slotProfile { w.toState with media := w.media.moved q.slot true travel } q.slot = some prof :=
    slotProfile_moved.trans hp
  have hskew' : prof.skewLimit < countTravel w.feed.k (c2 - c1) := hskew
  refine deliver_mediaMove (sl := q.slot) (fwd := true) (rollOnPath_seq ht hq (by rw [hs]; rfl)) ?_ (by rw [hst]; decide) hr hf
    htravel ?_ ?_
  · show 1 ≤ m.ask.a
    rw [ha1]
    decide
  · have hend : mediaMoveEnded (m.report .stopped none w.feed.k) { w with media := w.media.moved q.slot true travel }
        = edgeSearchEnded q (m.report .stopped none w.feed.k) { w with media := w.media.moved q.slot true travel } := by
      have hpu' : (m.report .stopped none w.feed.k).ask.purpose = .edgeSearch := hpu
      have hq' : (w.media.moved q.slot true travel).seq = some q := hq
      simp only [mediaMoveEnded, hq', hs, hpu']
    rw [hend, edgeSearchEnded_skewed (w := { w with media := w.media.moved q.slot true travel }) h1 h2 rfl hmoved hskew', htravel]
    exact failLoad_rewinds (q := { q with fed := q.fed + travel, endSeen := m.seen }) (back := back)
      (w := { w with media := { w.media.moved q.slot true travel with seq := some { q with fed := q.fed + travel, endSeen := m.seen } } })
      ho hm hb hmax hn
  · exact hagain

/-- The second move of an ejection (R38). -/
theorem ejectMove_second {w : Work} {q : Sequence} {c : Int} {prof : Option Profile} (hq : w.media.seq = some q)
    (hs : q.step = .ejectSecond) (ho : w.media.owner = .unloading) (hm : w.feed.move = none) (ht : threadedSlot w.media = none)
    (hp : slotProfile w.toState q.slot = prof)
    (hc : clampInt (-20000) 20000 ((prof.map Profile.sProfile).getD 0 + w.feed.sHost + w.feed.sTrack) = c)
    (hn : forwardCounts 650000 w.feed.k c w.feed.r ≠ 0) :
    ejectMove 650000 w = { w with
      feed := { w.feed with
        r := newResidue 650000 w.feed.k c w.feed.r
        move := some
          ⟨⟨.unloading, .media, true, 650000, .ejection⟩, forwardCounts 650000 w.feed.k c w.feed.r, c, false, w.now, 0⟩ } } := by
  subst hp hc
  refine askMove_forward hm ho.symm (by rw [ho]; decide) rfl rfl ?_ ?_ ht (totalS_of (rollOnPath_seq ht hq (by rw [hs]; rfl))) hn
  · show 1 ≤ 650000
    decide
  · show 650000 ≤ 3000000
    decide

/-- Settles O21: the two edges of the search, and the end of the media during the first move of an ejection. -/
theorem pathSensorsStopTheMoves : Obligations.PathSensorsStopTheMoves := by
  refine ⟨?_, ?_⟩
  · intro s e late hs shown was
    have hshown : s.media.edgeShown e = shown := by cases e <;> rfl
    have hwas : s.media.edge e = was := by cases e <;> rfl
    clear_value shown was
    subst hshown hwas
    refine ⟨fun hq => occur_done hs Keeps.leadEdgeChange (leadEdgeChange_noSeq hq) rfl, ?_⟩
    intro q m hq hst hm hnew
    have hsearch := leadEdgeChange_search (w := Work.of s) (late := late) hq hst hm hnew
    have hq' : (s.media.edgeShown e).seq = some q := (Media.edgeShown_seq _ _).trans hq
    refine ⟨fun h1 => ?_, fun c1 h1 hsame => ?_, ?_⟩
    · exact occur_done hs Keeps.leadEdgeChange
        (hsearch.trans (edgeSeen_first (w := { Work.of s with media := s.media.edgeShown e }) hq' h1)) rfl
    · exact occur_done hs Keeps.leadEdgeChange (hsearch.trans (edgeSeen_again h1 hsame)) rfl
    · intro c1 prof h1 hother h2 ho hask hlate hagain ht hp hroll travel hskew back hmax hn
      have htravel : (m.seen + late) * 1000000 / s.feed.k = travel := rfl
      have hback : q.fed + travel + 50000 = back := rfl
      clear_value back travel
      have hsecond := hsearch.trans
        ((edgeSeen_second (w := { Work.of s with media := s.media.edgeShown e }) (n := m.seen) (late := late) h1 hother h2 hq').trans
          (stopMove_stops (w := { Work.of s with
            media := { s.media.edgeShown e with seq := some { q with c2 := some m.seen } } }) hm (by rw [hask]) hlate))
      have hend := deliver_skewedSearch (m := { m with seen := m.seen + late }) (q := { q with c2 := some m.seen })
        (travel := travel) (w := { Work.of s with
          media := { s.media.edgeShown e with seq := some { q with c2 := some m.seen } }, feed := { s.feed with move := none } })
        (k := s.feed.k) rfl rfl hst ((threadedSlot_edgeShown s.media e).trans ht) hask rfl h1 rfl
        ((Media.edgeShown_owner _ _).trans ho) rfl hagain
        (slotProfile_of (t := s) hp (Media.edgeShown_rolls _ _) (Media.edgeShown_profiles _ _))
        (by simp only [Media.edgeShown_rolls]; exact hroll) htravel hskew hback hmax rfl hn
      refine (occur_one hs Keeps.leadEdgeChange hsecond rfl hend rfl).trans ?_
      cases e <;> rfl
  · intro s sl present late hs
    refine ⟨fun hq => occur_done hs Keeps.pathEntryChange (pathEntryChange_noSeq hq) rfl, ?_⟩
    intro q m hq hst hsl hm hask hlate hagain ho ht hroll c counts hn
    subst hsl
    have hR : m.ask.requester = .media ∧ m.ask.purpose = .ejection := by simp [hask]
    have hleave := (pathEntryChange_leaves (w := Work.of s) (late := late) hq hst rfl).trans
      (stopMove_stops (w := { Work.of s with media := { s.media with entry := s.media.entry.set q.slot false } }) hm (by rw [hask]) hlate)
    have hend := (mediaMoveEnded_ejectFirst
        (w := { Work.of s with
          media := { s.media with entry := s.media.entry.set q.slot false }, feed := { s.feed with move := none } })
        (r := ({ m with seen := m.seen + late } : Move).report .stopped none s.feed.k) hq hst hR.2 rfl (Slots.get_set_same _ _ _)).trans
      (ejectMove_second (w := { Work.of s with
          media := { s.media with entry := s.media.entry.set q.slot false, seq := some { q with step := .ejectSecond } }
          feed := { s.feed with move := none } }) (q := { q with step := .ejectSecond }) (c := c) rfl rfl ho rfl ht rfl rfl hn)
    exact occur_one hs Keeps.pathEntryChange hleave rfl
      (deliver_ejectMove (sl := q.slot) (rollOnPath_seq ht hq (by rw [hst]; rfl)) hroll hR.1 hend hagain) rfl

end Sys2Proof.Machine
end

section
/-! ## The automatic roll switch (R36, R38, R48; O22) -/

namespace Sys2Proof.Machine

open Sys2Proof

set_option Elab.async false

/-- The roll of the other slot may replace the one of this slot (R36). -/
def Replaceable (s : State) (old : Slot) : Prop :=
  s.conf.autoRoll = true ∧ (s.media.rolls.get old.other).state = .standby
    ∧ (∃ a b, (s.media.rolls.get old).declared = some a ∧ (s.media.rolls.get old.other).declared = some b
        ∧ a ≤ b + 3000 ∧ b ≤ a + 3000)
    ∧ ∃ i, (s.media.rolls.get old).profile = some i ∧ (s.media.rolls.get old.other).profile = some i

section
variable {s : State} {w : Work} {old sl : Slot} {reason : SwitchReason} {width i : Nat}

theorem compatible_iff {r : Roll} : compatible r width i = true
    ↔ r.state = .standby ∧ r.profile = some i ∧ ∃ d, r.declared = some d ∧ d ≤ width + 3000 ∧ width ≤ d + 3000 := by
  cases hd : r.declared with
  | none => simp [compatible, hd]
  | some d =>
    have hany : (decide (d ≤ width + Config.widthTolerance) && decide (width ≤ d + Config.widthTolerance)) = true
        ↔ d ≤ width + 3000 ∧ width ≤ d + 3000 := by
      rw [Bool.and_eq_true, decide_eq_true_iff, decide_eq_true_iff]
      rfl
    simp only [compatible, hd, Option.any_some, Bool.and_eq_true, decide_eq_true_iff, and_assoc, Option.some.injEq,
      exists_eq_left']
    rfl

theorem switchFor_eq (hw : (s.media.rolls.get old).declared = some width) (hi : (s.media.rolls.get old).profile = some i)
    (h : Replaceable s old) :
    switchFor s old (s.media.rolls.get old) reason = some ⟨old.other, reason, width, i⟩
      ∧ compatible (s.media.rolls.get old.other) width i = true := by
  obtain ⟨hauto, hst, ⟨a, b, ha, hb, hab, hba⟩, j, hj, hj'⟩ := h
  obtain rfl : a = width := Option.some.inj (ha.symm.trans hw)
  obtain rfl : j = i := Option.some.inj (hj.symm.trans hi)
  have hcomp : compatible (s.media.rolls.get old.other) a j = true := compatible_iff.mpr ⟨hst, hj', b, hb, hba, hab⟩
  exact ⟨by simp [switchFor, ha, hj, hauto, hcomp], hcomp⟩

theorem switchFor_none (h : ¬ Replaceable s old) : switchFor s old (s.media.rolls.get old) reason = none := by
  unfold switchFor
  split
  next width i hw hi =>
    refine if_neg fun hgo => h ?_
    rw [Bool.and_eq_true] at hgo
    obtain ⟨hauto, hcomp⟩ := hgo
    obtain ⟨hst, hj, d, hd, hdw, hwd⟩ := compatible_iff.mp hcomp
    exact ⟨hauto, hst, ⟨width, d, hw, hd, hwd, hdw⟩, i, hi, hj⟩
  next => rfl

theorem lookSwitch_starts (hs : w.media.switch = some ⟨sl, reason, width, i⟩) (hp : parked w.toState = true)
    (hf : w.media.content ≠ .fault) (hc : compatible (w.media.rolls.get sl) width i = true) :
    lookSwitch w = startSwitch .auto none sl (switchEvent (some sl.other) sl none w) := by
  obtain ⟨hst, -⟩ := compatible_iff.mp hc
  have hfate : switchFate w.toState = .starts := by simp [switchFate, hs, hst, hp, hf, hc]
  simp only [lookSwitch, hfate, startAuto, hs]

theorem lookSwitch_waits (hs : w.media.switch = some ⟨sl, reason, width, i⟩) (hst : (w.media.rolls.get sl).state = .standby)
    (hp : parked w.toState = false) : lookSwitch w = w := by
  have hfate : switchFate w.toState = .waits := by simp [switchFate, hs, hst, hp]
  simp only [lookSwitch, hfate]

/-! ### The start for a long sheet (R48) -/

theorem openFields_length {tag length chans cls : Nat} {q : OpenReq} (h : openFields tag length chans cls = some q) :
    q.length = length := by
  unfold openFields at h
  split at h
  · split at h
    · cases h
    · cases h
      rfl
  · cases h

theorem sheetOpen_short {tag length chans cls left : Nat} {q : OpenReq} (hq : openFields tag length chans cls = some q)
    (hph : w.sheet.phase = .none) (hc : w.media.content = .clean) (hsw : w.media.switch = none) (hseq : w.media.seq = none)
    (ht : threadedSlot w.media = some old) (hm : threadedMargin w.toState ≤ length)
    (hr : (w.media.rolls.get old).remaining = some left) (hl : left < length) :
    sheetOpen tag length chans cls w = openShort q w := by
  have hlen := openFields_length hq
  have hm' : ¬ length < threadedMargin w.toState := by omega
  have hcheck : openCheck q w.toState = .shortRoll := by
    simp [openCheck, hph, hc, autoSwitching, hsw, hseq, ht, hlen, hm', hr, hl]
  simp only [sheetOpen, hq, hcheck]

theorem shortSwitch_of {length left : Nat} (ht : threadedSlot s.media = some old)
    (hr : (s.media.rolls.get old).remaining = some left) (hl : left < length)
    (hlong : ∀ n, (s.media.rolls.get old.other).remaining = some n → length ≤ n) :
    shortSwitch s length = switchFor s old (s.media.rolls.get old) .shortRoll := by
  have hall : (s.media.rolls.get old.other).remaining.all (length ≤ ·) = true := by
    cases hn : (s.media.rolls.get old.other).remaining with
    | none => rfl
    | some n => exact decide_eq_true (hlong n hn)
  simp [shortSwitch, ht, hr, hl, hall]

theorem shortSwitch_none {length : Nat} (ht : threadedSlot s.media = some old)
    (h : ¬ (Replaceable s old ∧ ∀ n, (s.media.rolls.get old.other).remaining = some n → length ≤ n)) :
    shortSwitch s length = none := by
  simp only [shortSwitch, ht]
  split
  next hgo =>
    rw [Bool.and_eq_true] at hgo
    refine switchFor_none fun halike => h ⟨halike, fun n hn => ?_⟩
    have hall := hgo.2
    rw [hn] at hall
    exact of_decide_eq_true hall
  next => rfl

/-- The switch takes the THREADED roll's place: its rewind starts (R34, R36). -/
theorem startSwitch_threaded {tag : Option Nat} {job : Job} (ht : threadedSlot w.media = some old) :
    startSwitch job tag sl w = startUnloadPart (takeSeq (newSeq job tag sl (some old)) w) := by
  simp only [startSwitch, ht]

theorem startSwitch_unthreaded {tag : Option Nat} {job : Job} (ht : threadedSlot w.media = none) :
    startSwitch job tag sl w = startLoadPart sl (takeSeq (newSeq job tag sl none) w) := by
  simp only [startSwitch, ht]

end

section
variable {w : Work} {old : Slot} {q : OpenReq}

/-- The pending switch is the only thing that a start of the switch takes from the media path's record. -/
theorem Media.switch_none {m : Media} {o : Owner} {x : Option Sequence} (h : m.switch = none) :
    ({ m with owner := o, switch := none, seq := x } : Media) = { m with owner := o, seq := x } := by
  simp only [h]

/-- SHEET_OPEN of a sheet longer than the roll, with another roll for it: WAIT, and the switch starts (R36, R48). -/
theorem openShort_switches {left : Nat} (hph : w.sheet.phase = .none) (hc : w.media.content = .clean) (ho : w.media.owner = .idle)
    (hsw : w.media.switch = none) (ht : threadedSlot w.media = some old) (hr : (w.media.rolls.get old).remaining = some left)
    (hl : left < q.length) (hp : parked w.toState = true) (hm : w.feed.move = none) (hk : 700000 * w.feed.k / 1000000 ≠ 0)
    (halike : Replaceable w.toState old)
    (hlong : ∀ n, (w.media.rolls.get old.other).remaining = some n → q.length ≤ n) :
    openShort q w = { w with
      media := { w.media with
        owner := .unloading
        seq := some ⟨.auto, .unloadRewind, none, old.other, some old, 0, none, .left, none, 0, none, none, none, false⟩ }
      feed := { w.feed with
        move := some ⟨⟨.unloading, .media, false, 700000, .rewind⟩, 700000 * w.feed.k / 1000000, 0, false, w.now, 0⟩ }
      station := { w.station with car := w.station.car.mediaClaimed }
      outbox := w.outbox ++ [eventNotice .media 2 (u8 old.num ++ u8 old.other.num ++ absent 1)]
      reply := some ⟨.wait, .ok, [], 0⟩ } := by
  obtain ⟨-, -, ⟨width, -, hwidth, -⟩, i, hi, -⟩ := id halike
  obtain ⟨hfor, hcomp⟩ := switchFor_eq (reason := .shortRoll) hwidth hi halike
  have hshort : shortSwitch w.toState q.length = some ⟨old.other, .shortRoll, width, i⟩ :=
    (shortSwitch_of ht hr hl hlong).trans hfor
  have hlook := lookSwitch_starts (w := modMedia (fun m => { m with switch := some ⟨old.other, .shortRoll, width, i⟩ }) (waitReply w))
    rfl hp (by show w.media.content ≠ .fault; rw [hc]; decide) hcomp
  have hgo : openShort q w
      = lookSwitch (modMedia (fun m => { m with switch := some ⟨old.other, .shortRoll, width, i⟩ }) (waitReply w)) := by
    have howner : decide (w.media.owner = .idle) = true := decide_eq_true ho
    simp only [openShort, hph, if_true, hshort]
    exact (congrArg (fun b => when b lookSwitch _) howner).trans rfl
  rw [hgo, hlook, startSwitch_threaded (by exact ht), startUnload_clean (by exact hc) (by exact hm) (by exact hk), Slot.other_other]
  refine Eq.trans ?_ (congrArg (fun m => ({ w with
      media := m
      feed := { w.feed with
        move := some ⟨⟨.unloading, .media, false, 700000, .rewind⟩, 700000 * w.feed.k / 1000000, 0, false, w.now, 0⟩ }
      station := { w.station with car := w.station.car.mediaClaimed }
      outbox := w.outbox ++ [eventNotice .media 2 (u8 old.num ++ u8 old.other.num ++ absent 1)]
      reply := some ⟨.wait, .ok, [], 0⟩ } : Work)) (Media.switch_none hsw))
  rfl

theorem openShort_refused (hph : w.sheet.phase = .none) (h : shortSwitch w.toState q.length = none) :
    openShort q w = refuse .shortRoll w := by
  simp only [openShort, hph, if_true, h]

end

/-! ### The end of a remainder ejection (R38) -/

/-- The media path when the remainder of an ENDED roll has left it. -/
def Media.ejected (m : Media) (old : Slot) : Media :=
  { m with
    content := .empty, ejecting := none, owner := .idle, seq := none
    rolls := m.rolls.set old (restRoll (m.present.get old) (m.rolls.get old)) }

section
variable {w : Work} {old : Slot} {q : Sequence}

theorem threadedSlot_set_none {m n : Media} {sl : Slot} {r : Roll} (h : threadedSlot m = none) (hn : n.rolls = m.rolls.set sl r)
    (hr : r.state ≠ .threaded) : threadedSlot n = none := by
  have hboth : ¬ m.rolls.s1.state = .threaded ∧ ¬ m.rolls.s2.state = .threaded := by
    unfold threadedSlot at h
    split at h
    · cases h
    · split at h
      · cases h
      · exact ⟨‹_›, ‹_›⟩
  cases sl <;> simp [threadedSlot, hn, Slots.set, hboth, hr]

theorem threadedSlot_ejected (ht : threadedSlot w.media = none) (hst : (w.media.rolls.get old).state = .ended) :
    threadedSlot (w.media.ejected old) = none := by
  refine threadedSlot_set_none ht rfl ?_
  unfold restRoll
  split
  · rw [hst]
    decide
  · decide

theorem mediaMoveEnded_ejectSecond {r : MoveReport} (hq : w.media.seq = some q) (hs : q.step = .ejectSecond)
    (hp : r.ask.purpose = .ejection) (ho : r.outcome = .completed) : mediaMoveEnded r w = ejectDone q.slot w := by
  simp [mediaMoveEnded, hq, hs, hp, ejectMoveEnded, ho, MoveOutcome.isFault]

/-- The switch that an ejection's end makes pending is the one of R36, where there is one. -/
theorem ejectDone_eq : ejectDone old w = lookSwitch { w with
    media := { w.media.ejected old with
      switch := if (switchFor w.toState old (w.media.rolls.get old) .rollEnd).isSome
        then switchFor w.toState old (w.media.rolls.get old) .rollEnd else w.media.switch } } := by
  simp only [ejectDone, handOn, modMedia, modRoll, setOwner]
  rfl

theorem ejectDone_nobody (hsw : w.media.switch = none) (h : ¬ Replaceable w.toState old) :
    ejectDone old w = { w with media := w.media.ejected old } := by
  rw [ejectDone_eq, switchFor_none h, if_neg (by decide), lookSwitch_absent (by exact hsw)]
  rfl

theorem ejectDone_waits {width i : Nat} (hw : (w.media.rolls.get old).declared = some width) (hi : (w.media.rolls.get old).profile = some i)
    (h : Replaceable w.toState old) (hp : parked w.toState = false) :
    ejectDone old w = { w with
      media := { w.media.ejected old with switch := some ⟨old.other, .rollEnd, width, i⟩ } } := by
  obtain ⟨hfor, -⟩ := switchFor_eq (reason := .rollEnd) hw hi h
  obtain ⟨-, hst, -⟩ := h
  rw [ejectDone_eq, hfor, if_pos (by rfl)]
  refine lookSwitch_waits rfl ?_ hp
  simp only [Media.ejected, Slots.get_other]
  exact hst

theorem ejectDone_switches {c : Int} (hsw : w.media.switch = none) (h : Replaceable w.toState old) (hp : parked w.toState = true)
    (hm : w.feed.move = none) (ht : threadedSlot w.media = none) (hst : (w.media.rolls.get old).state = .ended)
    (hc : clampInt (-20000) 20000
      (((slotProfile w.toState old.other).map Profile.sProfile).getD 0 + w.feed.sHost + w.feed.sTrack) = c)
    (hn : forwardCounts 400000 w.feed.k c w.feed.r ≠ 0) :
    ejectDone old w = { w with
      media := { w.media.ejected old with
        owner := .loading
        seq := some ⟨.auto, .edgeSearch, none, old.other, none, 0, none, .left, none, 0, none, none, none, false⟩ }
      feed := { w.feed with
        r := newResidue 400000 w.feed.k c w.feed.r
        move := some ⟨⟨.loading, .media, true, 400000, .edgeSearch⟩, forwardCounts 400000 w.feed.k c w.feed.r, c, false, w.now, 0⟩ }
      station := { w.station with car := w.station.car.mediaClaimed }
      outbox := w.outbox ++ [eventNotice .media 2 (u8 old.num ++ u8 old.other.num ++ absent 1)] } := by
  obtain ⟨-, -, ⟨width, -, hwidth, -⟩, i, hi, -⟩ := id h
  obtain ⟨hfor, hcomp⟩ := switchFor_eq (reason := .rollEnd) hwidth hi h
  have hother : (w.media.ejected old).rolls.get old.other = w.media.rolls.get old.other := Slots.get_other _ _ _
  have hfree := threadedSlot_ejected (w := w) (old := old) ht hst
  have hprof : slotProfile { w.toState with media := w.media.ejected old } old.other = slotProfile w.toState old.other := by
    simp only [slotProfile, hother]
    rfl
  have hlook := lookSwitch_starts
    (w := { w with media := { w.media.ejected old with switch := some ⟨old.other, .rollEnd, width, i⟩ } }) rfl hp nofun
    (hother.symm ▸ hcomp)
  have hload := startLoad_eq (job := .auto) (tag := none) (old := none) (c := c)
    (w := switchEvent (some old) old.other none
      { w with media := { w.media.ejected old with switch := some ⟨old.other, .rollEnd, width, i⟩ } })
    (sl := old.other) hm hfree hprof hc hn
  rw [ejectDone_eq, hfor, if_pos (by rfl), hlook, startSwitch_unthreaded (by exact hfree), Slot.other_other]
  refine hload.trans ?_
  simp only [switchEvent, event, give, Media.ejected, hsw]
  rfl

end

/-! ### The end of a failed load of the switch (R32, R36) -/

/-- A rewound roll grows by the travel, up to the limit (R23). -/
theorem remainingAfter_back {n : Nat} : remainingAfter false n = fun l => min 300000000 (l + n) :=
  funext fun _ => if_neg nofun

section
variable {w : Work} {q : Sequence} {old : Slot} {failure : Code}

theorem mediaMoveEnded_failRewind {r : MoveReport} (hq : w.media.seq = some q) (hs : q.step = .failRewind) (hp : r.ask.purpose = .rewind) :
    mediaMoveEnded r w = loadRewound q r.outcome w := by
  simp only [mediaMoveEnded, hq, hs, hp]

/-- The rewind of the switch's failed load has ended well: the load fault, then the switch's end (R32, R36). -/
theorem loadRewound_auto (hj : q.job = .auto) (hsl : q.slot = old.other) (hf : q.failure = some failure)
    (hp : w.media.present.get old.other = true) (hl : w.media.edgeLeft = false) (hr : w.media.edgeRight = false)
    (he : w.media.ejecting = none) (hsw : w.media.switch = none) :
    loadRewound q .completed w = { w with
      media := { w.media with
        owner := .idle, seq := none
        rolls := w.media.rolls.set old.other { w.media.rolls.get old.other with fault := some failure } }
      station := { w.station with car := w.station.car.mediaFreed.timed w.now }
      outbox := w.outbox ++ [eventNotice .media 1 (u8 old.other.num ++ code failure),
        eventNotice .media 2 (u8 old.num ++ u8 old.other.num ++ code failure)] } := by
  have hclear : edgesClear w.media = true := by simp [edgesClear, hl, hr]
  have hnotes {y : Work} : seqNotices q failure true y = { y with
      outbox := y.outbox ++ [eventNotice .media 1 (u8 old.other.num ++ code failure),
        eventNotice .media 2 (u8 old.num ++ u8 old.other.num ++ code failure)] } := by
    simp only [seqNotices, hj, replacedSlot, hsl, if_true, Slot.other_other, loadFaultEvent, switchEvent, event, give, when]
    simp [eventNotice, optSlot, optCode]
  unfold loadRewound
  rw [if_pos (by simp [hclear])]
  dsimp only [endSeq]
  rw [handOn_idle (by exact he) (by exact hsw), hf, Option.getD_some, hnotes, hsl]
  simp only [hp, restRoll, if_true]
  rfl

end

/-- Settles O22: the switch for a long sheet, after a remainder ejection, and its failed load. -/
theorem autoSwitchReplacesTheRoll : Obligations.AutoSwitchReplacesTheRoll := by
  intro s old x y alike starts claimed begun
  refine ⟨?_, ?_, ?_⟩
  · intro tag length chans cls q left h hq hph hc ho he hsw hseq ht hmargin hr hl hp hm hk long
    have hlen := openFields_length hq
    have hopen := sheetOpen_short (w := Work.of s) hq hph hc hsw hseq ht hmargin hr hl
    refine ⟨fun hgo => ?_, fun hno => ?_⟩
    · obtain ⟨halike, hlong⟩ := hgo
      subst hlen
      exact ask_decided (q := ⟨0x01, tag, .sheetOpen q.length chans cls⟩) h rfl
        (hopen.trans (openShort_switches (w := Work.of s) hph hc ho hsw ht hr hl hp hm hk halike hlong)) rfl rfl
    · have hshort : shortSwitch s q.length = none := by
        rw [hlen]
        exact shortSwitch_none ht hno
      exact ask_decided (q := ⟨0x01, tag, .sheetOpen length chans cls⟩) h rfl
        (hopen.trans (openShort_refused (w := Work.of s) hph hshort)) rfl rfl
  · intro q m n hs hq hstep hslot hm hask hunt hlast hagain ho hsw ht hst cleared stopped c counts
    subst hslot
    have hR : m.ask.requester = .media ∧ m.ask.purpose = .ejection := by simp [hask]
    have hcount := countMove_ends (w := Work.of s) (n := n) hm hlast hunt
    have hend := mediaMoveEnded_ejectSecond (w := { Work.of s with feed := { s.feed with move := none } })
      (r := ({ m with seen := m.commanded } : Move).report .completed none s.feed.k) hq hstep hR.2 rfl
    have hpath : rollOnPath s.media = some q.slot := rollOnPath_seq ht hq (by rw [hstep]; rfl)
    refine ⟨fun halike hp hn => ?_, fun width i halike hw hi hp => ?_, fun hno => ?_⟩
    · have hdone := hend.trans (ejectDone_switches (c := c)
        (w := { Work.of s with feed := { s.feed with move := none } }) hsw halike hp rfl ht hst rfl hn)
      exact occur_one hs Keeps.countMove hcount rfl (deliver_ejectMove hpath hst hR.1 hdone hagain) rfl
    · have hdone := hend.trans (ejectDone_waits
        (w := { Work.of s with feed := { s.feed with move := none } }) hw hi halike hp)
      exact occur_one hs Keeps.countMove hcount rfl (deliver_ejectMove hpath hst hR.1 hdone hagain) rfl
    · have hdone := hend.trans (ejectDone_nobody
        (w := { Work.of s with feed := { s.feed with move := none } }) hsw hno)
      exact occur_one hs Keeps.countMove hcount rfl (deliver_ejectMove hpath hst hR.1 hdone hagain) rfl
  · intro q m n failure hs hq hstep hjob hslot hfail hm hunt hreq hpurp hfwd ha hlast hagain he hsw ht hst hpres hleft hright
    have hcount := countMove_ends (w := Work.of s) (n := n) hm hlast hunt
    have hpath : rollOnPath s.media = some old.other := hslot ▸ rollOnPath_seq ht hq (by rw [hstep]; rfl)
    have hne : (s.media.rolls.get old.other).state ≠ .ended := by
      show y.state ≠ .ended
      rw [hst]
      decide
    have hend := (mediaMoveEnded_failRewind (w := { Work.of s with
        feed := { s.feed with move := none }, media := s.media.moved old.other false m.ask.a })
      (r := ({ m with seen := m.commanded } : Move).report .completed none s.feed.k) hq hstep hpurp).trans
      (loadRewound_auto hjob hslot hfail hpres hleft hright he hsw)
    refine (occur_one hs Keeps.countMove hcount rfl (deliver_mediaMove hpath ha hne hreq hfwd rfl hend hagain) rfl).trans ?_
    simp only [Media.moved, Slots.get_set_same, Slots.set_set, remainingAfter_back]
    rfl

end Sys2Proof.Machine
end

section
/-! ## Sheets: opening, swaths, the close, the abort and the tail (R46 to R62, R68, R69; O26 to O30, O32) -/

namespace Sys2Proof.Machine

open Sys2Proof

set_option Elab.async false

/-! ### Moves of a sheet -/

section
variable {w : Work} {q : MoveAsk} {c : Int} {sl : Slot} {prof : Profile}

/-- A forward move of the THREADED roll that starts, with the correction and the tracking of its profile (R4, R6, R15). -/
theorem askMove_threaded (hm : w.feed.move = none) (ho : q.owner = w.media.owner) (hi : w.media.owner ≠ .idle)
    (ha : allowed q.owner q.forward q.purpose = true) (hf : q.forward = true) (h1 : 1 ≤ q.a) (hmax : q.a ≤ 3000000)
    (ht : threadedSlot w.media = some sl) (hprof : slotProfile w.toState sl = some prof)
    (hc : clampInt (-20000) 20000 (prof.sProfile + w.feed.sHost + w.feed.sTrack) = c) (hn : forwardCounts q.a w.feed.k c w.feed.r ≠ 0) :
    askMove q w = { w with
      feed := { w.feed with
        r := newResidue q.a w.feed.k c w.feed.r
        move := some ⟨q, forwardCounts q.a w.feed.k c w.feed.r, c, prof.tracking, w.now, 0⟩ } } := by
  have hprof' : (w.media.rolls.get sl).profile.bind (profileAt w.toState) = some prof := hprof
  have hT : totalS w.toState = c := by
    refine (totalS_of (rollOnPath_threaded ht)).trans (Eq.trans ?_ hc)
    rw [hprof']
    rfl
  have htrack : trackingApplies q w.toState = prof.tracking := by simp [trackingApplies, ht, hprof', h1, hf]
  have hlen : lengthOk q.purpose q.a = true := by simp [lengthOk, h1, hmax, Config.maxMove]
  subst hT
  rw [askMove_taken (moveAnswer_taken hm ho hi ha hlen), startMove_forward hf (Nat.one_le_iff_ne_zero.mp h1) hn, htrack]

theorem sheetMove_starts {p : Purpose} {a : Nat} (hp : allowed .sheet true p = true) (h1 : 1 ≤ a) (hmax : a ≤ 3000000)
    (hm : w.feed.move = none) (ho : w.media.owner = .sheet) (ht : threadedSlot w.media = some sl)
    (hprof : slotProfile w.toState sl = some prof) (hc : clampInt (-20000) 20000 (prof.sProfile + w.feed.sHost + w.feed.sTrack) = c)
    (hn : forwardCounts a w.feed.k c w.feed.r ≠ 0) :
    sheetMove p a w = { w with
      feed := { w.feed with
        r := newResidue a w.feed.k c w.feed.r
        move := some ⟨⟨.sheet, .sheet, true, a, p⟩, forwardCounts a w.feed.k c w.feed.r, c, prof.tracking, w.now, 0⟩ } } :=
  askMove_threaded hm ho.symm (by rw [ho]; decide) hp rfl h1 hmax ht hprof hc hn

end

/-! ### SHEET_OPEN (R46 to R52) -/

section
variable {w : Work} {q : OpenReq} {sl : Slot} {prof : Profile}

theorem headsOf_get {set : Chans Bool} {h : Head} (hh : (headsOf set).get h = true) : ∃ ch : Chan, set.get ch = true ∧ ch.head = h := by
  cases h <;> simp only [headsOf, Heads.get, Bool.or_eq_true] at hh <;> obtain hc | hc := hh
  · exact ⟨.c0, hc, rfl⟩
  · exact ⟨.c1, hc, rfl⟩
  · exact ⟨.c2, hc, rfl⟩
  · exact ⟨.c3, hc, rfl⟩
  · exact ⟨.c4, hc, rfl⟩
  · exact ⟨.c5, hc, rfl⟩

/-- No head of a set has a property that the head of no channel of the set has. -/
theorem someHead_none {set : Chans Bool} {p : Head → Bool} (h : ∀ ch, set.get ch = true → p ch.head = false) :
    someHead (headsOf set) p = false := by
  rw [someHead, List.any_eq_false]
  intro x hx
  have hx' : (headsOf set).get x = true := by simpa [Heads.members] using (List.mem_filter.mp hx).2
  obtain ⟨ch, hch, rfl⟩ := headsOf_get hx'
  rw [h ch hch]
  decide

/-- Steps 4 to 8 of Table 3-3 for a set that is supplied, needs no cleaning and has no head that is degraded or in a round. -/
theorem openInkCheck_passes {s : State} {t : WasteRec}
    (hset : ∀ ch, q.chans.get ch = true → s.supply.supplied.get ch = true ∧ s.station.cleanDue.get ch.head = false
      ∧ (s.checker.escalation.get ch.head = .ok ∨ s.checker.escalation.get ch.head = .attention))
    (ht : s.station.waste.tank = some t) (hw : t.w < t.capacity) : openInkCheck q s = .passes := by
  have hink : q.chans.members.any (fun ch => !s.supply.supplied.get ch) = false := by
    rw [List.any_eq_false]
    intro ch hch
    obtain ⟨hs, -⟩ := hset ch (List.mem_filter.mp hch).2
    rw [hs]
    decide
  have hclean := someHead_none (set := q.chans) (p := s.station.cleanDue.get) fun ch hch => (hset ch hch).2.1
  have hdegraded := someHead_none (set := q.chans) (p := fun h => s.checker.escalation.get h = .degraded) fun ch hch => by
    obtain ⟨-, -, h | h⟩ := hset ch hch <;> rw [h] <;> decide
  have hround := someHead_none (set := q.chans) (p := fun h => (s.checker.escalation.get h).isRound) fun ch hch => by
    obtain ⟨-, -, h | h⟩ := hset ch hch <;> rw [h] <;> decide
  simp only [openInkCheck, hink, hclean, hdegraded, hround, Bool.false_and, Bool.false_eq_true, if_false, ht, hw, if_true]

theorem threadedMargin_of {s : State} (ht : threadedSlot s.media = some sl) (hp : slotProfile s sl = some prof) :
    threadedMargin s = prof.margin := by
  simp [threadedMargin, ht, hp]

theorem openFields_plain {tag length chans : Nat} {set : Chans Bool} (hs : chanSetOf chans = some set) (he : set.isEmpty = false)
    (hmin : 50000 ≤ length) (hmax : length ≤ 20000000) :
    openFields tag length chans 0 = some ⟨tag, length, set, .plain, false⟩ := by
  have hlen : (length < Config.minSheet || Config.maxSheet < length || set.isEmpty : Bool) = false := by
    have h1 : ¬ length < Config.minSheet := by
      unfold Config.minSheet
      omega
    have h2 : ¬ Config.maxSheet < length := by
      unfold Config.maxSheet
      omega
    simp [h1, h2, he]
  simp only [openFields, hs, hlen, Bool.false_eq_true, if_false]

/-- SHEET_OPEN on a CLEAN path with every condition of Table 3-3 met (R47 to R51). -/
theorem sheetOpen_passes {tag length chans cls : Nat} {t : WasteRec} (hq : openFields tag length chans cls = some q)
    (hph : w.sheet.phase = .none) (hc : w.media.content = .clean) (ho : w.media.owner = .idle) (he : w.media.ejecting = none)
    (hsw : w.media.switch = none) (hseq : w.media.seq = none) (ht : threadedSlot w.media = some sl)
    (hp : slotProfile w.toState sl = some prof) (hm : prof.margin ≤ q.length)
    (hr : ∀ rem, (w.media.rolls.get sl).remaining = some rem → q.length ≤ rem)
    (hset : ∀ ch, q.chans.get ch = true → w.supply.supplied.get ch = true ∧ w.station.cleanDue.get ch.head = false
      ∧ (w.checker.escalation.get ch.head = .ok ∨ w.checker.escalation.get ch.head = .attention))
    (hwt : w.station.waste.tank = some t) (hw : t.w < t.capacity) :
    sheetOpen tag length chans cls w
      = feedMargin { started 0 w with
          sheet := openRecord q prof.margin, media := { w.media with owner := .sheet } } := by
  have hmargin := threadedMargin_of ht hp
  have hlong : (w.media.rolls.get sl).remaining.any (· < q.length) = false := by
    cases hn : (w.media.rolls.get sl).remaining with
    | none => rfl
    | some n => exact decide_eq_false (Nat.not_lt.mpr (hr n hn))
  have hcheck : openCheck q w.toState = .passes := by
    have hm' : ¬ q.length < threadedMargin w.toState := by omega
    simp only [openCheck, hph, hc, autoSwitching, hsw, hseq, ht, hm', hlong, openInkCheck_passes hset hwt hw]
    rfl
  have hfree : takeGranted w.toState = true := by simp [takeGranted, ho, hc, he, hsw]
  have hnd : ¬ (Content.clean = .dirty) := by decide
  have hmargin' : threadedMargin (setOwner .sheet (started 0 w)).toState = prof.margin := hmargin
  simp only [sheetOpen, hq, hcheck, openTaken, hph, if_true, hfree, beginSheet, hmargin']
  exact if_neg (by show ¬ w.media.content = .dirty; rw [hc]; decide)

/-- A margin of 0 is done at once (R52). -/
theorem feedMargin_zero {tag : Nat} (hm : w.sheet.margin = 0) (htag : w.sheet.openTag = some tag) (hq : w.sheet.queue = [])
    (hc : w.sheet.close = none) :
    feedMargin w = { w with
      sheet := { w.sheet with phase := .swathing, openTag := none }
      outbox := w.outbox ++ [opDoneNotice 0x01 tag .ok (u32 0 ++ u8 8)] } := by
  rw [feedMargin, if_pos hm]
  simp only [marginDone, modSheet, htag]
  refine (sheetLook_idle (w := modSheet (fun x => { x with openTag := none }) (openDone tag
    { w with sheet := { w.sheet with phase := .swathing } })) hq hc).trans ?_
  simp only [openDone, hm, freeSwaths, hq]
  rfl

theorem feedMargin_feeds (hm : w.sheet.margin ≠ 0) : feedMargin w = sheetMove .leadingMargin w.sheet.margin w := by
  rw [feedMargin, if_neg hm]

end

/-- Settles O26: the margin is fed, or with a margin of 0 the sheet is SWATHING. -/
theorem sheetOpenFeedsTheMargin : Obligations.SheetOpenFeedsTheMargin := by
  intro s tag length chans set sl prof t h hset hne hmin hmax hph hc ho he hsw hseq ht hp hm hmm hr hink hwt hw hmove c counts opened
  have hopen := sheetOpen_passes (w := Work.of s) (openFields_plain (tag := tag) hset hne hmin hmax) hph hc ho he hsw hseq ht hp hm hr
    hink hwt hw
  refine ⟨fun hpos hn => ?_, fun hzero => ?_⟩
  · have hfeed := (feedMargin_feeds (w := { started 0 (Work.of s) with
        sheet := openRecord ⟨tag, length, set, .plain, false⟩ prof.margin, media := { s.media with owner := .sheet } }) hpos).trans
      (sheetMove_starts (c := c) rfl (Nat.one_le_iff_ne_zero.mpr hpos) (le_trans hmm (by decide)) hmove rfl ht hp rfl hn)
    exact ask_decided (q := ⟨0x01, tag, .sheetOpen length chans 0⟩) h rfl (hopen.trans hfeed) rfl rfl
  · have hfeed := feedMargin_zero (w := { started 0 (Work.of s) with
        sheet := openRecord ⟨tag, length, set, .plain, false⟩ prof.margin, media := { s.media with owner := .sheet } })
      hzero rfl rfl rfl
    exact ask_decided (q := ⟨0x01, tag, .sheetOpen length chans 0⟩) h rfl (hopen.trans hfeed) rfl rfl

/-! ### SWATH (R53 to R57) -/

section
variable {w : Work} {tag a : Nat} {printed spit : Chans Nat}

theorem outsideSet_false {s : State} (h : ∀ ch, s.sheet.chans.get ch = false → printed.get ch = 0 ∧ spit.get ch = 0) :
    outsideSet s printed spit = false := by
  rw [outsideSet, List.any_eq_false]
  intro ch _
  cases hc : s.sheet.chans.get ch with
  | true => simp
  | false =>
    obtain ⟨hp, hs⟩ := h ch hc
    simp [hp, hs]

theorem swathRefusal_none {s : State} (hc : s.media.content ≠ .fault) (hph : s.sheet.phase = .opening ∨ s.sheet.phase = .swathing)
    (hcl : s.sheet.close = none) (hab : s.sheet.abort = none) (ha : a ≤ 120000) (hset : outsideSet s printed spit = false)
    (hq : s.sheet.queue.length < 8) : swathRefusal s a printed spit = none := by
  have ha' : ¬ Config.maxAdvance < a := by
    unfold Config.maxAdvance
    omega
  have hq' : ¬ Config.swathSlots ≤ s.sheet.queue.length := Nat.not_le.mpr hq
  obtain hph | hph := hph <;> simp [swathRefusal, hc, hph, hcl, hab, ha', hset, hq']

theorem takeDrops_none : takeDrops (Chans.all 0) (Chans.all 0) w = (0, w) := by
  simp [takeDrops, allChans, printDrops, spitDrops, when]

/-- A SWATH that is taken: its ink is debited, it joins the queue, and the sheet unit looks at its head (R54). -/
theorem swath_taken {ink : Nat} {x : Work} (hr : swathRefusal w.toState a printed spit = none)
    (hl : w.sheet.committed + a ≤ w.sheet.length) (hx : takeDrops printed spit w = (ink, x)) :
    swath tag a printed spit w = { x with
      sheet := { x.sheet with queue := x.sheet.queue ++ [⟨tag, a, ink, false⟩], committed := x.sheet.committed + a }
      reply := some ⟨.queued, .ok, u8 (8 - (x.sheet.queue.length + 1)), 0⟩
      agenda := x.agenda ++ [.sheetLook] } := by
  have hl' : ¬ w.sheet.length < w.sheet.committed + a := by omega
  simp only [swath, hr, hl', if_false, hx]
  simp only [post, answerWith, modSheet, freeSwaths, List.length_append, List.length_singleton]
  rfl

/-- A SWATH past the declared length (R53). -/
theorem swath_overruns (hr : swathRefusal w.toState a printed spit = none) (hl : w.sheet.length < w.sheet.committed + a) :
    swath tag a printed spit w = faultNow .overrun (refuse .overrun w) := by
  simp only [swath, hr, hl, if_true]

theorem sheetLook_starts {e : Swath} {rest : List Swath} (hq : w.sheet.queue = e :: rest) (he : e.inFlight = false)
    (hph : w.sheet.phase = .swathing) (hab : w.sheet.abort = none) (hm : w.feed.move = none) (hh : setHeld w.toState = false) :
    sheetLook w = sheetMove .swath e.advance
      { w with sheet := { w.sheet with queue := { e with inFlight := true } :: rest } } := by
  have hready : headReady w.toState = some e := by simp [headReady, hq, he, hph, hab, hm, hh]
  simp only [sheetLook, hready, startHead, modSheet, hq, List.tail_cons]

theorem setHeld_none {s : State} (h : ∀ ch, s.sheet.chans.get ch = true → (chanRec s ch).hold = false) : setHeld s = false := by
  rw [setHeld, List.any_eq_false]
  intro ch hch
  rw [h ch (List.mem_filter.mp hch).2]
  decide

end

/-- Settles O28: the swath that starts at once, and the one past the declared length. -/
theorem swathStartsOrOverruns : Obligations.SwathStartsOrOverruns := by
  intro s tag a sl prof h hc hph hcl hab hop ha hq hm ho ht hp hhold c counts body
  have hset : outsideSet s (Chans.all 0) (Chans.all 0) = false :=
    outsideSet_false fun ch _ => ⟨Chans.get_all _ _, Chans.get_all _ _⟩
  have hr := swathRefusal_none (s := s) hc (.inr hph) hcl hab ha hset (by rw [hq]; decide)
  refine ⟨fun hl h1 hn => ?_, fun hl => ?_⟩
  · have hgo := swath_taken (w := Work.of s) (tag := tag) hr hl takeDrops_none
    have hlook := (sheetLook_starts (w := { Work.of s with
        sheet := { s.sheet with queue := [⟨tag, a, 0, false⟩], committed := s.sheet.committed + a }
        reply := some ⟨.queued, .ok, u8 7, 0⟩ }) rfl rfl hph hab hm (setHeld_none hhold)).trans
      (sheetMove_starts (c := c) rfl h1 (le_trans ha (by decide)) hm ho ht hp rfl hn)
    have hgo' : swath tag a (Chans.all 0) (Chans.all 0) (Work.of s) = { Work.of s with
        sheet := { s.sheet with queue := [⟨tag, a, 0, false⟩], committed := s.sheet.committed + a }
        reply := some ⟨.queued, .ok, u8 7, 0⟩, agenda := [.sheetLook] } := by
      rw [hgo]
      simp only [Work.of, hq, List.nil_append, List.length_nil]
    exact ask_one (q := ⟨0x02, tag, body⟩) h rfl hgo' rfl hlook rfl rfl
  · have hfault := faultNow_eq (reason := .overrun) (w := refuse .overrun (Work.of s))
      (x := { s.sheet with phase := .faulted, fault := some .overrun }) (ns := [])
      (by show ∀ e ∈ s.sheet.queue, _; rw [hq]; exact fun _ h => absurd h List.not_mem_nil) hab
      (by simp [faultedSheet, hop, hcl, hab]) (by simp [operationNotices, hop, hcl])
    exact ask_decided (q := ⟨0x02, tag, body⟩) h rfl ((swath_overruns (w := Work.of s) hr hl).trans hfault) rfl rfl

/-! ### The ink of a swath (R54, R94) -/

/-- A channel's record when printed drops of a drop volume have been debited to it (R94). -/
def printedFrom (n drop : Nat) (c : Channel) : Channel :=
  if n = 0 then c
  else { c with
    residue := (n * drop + c.residue) % 10000
    e := c.e - (n * drop + c.residue) / 10000
    printed := c.printed + (n * drop + c.residue) / 10000 }

theorem ample_of_eq {s t : State} {ch : Chan} {n : Nat} (hc : chanRec s ch = chanRec t ch) (hs : s.supply = t.supply) (h : t.ample ch n) :
    s.ample ch n := by
  intro hn
  obtain ⟨he, hd, hh⟩ := h hn
  have hv : dropVolume s ch n = dropVolume t ch n := by
    obtain ⟨h1, -⟩ := dropVolume_eq (s := s) (ch := ch) hn
    obtain ⟨h2, -⟩ := dropVolume_eq (s := t) (ch := ch) hn
    rw [h1, h2, hc, hs]
  rw [hv, hc]
  exact ⟨he, hd, hh⟩

/-- The debit of one channel's printed drops. -/
theorem printDrops_eq {printed : Chans Nat} {ch : Chan} {n : Nat} {w : Work} (ha : w.toState.ample ch (printed.get ch)) :
    printDrops printed ch (n, w)
      = (n + dropVolume w.toState ch (printed.get ch),
        setChan ch (printedFrom (printed.get ch) (w.supply.params.get ch).drop (chanRec w.toState ch)) w) := by
  by_cases hz : printed.get ch = 0
  · simp only [printDrops, hz, if_true, printedFrom, dropVolume, Nat.add_zero, setChan_self]
  · obtain ⟨hv, -⟩ := dropVolume_eq (s := w.toState) (ch := ch) hz
    simp only [printDrops, hz, if_false, debitDrops_eq hz ha, printedFrom, hv, addTally]

/-- The debits of a request's printed drops, channel by channel: each channel named is debited once, as it stood before. -/
theorem printDrops_all {printed : Chans Nat} {s : State} {l : List Chan} (hl : l.Nodup) (n : Nat) (w : Work)
    (hrec : ∀ ch ∈ l, chanRec w.toState ch = chanRec s ch) (hs : w.supply = s.supply) (ha : ∀ ch, s.ample ch (printed.get ch)) :
    ∃ x : Chans Channel,
      l.foldl (fun x ch => printDrops printed ch x) (n, w)
        = (n + (l.map (fun ch => dropVolume s ch (printed.get ch))).sum, { w with pump := { w.pump with chans := x } })
      ∧ ∀ ch, x.get ch = if ch ∈ l then printedFrom (printed.get ch) (s.supply.params.get ch).drop (chanRec s ch)
          else w.pump.chans.get ch := by
  induction l generalizing n w with
  | nil => exact ⟨w.pump.chans, rfl, fun ch => by simp⟩
  | cons ch rest ih =>
    obtain ⟨hnot, hrest⟩ := List.nodup_cons.mp hl
    have hhere := hrec ch List.mem_cons_self
    have hstep := printDrops_eq (n := n) (ample_of_eq hhere hs (ha ch))
    have hvol : dropVolume w.toState ch (printed.get ch) = dropVolume s ch (printed.get ch) := by
      by_cases hz : printed.get ch = 0
      · simp only [dropVolume, hz, if_true]
      · obtain ⟨h1, -⟩ := dropVolume_eq (s := w.toState) (ch := ch) hz
        obtain ⟨h2, -⟩ := dropVolume_eq (s := s) (ch := ch) hz
        rw [h1, h2, hhere, hs]
    rw [hvol, hhere, hs] at hstep
    obtain ⟨x, hx, hget⟩ := ih hrest (n + dropVolume s ch (printed.get ch))
      (setChan ch (printedFrom (printed.get ch) (s.supply.params.get ch).drop (chanRec s ch)) w)
      (fun c hc => (Chans.get_set_other _ _ (fun h : c = ch => hnot (by rw [← h]; exact hc))).trans
        (hrec c (List.mem_cons_of_mem _ hc))) hs
    refine ⟨x, ?_, fun c => ?_⟩
    · rw [List.foldl_cons, hstep, hx, List.map_cons, List.sum_cons, Nat.add_assoc]
      rfl
    · rw [hget c]
      by_cases hc : c = ch
      · subst hc
        simp [hnot, setChan]
      · have hother : (w.pump.chans.set ch (printedFrom (printed.get ch) (s.supply.params.get ch).drop (chanRec s ch))).get c
            = w.pump.chans.get c := Chans.get_set_other _ _ hc
        simp [hc, setChan, hother]

/-- The wet clocks of the channels that a request uses are restarted (R137). -/
theorem restartWets_all {used : Chan → Bool} {l : List Chan} (w : Work) :
    ∃ x : Chans Wet,
      forEach l (fun ch => when (used ch) (restartWet ch)) w = { w with station := { w.station with wet := x } }
      ∧ ∀ ch, x.get ch = if ch ∈ l ∧ used ch = true then ⟨w.now, false⟩ else w.station.wet.get ch := by
  induction l generalizing w with
  | nil => exact ⟨w.station.wet, rfl, fun ch => by simp⟩
  | cons ch rest ih =>
    obtain ⟨x, hx, hget⟩ := ih (when (used ch) (restartWet ch) w)
    refine ⟨x, ?_, fun c => ?_⟩
    · rw [forEach_cons, hx]
      cases used ch <;> rfl
    · rw [hget c]
      cases hu : used ch with
      | false =>
        by_cases hc : c = ch
        · subst hc
          simp [hu, when]
        · simp [hc, when]
      | true =>
        by_cases hc : c = ch
        · subst hc
          simp [hu, when, restartWet, setStation]
        · have hother : (w.station.wet.set ch ⟨w.now, false⟩).get c = w.station.wet.get c := Chans.get_set_other _ _ hc
          simp [hc, when, restartWet, setStation, hother]

/-- Printed drops without spits: the debits and the wet clocks of a request (R54, R137). -/
theorem takeDrops_printed {printed : Chans Nat} (w : Work) (ha : ∀ ch, w.toState.ample ch (printed.get ch)) :
    ∃ (x : Chans Channel) (y : Chans Wet),
      takeDrops printed (Chans.all 0) w
        = ((allChans.map (fun ch => dropVolume w.toState ch (printed.get ch))).sum,
          { w with pump := { w.pump with chans := x }, station := { w.station with wet := y } })
      ∧ ∀ ch, x.get ch = printedFrom (printed.get ch) (w.supply.params.get ch).drop (chanRec w.toState ch)
        ∧ y.get ch = if printed.get ch = 0 then w.station.wet.get ch else ⟨w.now, false⟩ := by
  have hmem : ∀ ch, ch ∈ allChans := fun ch => by cases ch <;> decide
  obtain ⟨x, hx, hgetx⟩ := printDrops_all (printed := printed) (s := w.toState) (l := allChans) (by decide) 0 w
    (fun _ _ => rfl) rfl ha
  obtain ⟨y, hy, hgety⟩ := restartWets_all (used := fun ch => decide (0 < printed.get ch) || decide (0 < (Chans.all 0).get ch))
    (l := allChans) { w with pump := { w.pump with chans := x } }
  have hspit (v : Work) : forEach allChans (spitDrops (Chans.all 0)) v = v := by simp [allChans, spitDrops]
  refine ⟨x, y, ?_, fun ch => ⟨?_, ?_⟩⟩
  · simp only [takeDrops, hx, hspit, hy, Nat.zero_add]
  · rw [hgetx ch, if_pos (hmem ch)]
  · rw [hgety ch]
    by_cases hz : printed.get ch = 0
    · simp [hz]
    · simp [hz, hmem ch, Nat.pos_of_ne_zero hz]

/-- While a move is in flight the sheet unit starts nothing (R57, R60). -/
theorem sheetLook_moving {w : Work} (hm : w.feed.move.isSome = true) : sheetLook w = w := by
  have hnone : w.feed.move.isNone = false := by simpa using hm
  have hh : headReady w.toState = none := by
    unfold headReady
    split <;> simp [hnone]
  have hr : closeReady w.toState = false := by simp [closeReady, hnone]
  simp [sheetLook, hh, hr]

/-- Settles O27: the debits channel by channel, and the entry that joins the queue. -/
theorem swathDebitsItsInk : Obligations.SwathDebitsItsInk := by
  intro s tag a printed h hc hph hcl hab ha hset hq hl hm hample
  have hout : outsideSet s printed (Chans.all 0) = false := outsideSet_false fun ch hch => ⟨hset ch hch, Chans.get_all _ _⟩
  obtain ⟨x, y, hx, hget⟩ := takeDrops_printed (Work.of s) hample
  have hgo := swath_taken (w := Work.of s) (tag := tag) (swathRefusal_none (s := s) hc hph hcl hab ha hout hq) hl hx
  refine ⟨_, ask_unheard (q := ⟨0x02, tag, .swath a printed (Chans.all 0)⟩) h rfl hgo rfl rfl (sheetLook_moving hm), rfl, rfl,
    fun ch => ?_⟩
  obtain ⟨hrec, hwet⟩ := hget ch
  exact ⟨hrec, hwet⟩

/-! ### SHEET_CLOSE (R60, R94, R132) -/

/-- A loop that does something for one element alone. -/
theorem forEach_only {α : Type} {a : α} {f : α → Work → Work} {l : List α} (hl : l.Nodup) (ha : a ∈ l)
    (hf : ∀ x, x ≠ a → ∀ w, f x w = w) (w : Work) : forEach l f w = f a w := by
  induction l generalizing w with
  | nil => exact absurd ha List.not_mem_nil
  | cons x rest ih =>
    obtain ⟨hnot, hrest⟩ := List.nodup_cons.mp hl
    rw [forEach_cons]
    by_cases hx : x = a
    · subst hx
      have hskip : ∀ (l : List α), x ∉ l → ∀ w, forEach l f w = w := by
        intro l
        induction l with
        | nil => exact fun _ w => rfl
        | cons y ys ih =>
          intro hy w
          rw [forEach_cons, hf y (fun h => hy (by rw [h]; exact List.mem_cons_self)),
            ih (fun h => hy (List.mem_cons_of_mem _ h))]
      exact hskip rest hnot _
    · rw [hf x hx]
      exact ih hrest ((List.mem_cons.mp ha).resolve_left (Ne.symm hx)) w

/-- A credit that leaves the waste level normal and asks for no write-back (R132 to R134). -/
theorem credit_normal {v : Nat} {t : WasteRec} {w : Work} (ht : w.station.waste.tank = some t) (hl : w.station.waste.level = .normal)
    (hlow : (t.w + v) * 10 < t.capacity * 9) (hw : t.w + v < t.written + 1000000) :
    credit v w = { w with
      station := { w.station with waste := { w.station.waste with tank := some { t with w := t.w + v } } } } := by
  have hlevel : wasteLevelOf (t.w + v) t.capacity = .normal := by
    have h1 : ¬ t.w + v = t.capacity := by omega
    have h2 : ¬ t.capacity * 9 ≤ (t.w + v) * 10 := by omega
    simp [wasteLevelOf, h1, h2]
  have hnot : ¬ t.written + 1000000 ≤ t.w + v := by omega
  have hnotes : levelNotices w.station.waste.level { t with w := t.w + v } = [] := by
    rw [hl]
    unfold levelNotices
    rw [hlevel]
    exact if_neg (by decide)
  rw [credit_eq ht (by omega), hnotes, hlevel, if_neg hnot, if_neg (fun h => hnot h.1), List.append_nil, ← hl]

/-- The spits of one channel (R60, R94, R132, R137). -/
theorem takeDrops_spits {ch : Chan} {drops v total : Nat} {t : WasteRec} {w : Work} (hd : drops ≠ 0) (ha : w.toState.ample ch drops)
    (ht : w.station.waste.tank = some t) (hl : w.station.waste.level = .normal)
    (htotal : drops * (w.supply.params.get ch).drop + (chanRec w.toState ch).residue = total) (hv : total / 10000 = v)
    (hlow : (t.w + v) * 10 < t.capacity * 9) (hw : t.w + v < t.written + 1000000) :
    takeDrops (Chans.all 0) ((Chans.all 0).set ch drops) w
      = (0, { w with
          pump := { w.pump with chans := w.pump.chans.set ch { chanRec w.toState ch with
            residue := total % 10000, e := (chanRec w.toState ch).e - v, serviced := (chanRec w.toState ch).serviced + v } }
          station := { w.station with
            waste := { w.station.waste with tank := some { t with w := t.w + v } }
            wet := w.station.wet.set ch ⟨w.now, false⟩ } }) := by
  subst htotal hv
  have hmem : ch ∈ allChans := by cases ch <;> decide
  have hother (c : Chan) (hc : c ≠ ch) : ((Chans.all 0).set ch drops).get c = 0 :=
    (Chans.get_set_other _ _ hc).trans (Chans.get_all _ _)
  have hhere : ((Chans.all 0).set ch drops).get ch = drops := Chans.get_set_same _ _ _
  have hprint : allChans.foldl (fun x ch => printDrops (Chans.all 0) ch x) (0, w) = (0, w) := by simp [allChans, printDrops]
  have hspit := forEach_only (f := spitDrops ((Chans.all 0).set ch drops)) (l := allChans) (by decide) hmem
    (fun c hc v => by simp [spitDrops, hother c hc]) w
  have hwet := forEach_only
    (f := fun c => when (0 < (Chans.all 0).get c || 0 < ((Chans.all 0).set ch drops).get c) (restartWet c)) (l := allChans) (by decide)
    hmem (fun c hc v => by simp [when, hother c hc])
  have hdrops : spitDrops ((Chans.all 0).set ch drops) ch w = { w with
      pump := { w.pump with chans := w.pump.chans.set ch { chanRec w.toState ch with
        residue := (drops * (w.supply.params.get ch).drop + (chanRec w.toState ch).residue) % 10000
        e := (chanRec w.toState ch).e - (drops * (w.supply.params.get ch).drop + (chanRec w.toState ch).residue) / 10000
        serviced := (chanRec w.toState ch).serviced
          + (drops * (w.supply.params.get ch).drop + (chanRec w.toState ch).residue) / 10000 } }
      station := { w.station with waste := { w.station.waste with
        tank := some { t with w := t.w + (drops * (w.supply.params.get ch).drop + (chanRec w.toState ch).residue) / 10000 } } } } := by
    simp only [spitDrops, hhere, hd, if_false, debitDrops_eq hd ha]
    exact credit_normal ht hl hlow hw
  have hpos : decide (0 < drops) = true := decide_eq_true (Nat.pos_of_ne_zero hd)
  simp only [takeDrops, hprint, hspit, hwet, hdrops, hhere, hpos, Bool.or_true, when_true]
  rfl

theorem sheetClose_taken {tag ink : Nat} {printed spit : Chans Nat} {x w : Work} (hr : closeRefusal w.toState printed spit = none)
    (hx : takeDrops printed spit w = (ink, x)) :
    sheetClose tag printed spit w = { x with
      sheet := { x.sheet with close := some ⟨tag, ink⟩ }
      reply := some ⟨.started, .ok, [], 0⟩, agenda := x.agenda ++ [.sheetLook] } := by
  simp only [sheetClose, hr, hx]
  rfl

/-- Settles O29: the debit, the credit and the close of a sheet whose last swath moves. -/
theorem sheetCloseCreditsItsSpits : Obligations.SheetCloseCreditsItsSpits := by
  intro s tag drops ch t h hc hph hcl hab hm hset hd ha ht hl v hlow hw spit
  have hout : outsideSet s (Chans.all 0) spit = false := outsideSet_false fun c hc => by
    have hne : c ≠ ch := fun he => by
      rw [he, hset] at hc
      cases hc
    exact ⟨Chans.get_all _ _, (Chans.get_set_other _ _ hne).trans (Chans.get_all _ _)⟩
  have hr : closeRefusal s (Chans.all 0) spit = none := by simp [closeRefusal, hc, hph, hcl, hab, hout]
  exact ask_unheard (q := ⟨0x03, tag, .sheetClose (Chans.all 0) spit⟩) h rfl
    (sheetClose_taken (w := Work.of s) hr (takeDrops_spits (w := Work.of s) hd ha ht hl rfl rfl hlow hw)) rfl rfl (sheetLook_moving hm)

/-! ### SHEET_ABORT (R68, R69) -/

/-- A SHEET_ABORT that is taken: its reply and its record (R68). -/
def abortMarked (tag : Nat) (w : Work) : Work := { started 0 w with sheet := { w.sheet with abort := some (.tagged tag) } }

section
variable {w : Work} {tag : Nat}

theorem sheetAbort_taken (hc : w.media.content ≠ .fault) (hph : w.sheet.phase = .swathing ∨ w.sheet.phase = .faulted)
    (hab : w.sheet.abort = none) :
    sheetAbort tag (Chans.all 0) (Chans.all 0) w
      = abortGoesOn (endAborted (discardWaiting (abortMarked tag w))) := by
  have hout : outsideSet w.toState (Chans.all 0) (Chans.all 0) = false :=
    outsideSet_false fun _ _ => ⟨Chans.get_all _ _, Chans.get_all _ _⟩
  have hr : abortRefusal w.toState (Chans.all 0) (Chans.all 0) = none := by
    obtain hph | hph := hph <;> simp [abortRefusal, hc, hph, hab, hout]
  simp only [sheetAbort, hr, takeDrops_none]
  rfl

theorem endAborted_nothing (ho : w.sheet.openTag = none) (hc : w.sheet.close = none) : endAborted w = w := by
  simp only [endAborted, modSheet, ho, hc]
  rw [← ho, ← hc]

theorem endAborted_close {c : CloseRec} (ho : w.sheet.openTag = none) (hc : w.sheet.close = some c) :
    endAborted w = { w with
      sheet := { w.sheet with close := none }
      outbox := w.outbox ++ [opDoneNotice 0x03 c.tag .aborted (u8 w.media.stack)] } := by
  simp only [endAborted, modSheet, ho, hc]
  rfl

/-- An abort waits for the move in flight (R69). -/
theorem abortGoesOn_moving (hm : w.feed.move.isSome = true) : abortGoesOn w = w := by
  have hbusy : abortFree w.toState = false := by
    have hnone : w.feed.move.isNone = false := by simpa using hm
    simp [abortFree, hnone]
  simp [abortGoesOn, hbusy]

/-- An abort of a faulted sheet that has fed nothing ends it at once, uncut (R69, R64). -/
theorem abortGoesOn_unfed (hab : w.sheet.abort = some (.tagged tag)) (hph : w.sheet.phase = .faulted) (hfed : w.sheet.fed = false)
    (hm : w.feed.move = none) (hcut : w.media.cut = none) (ho : w.media.owner = .sheet) (he : w.media.ejecting = none)
    (hsw : w.media.switch = none) :
    abortGoesOn w = { w with
      sheet := closedSheet w.sheet
      media := { w.media with owner := .idle }
      outbox := w.outbox ++ [opDoneNotice 0x04 tag .rejected (u8 w.media.stack)] } := by
  have hgo : abortGoesOn w = endSheet (modSheet (fun x => { x with fault := none, dryEnd := none }) w) := by
    simp [abortGoesOn, hab, hph, abortFree, hm, hcut, hfed]
  have hrel := releasePath_idle (w := modSheet closedSheet (modSheet (fun x => { x with fault := none, dryEnd := none }) w)) ho he hsw
  rw [hgo, endSheet]
  dsimp only
  rw [hrel]
  simp only [modSheet, hab]
  rfl

end

/-- Settles O30: the abort that waits for its move, and the one that ends an unfed faulted sheet. -/
theorem sheetAbortDiscardsAndEnds : Obligations.SheetAbortDiscardsAndEnds := by
  intro s tag h hc hab hop body
  refine ⟨fun e f c hph hq he hf hne hcl hm => ?_, fun hph hq hcl hfed hm hcut ho hej hsw => ?_⟩
  · have hgo := sheetAbort_taken (w := Work.of s) (tag := tag) hc (.inl hph) hab
    have hdiscard := discardWaiting_last (w := abortMarked tag (Work.of s))
      (moving := [e]) (e := f) hq (fun x hx => by rw [List.mem_singleton.mp hx]; exact ⟨he, hne⟩) hf
    rw [hdiscard, endAborted_close (by exact hop) (by exact hcl), abortGoesOn_moving (by exact hm)] at hgo
    exact ask_decided (q := ⟨0x04, tag, body⟩) h rfl hgo rfl rfl
  · have hgo := sheetAbort_taken (w := Work.of s) (tag := tag) hc (.inr hph) hab
    have hdiscard := discardWaiting_none (w := abortMarked tag (Work.of s))
      (by show ∀ e ∈ s.sheet.queue, _; rw [hq]; exact fun _ h => absurd h List.not_mem_nil)
    rw [hdiscard, endAborted_nothing (by exact hop) (by exact hcl), abortGoesOn_unfed (tag := tag) (by exact rfl) (by exact hph)
      (by exact hfed) (by exact hm) (by exact hcut) (by exact ho) (by exact hej) (by exact hsw)] at hgo
    exact ask_decided (q := ⟨0x04, tag, body⟩) h rfl hgo rfl rfl

/-! ### The tail (R61, R62) -/

section
variable {w : Work} {r : MoveReport}

theorem sheetMoveEnded_tail {x : Sheet} (h : w.sheet.phase = .tail) (hp : r.ask.purpose = .tail) (hx : movedSheet r.seen w.sheet = x) :
    sheetMoveEnded r w = tailEnded r { w with sheet := x } := by
  subst hx
  rw [sheetMoveEnded, if_neg (by rw [h]; decide), hp]
  rfl

/-- The last tail move has ended well: the tail is done (R61). -/
theorem tailEnded_last {c : CloseRec} (h : w.sheet.phase = .tail) (ha : w.sheet.abort = none) (hf : r.outcome.isFault = false)
    (hl : w.sheet.tailLeft = r.ask.a) (hc : w.sheet.close = some c) :
    tailEnded r w = enterDrying { w with sheet := { w.sheet with
      tailLeft := 0, tailFed := w.sheet.tailFed + r.ask.a
      trailing := addTrail ⟨w.sheet.tailFed + r.ask.a, c.ink⟩ w.sheet.trailing } } := by
  simp [tailEnded, h, ha, hf, nextTail, hl, tailDone, modSheet, hc]

theorem enterDrying_eq {t : Nat} (ht : sheetDryTime w.toState = t) (h0 : t ≠ 0) :
    enterDrying w = { w with
      sheet := { w.sheet with phase := .drying, dryEnd := some (w.now + t) }
      outbox := w.outbox ++ [eventNotice .sheet 1 (u32 t)] } := by
  subst ht
  rw [enterDrying]
  exact if_neg h0

theorem sheetDryTime_of {s : State} {sl : Slot} {prof : Profile} {width : Nat} (ht : threadedSlot s.media = some sl)
    (hp : slotProfile s sl = some prof) (hw : (s.media.rolls.get sl).measured = some width) :
    sheetDryTime s = dryTime prof.baseDry prof.dryCoeff width s.sheet.trailing := by
  simp only [sheetDryTime, sheetRoll, ht, hp, hw, Option.getD_some]

theorem threadedSlot_fed {m : Media} {sl : Slot} {n : Nat} : threadedSlot (m.fed sl n) = threadedSlot m :=
  threadedSlot_set (sl := sl) (r := { m.rolls.get sl with remaining := (m.rolls.get sl).remaining.map (· - n) }) rfl rfl

end

/-- Settles O32: the drying time that the end of the last tail move starts. -/
theorem tailEndsInDrying : Obligations.TailEndsInDrying := by
  intro s m sl prof width c x hs hm hask hunt hlast hleft hagain ht hp hw hph hab hcl a trailing zone d dry hdry
  have hparts : m.ask.forward = true ∧ m.ask.a = a ∧ m.ask.requester = .sheet ∧ m.ask.purpose = .tail := by simp [hask, a]
  obtain ⟨hf, ha, hr, hpu⟩ := hparts
  have hmoved : movedSheet m.commanded s.sheet = { s.sheet with fed := true } := by
    have hpos : 0 < m.commanded := by omega
    simp [movedSheet, hpos]
  have hdone : dryTime prof.baseDry prof.dryCoeff width trailing = dry := dryTime_eq _ _ _ _
  have hprof : slotProfile { s with media := s.media.fed sl a } sl = some prof := by
    have hsame := (slotProfile_moved (s := s) (sl := sl) (fwd := true) (n := a)).trans hp
    rwa [Media.moved_forward] at hsame
  have hwidth : ((s.media.fed sl a).rolls.get sl).measured = some width := by
    simp only [Media.fed, Slots.get_set_same]
    exact hw
  have htail := tailEnded_last (r := ({ m with seen := m.commanded } : Move).report .completed none s.feed.k) (w := { Work.of s with
      feed := { s.feed with move := none }, media := s.media.fed sl a, sheet := { s.sheet with fed := true } }) hph hab rfl
    (by show s.sheet.tailLeft = m.ask.a; rw [ha]) hcl
  have hreport : (({ m with seen := m.commanded } : Move).report .completed none s.feed.k).ask.a = a := ha
  rw [hreport, enterDrying_eq (t := dry) ((sheetDryTime_of (by exact threadedSlot_fed.trans ht) (by exact hprof)
    (by exact hwidth)).trans (by exact hdone)) hdry] at htail
  have hend := (sheetMoveEnded_tail (w := { Work.of s with feed := { s.feed with move := none }, media := s.media.fed sl a })
    (r := ({ m with seen := m.commanded } : Move).report .completed none s.feed.k) hph hpu hmoved).trans htail
  exact occur_one hs Keeps.countMove (countMove_ends (w := Work.of s) (n := x) hm hlast hunt) rfl
    (deliver_sheetMove (w := { Work.of s with feed := { s.feed with move := none } }) ht hf (by show 1 ≤ m.ask.a; rw [ha]; exact hleft)
      hr ha hend hagain) rfl

end Sys2Proof.Machine
end

section
/-! ## The nozzle check: taken and calibrated (R154 to R157, R168; O54) -/

namespace Sys2Proof.Machine

open Sys2Proof

set_option Elab.async false

/-- The carriage under the check claim, and without it (R125). -/
def Carriage.checkClaimed (c : Carriage) : Carriage := { c with claims := { c.claims with check := true }, idleSince := none }
def Carriage.checkFreed (c : Carriage) : Carriage := { c with claims := { c.claims with check := false } }

section
variable {w : Work} {c : Check}

/-- NOZZLE_CHECK that passes its checks (R155). -/
theorem nozzleCheck_taken {tag heads : Nat} {mask : Heads Bool} {h : Head} {rest : List Head} (hs : headSetOf heads = some mask)
    (hm : mask.members = h :: rest) (hr : checkRefusal mask w.toState = none) :
    nozzleCheck tag heads w = { started heads w with
      media := { w.media with owner := .check }
      station := { w.station with car := w.station.car.checkClaimed }
      checker := { w.checker with check := some (newCheck tag mask h w.toState) } } := by
  have hclaim : setCheckClaim true (setOwner .check (started heads w)) = { setOwner .check (started heads w) with
      station := { w.station with car := w.station.car.checkClaimed } } :=
    modCar_awake (by simp [Carriage.idles, Claims.any])
  simp only [nozzleCheck, hs, hm, hr, hclaim]
  rfl

/-! ### The end of a check that has fed nothing (R168, R169) -/

/-- The detail block of a check that ends in its calibration. -/
theorem checkDetail_early {s : State} (hseen : c.failSeen = none) (hrows : c.rows = Heads.all (Rows.all ⟨none, none⟩))
    (hfed : c.fed = 0) (hcut : c.cutResult = none) :
    checkDetail s c = absent 4 ++ o16 s.checker.calibOn ++ o16 s.checker.calibOff ++ (List.replicate 6 (u8 0 ++ absent 12)).flatten
      ++ allHeads.flatMap (fun h =>
        if c.mask.get h then u8 (s.checker.escalation.get h).num ++ u8 (c.rounds.get h) else absent 2)
      ++ u32 0 ++ c.ink.toList.flatMap u32 ++ u8 2 := by
  have hitems (h : Head) (r : Row) : rowItems s h r ⟨none, none⟩ = u8 0 ++ absent 12 := rfl
  have hlist : allHeads.flatMap (fun h => rowItems s h .r0 (c.rows.get h).r0 ++ rowItems s h .r1 (c.rows.get h).r1)
      = (List.replicate 6 (u8 0 ++ absent 12)).flatten := by
    simp only [hrows]
    rfl
  simp only [checkDetail, hseen, hlist, hfed, hcut, cutResultNum]
  rfl

theorem releasePath_check (ho : w.media.owner = .check) (he : w.media.ejecting = none) (hs : w.media.switch = none) :
    releasePath .check w = { w with media := { w.media with owner := .idle } } := by
  rw [releasePath, if_pos ho, handOn_idle he hs]
  rfl

/-- A check that has fed nothing ends at once: its claim, the path and its OP_DONE (R168). -/
theorem endCheck_unfed {reason : Code} {done : Notice} (hc : w.checker.check = some c) (hfed : c.fed = 0) (hroll : c.rollEnded = false)
    (hfault : c.fault = some reason) (ho : w.media.owner = .check) (he : w.media.ejecting = none) (hsw : w.media.switch = none)
    (hd : opDoneNotice 0x1D c.tag reason (checkDetail w.toState { c with round := none }) = done) :
    endCheck w = { w with
      checker := { w.checker with check := none }
      media := { w.media with owner := .idle }
      station := { w.station with car := w.station.car.checkFreed.timed w.now }
      outbox := w.outbox ++ [done] } := by
  subst hd
  have hlt : decide (0 < c.fed) = false := by rw [hfed]; rfl
  have hend : endCheck w = checkCut { w with checker := { w.checker with check := some { c with round := none } } } := by
    simp only [endCheck, hc, hlt, Bool.false_and, Bool.false_eq_true, if_false]
    exact congrArg checkCut (modCheck_some hc)
  have hcut : checkCut { w with checker := { w.checker with check := some { c with round := none } } }
      = finishCheck { w with checker := { w.checker with check := some { c with round := none } } } := by
    simp only [checkCut, hroll, when_false, hlt, Bool.false_and, Bool.false_eq_true, if_false]
  have hout : checkOutcome { c with round := none } = reason := by simp [checkOutcome, hfault]
  have hrel := releasePath_check (w := setCheckClaim false
    { w with checker := { w.checker with check := some { c with round := none } } }) ho he hsw
  rw [hend, hcut]
  simp only [finishCheck, hrel, hout]
  rfl

end

/-! ### The calibration (R156) -/

section
variable {w : Work} {c : Check}

theorem calibrationTimeout_on {asked : Nat} (hc : w.checker.check = some c) (hs : c.step = .calibOn asked) :
    calibrationTimeout w = if reached (asked + 100) w.now then calibrated none none w else w := by
  simp only [calibrationTimeout, hc, hs]
  rfl

theorem calibrationTimeout_off {asked : Nat} (hc : w.checker.check = some c) (hs : c.step = .calibOff asked) :
    calibrationTimeout w = if reached (asked + 100) w.now then calibrated c.readOn none w else w := by
  simp only [calibrationTimeout, hc, hs]
  rfl

theorem carriageReading_on {asked d : Nat} (hc : w.checker.check = some c) (hs : c.step = .calibOn asked) :
    carriageReading d w = { w with
      checker := { w.checker with check := some { c with readOn := some d, step := .calibOff w.now } } } := by
  simp only [carriageReading, hc, hs]
  exact modCheck_some hc

theorem carriageReading_off {asked d : Nat} (hc : w.checker.check = some c) (hs : c.step = .calibOff asked) :
    carriageReading d w = calibrated c.readOn (some d) w := by
  simp only [carriageReading, hc, hs]

/-- The pair of readings that lets a check go on (R156). -/
theorem calibrated_white {a b : Nat} (hc : w.checker.check = some c) (hr : c.rollEnded = false) (ha : a ≤ 40) (hb : 200 ≤ b) :
    calibrated (some a) (some b) w
      = checkLead { w with checker := { w.checker with calibOn := some a, calibOff := some b } } := by
  have hgood : (a ≤ Config.calibWhite && Config.calibDark ≤ b : Bool) = true := by
    simp only [Config.calibWhite, Config.calibDark, ha, hb, decide_true, Bool.and_self]
  simp only [calibrated, hgood, if_true, unlessRollEnded, modChecker, hc, hr, Bool.false_eq_true, if_false]

/-- Any other calibration ends the check (R156, R168). -/
theorem calibrated_fails {on' off : Option Nat} (h : ∀ a b, on' = some a → off = some b → 40 < a ∨ b < 200) :
    calibrated on' off w
      = endCheck (noteFault .sensorFault { w with checker := { w.checker with calibOn := on', calibOff := off } }) := by
  unfold calibrated
  extract_lets x
  split
  next a b =>
    refine if_neg ?_
    have hbad := h a b rfl rfl
    rw [Bool.and_eq_true]
    rintro ⟨hwhite, hdark⟩
    have hw : a ≤ 40 := of_decide_eq_true hwhite
    have hd : 200 ≤ b := of_decide_eq_true hdark
    omega
  next => rfl

end

/-- What a check that fails its calibration leaves (R156, R168). -/
theorem calibrated_ends {w : Work} {c : Check} {on' off : Option Nat} (hc : w.checker.check = some c)
    (hfresh : c.fed = 0 ∧ c.fault = none ∧ c.rollEnded = false ∧ c.failSeen = none ∧ c.cutResult = none
      ∧ c.rows = Heads.all (Rows.all ⟨none, none⟩) ∧ w.media.owner = .check ∧ w.media.ejecting = none ∧ w.media.switch = none)
    (h : ∀ a b, on' = some a → off = some b → 40 < a ∨ b < 200) :
    calibrated on' off w = { w with
      checker := { w.checker with check := none, calibOn := on', calibOff := off }
      media := { w.media with owner := .idle }
      station := { w.station with car := w.station.car.checkFreed.timed w.now }
      outbox := w.outbox ++ [opDoneNotice 0x1D c.tag .sensorFault
        (absent 4 ++ o16 on' ++ o16 off ++ (List.replicate 6 (u8 0 ++ absent 12)).flatten
          ++ allHeads.flatMap (fun h =>
            if c.mask.get h then u8 (w.checker.escalation.get h).num ++ u8 (c.rounds.get h) else absent 2)
          ++ u32 0 ++ c.ink.toList.flatMap u32 ++ u8 2)] } := by
  obtain ⟨hfed, hfault, hroll, hseen, hcut, hrows, ho, he, hsw⟩ := hfresh
  have hnote := modCheck_some (f := fun c => { c with fault := some (c.fault.getD .sensorFault) })
    (w := { w with checker := { w.checker with calibOn := on', calibOff := off } }) hc
  rw [calibrated_fails h]
  refine (congrArg endCheck hnote).trans (endCheck_unfed (reason := .sensorFault) rfl hfed hroll ?_ ho he hsw ?_)
  · simp only [hfault, Option.getD_none]
  · exact congrArg (opDoneNotice 0x1D c.tag .sensorFault) (checkDetail_early hseen hrows hfed hcut)

/-- The check's lead (R157). -/
theorem checkLead_starts {w : Work} {c : Check} {x : Int} {sl : Slot} {prof : Profile} (hc : w.checker.check = some c)
    (hm : w.feed.move = none) (ho : w.media.owner = .check) (ht : threadedSlot w.media = some sl)
    (hp : slotProfile w.toState sl = some prof) (hx : clampInt (-20000) 20000 (prof.sProfile + w.feed.sHost + w.feed.sTrack) = x)
    (hn : forwardCounts 10000 w.feed.k x w.feed.r ≠ 0) :
    checkLead w = { w with
      checker := { w.checker with check := some { c with step := .lead } }
      feed := { w.feed with
        r := newResidue 10000 w.feed.k x w.feed.r
        move := some
          ⟨⟨.check, .check, true, 10000, .checkLead⟩, forwardCounts 10000 w.feed.k x w.feed.r, x, prof.tracking, w.now, 0⟩ } } := by
  rw [checkLead, modCheck_some hc]
  refine askMove_threaded (q := ⟨.check, .check, true, 10000, .checkLead⟩)
    (w := { w with checker := { w.checker with check := some { c with step := .lead } } }) hm ho.symm ?_ rfl rfl ?_ ?_ ht hp hx hn
  · show w.media.owner ≠ .idle
    rw [ho]
    decide
  · show 1 ≤ 10000
    decide
  · show 10000 ≤ 3000000
    decide

/-- Settles O54: the check as it is taken, and each end of its calibration. -/
theorem checkIsTakenAndCalibrated : Obligations.CheckIsTakenAndCalibrated := by
  refine ⟨?_, ?_⟩
  · intro s tag heads mask h rest hh hs hm hr
    exact ask_decided (q := ⟨0x1D, tag, .nozzleCheck heads⟩) hh rfl (nozzleCheck_taken (w := Work.of s) hs hm hr) rfl rfl
  · intro s hs
    refine ⟨fun hc => occur_void hs (by simp [calibrationTimeout, Work.of, hc]), ?_⟩
    intro c asked d hc fails fresh
    have hends (hfresh : fresh) (on' off : Option Nat) (h : ∀ a b, on' = some a → off = some b → 40 < a ∨ b < 200) :=
      calibrated_ends (w := Work.of s) hc hfresh h
    have hlate : asked + 100 ≤ s.now → reached (asked + 100) s.now = true := fun h => decide_eq_true h
    have hearly : s.now < asked + 100 → ¬ reached (asked + 100) s.now = true := fun h =>
      Bool.eq_false_iff.mp (decide_eq_false (Nat.not_le.mpr h))
    refine ⟨fun hst => ?_, fun hst hnow => ?_, fun hfresh hst hnow => ?_,
      fun a hfresh hst hon => ⟨fun hnow => ?_, fun hbad => ?_, ?_⟩⟩
    · exact occur_done hs Keeps.carriageReading (carriageReading_on (w := Work.of s) hc hst) rfl
    · refine occur_void hs ?_
      obtain hst | hst := hst
      · exact (calibrationTimeout_on (w := Work.of s) hc hst).trans (if_neg (hearly hnow))
      · exact (calibrationTimeout_off (w := Work.of s) hc hst).trans (if_neg (hearly hnow))
    · exact occur_done hs Keeps.calibrationTimeout
        (((calibrationTimeout_on (w := Work.of s) hc hst).trans (if_pos (hlate hnow))).trans (hends hfresh none none nofun)) rfl
    · have hgo := (calibrationTimeout_off (w := Work.of s) hc hst).trans (if_pos (hlate hnow))
      rw [hon] at hgo
      exact occur_done hs Keeps.calibrationTimeout (hgo.trans (hends hfresh (some a) none fun _ _ _ => nofun)) rfl
    · have hgo := carriageReading_off (w := Work.of s) (d := d) hc hst
      rw [hon] at hgo
      exact occur_done hs Keeps.carriageReading (hgo.trans (hends hfresh (some a) (some d) fun x y hx hy => by
        rw [← Option.some.inj hx, ← Option.some.inj hy]
        exact hbad)) rfl
    · intro sl prof ha hd hm ht hp corr counts hn htrack
      obtain ⟨-, -, hroll, -, -, -, ho, -, -⟩ := hfresh
      have hgo := carriageReading_off (w := Work.of s) (d := d) hc hst
      rw [hon, calibrated_white (w := Work.of s) hc hroll ha hd] at hgo
      have hlead := checkLead_starts (x := corr)
        (w := { Work.of s with checker := { s.checker with calibOn := some a, calibOff := some d } }) hc hm ho ht hp rfl hn
      rw [htrack] at hlead
      exact occur_done hs Keeps.carriageReading (hgo.trans hlead) rfl

end Sys2Proof.Machine
end

section
/-! ## Reception of a whole frame (R172, R173; O6) -/

namespace Sys2Proof.Machine

open Sys2Proof

set_option Elab.async false

/-- The times of a frame's bytes: at most 2 ms from one to the next. -/
def InTime (bytes : List (Nat × Byte)) : Prop := List.IsChain (fun x y => y.1 ≤ x.1 + 2) bytes

/-- The bytes are received one after another, each with a valid stop bit. -/
def receiveAll (bytes : List (Nat × Byte)) (l : Link) : Link := bytes.foldl (fun l x => receive x.1 x.2 true l) l

section
variable {l : Link} {now t need : Nat} {b : Byte} {acc : List Byte}

theorem gapPassed_inTime (h : now ≤ l.rx.last + 2) : gapPassed now l = false := by
  rw [Bool.eq_false_iff]
  intro hgap
  obtain ⟨-, hlate⟩ := gapPassed_iff.mp hgap
  omega

/-- The length byte of a frame (R172). -/
theorem receive_length (hr : l.rx = ⟨.length, [], t⟩) (ht : now ≤ t + 2) (hmin : 2 ≤ b.toNat) (hmax : b.toNat ≤ 250) :
    receive now b true l = { l with rx := ⟨.collect (b.toNat + 2), [b], now⟩ } := by
  have hgap : gapPassed now l = false := gapPassed_inTime (by rw [hr]; exact ht)
  have h1 : ¬ b.toNat < Config.lenMin := Nat.not_lt.mpr hmin
  have h2 : ¬ Config.lenMax < b.toNat := Nat.not_lt.mpr hmax
  simp [receive, hgap, hr, h1, h2]

/-- A byte of a frame that is not its last one. -/
theorem receive_more (hr : l.rx = ⟨.collect need, acc, t⟩) (ht : now ≤ t + 2) (hn : 2 ≤ need) :
    receive now b true l = { l with rx := ⟨.collect (need - 1), b :: acc, now⟩ } := by
  have hgap : gapPassed now l = false := gapPassed_inTime (by rw [hr]; exact ht)
  have h1 : ¬ need ≤ 1 := by omega
  simp [receive, hgap, hr, h1]

/-- The last byte of a frame. -/
theorem receive_last (hr : l.rx = ⟨.collect 1, acc, t⟩) (ht : now ≤ t + 2) :
    receive now b true l = frameEnd (b :: acc).reverse l := by
  have hgap : gapPassed now l = false := gapPassed_inTime (by rw [hr]; exact ht)
  simp [receive, hgap, hr]

end

/-- The bytes still needed, collected behind those that have come, end the frame; only the time of the last of them is kept. -/
theorem receiveAll_collect (bytes : List (Nat × Byte)) (acc : List Byte) (t : Nat) (l : Link) (hne : bytes ≠ [])
    (hr : l.rx = ⟨.collect bytes.length, acc, t⟩) (hfirst : ∀ x ∈ bytes.head?, x.1 ≤ t + 2) (hc : InTime bytes) :
    ∃ n a u, receiveAll bytes l = frameEnd (acc.reverse ++ bytes.map Prod.snd) { l with rx := ⟨.collect n, a, u⟩ } := by
  induction bytes generalizing acc t l with
  | nil => exact absurd rfl hne
  | cons x rest ih =>
    have hx : x.1 ≤ t + 2 := hfirst x rfl
    cases rest with
    | nil =>
      refine ⟨1, acc, t, ?_⟩
      have hl : l = { l with rx := ⟨.collect 1, acc, t⟩ } := by rw [← show l.rx = ⟨.collect 1, acc, t⟩ from hr]
      have hlast := receive_last (b := x.2) hr hx
      rw [List.reverse_cons] at hlast
      exact hlast.trans (congrArg (frameEnd _) hl)
    | cons y ys =>
      obtain ⟨hxy, hrest⟩ := List.isChain_cons_cons.mp hc
      have hmore := receive_more (b := x.2) hr hx (by simp)
      obtain ⟨n, a, u, hend⟩ := ih (x.2 :: acc) x.1 { l with rx := ⟨.collect (y :: ys).length, x.2 :: acc, x.1⟩ } (by simp) rfl
        (fun z hz => by
          obtain rfl : y = z := Option.some.inj hz
          exact hxy) hrest
      refine ⟨n, a, u, ?_⟩
      have hstep : receiveAll (x :: y :: ys) l = receiveAll (y :: ys) (receive x.1 x.2 true l) := rfl
      rw [hstep, hmore]
      refine hend.trans ?_
      rw [List.reverse_cons, List.append_assoc]
      rfl

/-- A frame with its own CRC behind its body is good (R172, R173). -/
theorem frameEnd_good {kind tag len : Byte} {payload : List Byte} {l : Link} {n t : Nat} {a : List Byte}
    (hr : l.rx = ⟨.collect n, a, t⟩) :
    frameEnd ((len :: kind :: tag :: payload) ++ u16 (crc (len :: kind :: tag :: payload)).toNat) l
      = arrive (requestOf kind tag payload) { l with rx := ⟨.hunt, [], t⟩ } := by
  have hlen : ((len :: kind :: tag :: payload) ++ u16 (crc (len :: kind :: tag :: payload)).toNat).length - 2
      = (len :: kind :: tag :: payload).length := by
    rw [List.length_append, u16, length_leBytes]
    omega
  have hcrc : leNat (u16 (crc (len :: kind :: tag :: payload)).toNat) = (crc (len :: kind :: tag :: payload)).toNat :=
    leNat_leBytes_of_lt (crc _).isLt
  unfold frameEnd
  dsimp only
  rw [hlen, List.drop_left, List.take_left, if_pos hcrc, hr]

/-- Settles O6: the start byte begins a frame, LEN says how many bytes follow, and the bytes collected carry their CRC. -/
theorem receivedFrameIsTheFrameSent : Obligations.ReceivedFrameIsTheFrameSent := by
  intro l kind tag payload c bytes hhunt hlen hbytes hchain
  have hkind : u8 kind.toNat = [kind] := by simp [u8, leBytes]
  have htag : u8 tag.toNat = [tag] := by simp [u8, leBytes]
  have hL : u8 (payload.length + 2) = [BitVec.ofNat 8 (payload.length + 2)] := rfl
  have hLnat : (BitVec.ofNat 8 (payload.length + 2)).toNat = payload.length + 2 := by
    rw [BitVec.toNat_ofNat]
    exact Nat.mod_eq_of_lt (by omega)
  generalize BitVec.ofNat 8 (payload.length + 2) = len at hL hLnat
  have hline : (Frame.mk c kind.toNat tag.toNat payload).onLine
      = 0xC3 :: len :: kind :: tag :: (payload ++ u16 (crc (len :: kind :: tag :: payload)).toNat) := by
    simp only [Frame.onLine, Frame.body, hkind, htag, hL]
    rfl
  rw [hline] at hbytes
  obtain ⟨x, bs, rfl⟩ : ∃ x bs, bytes = x :: bs := by
    cases bytes with
    | nil => exact absurd hbytes (by simp)
    | cons x bs => exact ⟨x, bs, rfl⟩
  obtain ⟨hx, hbs⟩ := List.cons.inj hbytes
  obtain ⟨y, rest, rfl⟩ : ∃ y rest, bs = y :: rest := by
    cases bs with
    | nil => exact absurd hbs (by simp)
    | cons y rest => exact ⟨y, rest, rfl⟩
  obtain ⟨hy, hrest⟩ := List.cons.inj hbs
  obtain ⟨hxy, hc⟩ := List.isChain_cons_cons.mp hchain
  have hcount : rest.length = len.toNat + 2 := by
    have hmap := congrArg List.length hrest
    simp only [List.length_map, List.length_cons, List.length_append, u16, length_leBytes] at hmap
    omega
  have hstart := receive_hunt (now := x.1) (b := x.2) (stopOk := true) hhunt
  rw [if_pos ⟨rfl, hx⟩] at hstart
  have hlength := receive_length (l := { l with rx := ⟨.length, [], x.1⟩ }) (now := y.1) (b := y.2) rfl hxy
    (by rw [hy]; omega) (by rw [hy]; omega)
  obtain ⟨n, a, u, hend⟩ := receiveAll_collect rest [y.2] y.1 { l with rx := ⟨.collect rest.length, [y.2], y.1⟩ }
    (fun h => by rw [h] at hcount; simp at hcount) rfl
    (fun z hz => by
      cases rest with
      | nil => cases hz
      | cons w ws =>
        obtain rfl : w = z := Option.some.inj hz
        exact (List.isChain_cons_cons.mp hc).1)
    hc.tail
  refine ⟨u, ?_⟩
  have hfold : (x :: y :: rest).foldl (fun l x => receive x.1 x.2 true l) l
      = receiveAll rest (receive y.1 y.2 true (receive x.1 x.2 true l)) := rfl
  rw [hfold, hstart, hlength, hy, ← hcount]
  rw [hy] at hend
  rw [hend, hrest]
  exact frameEnd_good rfl

end Sys2Proof.Machine
end

section
/-! ## Power-on from a good store (R20, R45, R75, R92, R116, R117, R137, R171, R180 to R182; O4) -/

namespace Sys2Proof.Machine

open Sys2Proof

set_option Elab.async false

/-! ### Event notices on a queue with room (R177, R178) -/

/-- The frame that an event notice becomes. -/
def eventFrame (n : Category × List Byte) : Frame := ⟨.event, n.1.kind, 0, n.2⟩

/-- Events are placed in their order while 17 slots stay free. -/
theorem told_events (ns : List (Category × List Byte)) (l : Link) (hc : l.changed = none) (hroom : l.queue.length + ns.length ≤ 16) :
    told (ns.map fun n => .event n.1 n.2) l = { l with queue := l.queue ++ ns.map eventFrame } := by
  induction ns generalizing l with
  | nil => simp
  | cons n rest ih =>
    have hfree : eventRoom l = true := by
      have hslots : Config.keptSlots + 1 ≤ Config.queueSlots - l.queue.length := by
        simp only [List.length_cons] at hroom
        unfold Config.keptSlots Config.queueSlots
        omega
      exact decide_eq_true hslots
    have hplace : placeNotice (.event n.1 n.2) l = enqueue (eventFrame n) l := by
      simp only [placeNotice, hc, hfree, if_true]
      rfl
    rw [List.map_cons, told_cons, hplace,
      ih (enqueue (eventFrame n) l) hc (by simp [enqueue] at hroom ⊢; omega)]
    simp [enqueue]

/-! ### The start-up reads (R92, R182 step 1) -/

/-- The bays in the order of their start-up reads. -/
def bayList : List Bay := allChans.flatMap fun ch => [⟨ch, .a⟩, ⟨ch, .b⟩]

theorem mem_bayList (b : Bay) : b ∈ bayList := by
  obtain ⟨ch, l⟩ := b
  cases ch <;> cases l <;> decide

/-- The bays of a list whose switch is closed. -/
def closedBays (y : Sensors) (l : List Bay) : List Bay := l.filter fun b => (y.bays.get b.chan).get b.letter

/-- What a start-up insertion of a bay tells the host. -/
def readingNotice (b : Bay) : Category × List Byte := (.supply, u8 0 ++ (bayBytes b ++ u8 1))

theorem bayRec_withBay {u : Supply} {b c : Bay} {r : BayRec} : bayRec (u.withBay b r) c = if c = b then r else bayRec u c := by
  by_cases h : c = b
  · subst h
    rw [bayRec_withBay_same, if_pos rfl]
  · rw [if_neg h]
    obtain ⟨ch, l⟩ := b
    obtain ⟨ch', l'⟩ := c
    by_cases hch : ch' = ch
    · subst hch
      obtain hl | hl := Letter.eq_or_other l l'
      · exact absurd (by rw [hl]) h
      · subst hl
        exact bayRec_withBay_other
    · simp only [bayRec, Supply.withBay, Chans.get_set_other _ _ hch]

/-- The insertions of the closed switches of a list of bays: each closed one is READING with its read behind those before it. -/
theorem insertAtPowerOn_all (y : Sensors) (l : List Bay) (hl : l.Nodup) (w : Work)
    (hv : ∀ b ∈ l, bayRec w.supply b = BayRec.vacant) (hbus : ∀ b ∈ l, ∀ o ∈ w.supply.bus, o.target ≠ .bay b) :
    ∃ (bays : Chans (Bays BayRec)) (start : Nat),
      forEach l (insertAtPowerOn y) w = { w with
        supply := { w.supply with
          bays := bays, bus := w.supply.bus ++ (closedBays y l).map (fun b => ⟨.bay b, .read, true⟩), busStart := start }
        outbox := w.outbox ++ ((closedBays y l).map readingNotice).map (fun n => .event n.1 n.2) }
      ∧ ∀ b, (bays.get b.chan).get b.letter
          = if b ∈ closedBays y l then { BayRec.vacant with state := .reading } else bayRec w.supply b := by
  induction l generalizing w with
  | nil => exact ⟨w.supply.bays, w.supply.busStart, by simp [closedBays], fun b => by simp [closedBays, bayRec]⟩
  | cons b rest ih =>
    obtain ⟨hnot, hrest⟩ := List.nodup_cons.mp hl
    rw [forEach_cons]
    cases hb : (y.bays.get b.chan).get b.letter with
    | false =>
      have hskip : insertAtPowerOn y b w = w := by rw [insertAtPowerOn, hb, when_false]
      have hclosed : closedBays y (b :: rest) = closedBays y rest := by simp [closedBays, hb]
      rw [hskip, hclosed]
      exact ih hrest w (fun c hc => hv c (List.mem_cons_of_mem _ hc)) fun c hc => hbus c (List.mem_cons_of_mem _ hc)
    | true =>
      have hvac := hv b List.mem_cons_self
      have hinsert := insertBay_vacant (su := true) (b := b) (w := w) (by rw [hvac]; rfl) (hbus b List.mem_cons_self)
      have hclosed : closedBays y (b :: rest) = b :: closedBays y rest := by simp [closedBays, hb]
      have hother : ∀ c ∈ rest, c ≠ b := fun c hc h => hnot (h ▸ hc)
      obtain ⟨bays, start, hend, hget⟩ := ih hrest (insertBay true b w)
        (fun c hc => by
          rw [hinsert]
          exact (bayRec_withBay.trans (if_neg (hother c hc))).trans (hv c (List.mem_cons_of_mem _ hc)))
        (fun c hc o ho => by
          rw [hinsert] at ho
          obtain ho | ho := List.mem_append.mp ho
          · exact hbus c (List.mem_cons_of_mem _ hc) o ho
          · rw [List.mem_singleton.mp ho]
            exact fun h => hother c hc (Target.bay.inj h).symm)
      rw [insertAtPowerOn, hb, when_true, hend, hclosed]
      refine ⟨bays, start, ?_, fun c => ?_⟩
      · rw [hinsert]
        simp only [List.map_cons, List.append_assoc, List.singleton_append]
        rfl
      · rw [hget c, hinsert]
        by_cases hc : c ∈ closedBays y rest
        · rw [if_pos hc, if_pos (List.mem_cons_of_mem _ hc)]
        · rw [if_neg hc]
          refine bayRec_withBay.trans ?_
          by_cases hcb : c = b
          · rw [if_pos hcb, if_pos (by rw [hcb]; exact List.mem_cons_self), hvac]
          · rw [if_neg hcb, if_neg (fun h => (List.mem_cons.mp h).elim hcb hc)]

/-! ### The power-on sequence (R182) -/

/-- What the start-up of the tank and the roll ends tell the host. -/
def tankStartNotices (y : Sensors) : List (Category × List Byte) :=
  if y.tank then [(.supply, u8 0 ++ ([0xFF, 0xFF] ++ u8 1))] else []

def rollStartNotices (y : Sensors) (sl : Slot) : List (Category × List Byte) :=
  if y.rollPresent.get sl && y.rollEnd.get sl then [(.media, u8 3 ++ u8 sl.num)] else []

/-- The notices of a power-on, in their order. -/
def startNotices (y : Sensors) : List (Category × List Byte) :=
  (closedBays y bayList).map readingNotice ++ tankStartNotices y ++ rollStartNotices y .s1 ++ rollStartNotices y .s2

theorem length_closedBays (y : Sensors) : (closedBays y bayList).length ≤ 12 := List.length_filter_le _ _

theorem length_startNotices (y : Sensors) : (startNotices y).length ≤ 16 := by
  have hbays := length_closedBays y
  have htank : (tankStartNotices y).length ≤ 1 := by unfold tankStartNotices; split <;> decide
  have hroll (sl : Slot) : (rollStartNotices y sl).length ≤ 1 := by unfold rollStartNotices; split <;> simp
  have h1 := hroll .s1
  have h2 := hroll .s2
  simp only [startNotices, List.length_append, List.length_map]
  omega

/-- The start-up reads on the module bus. -/
def startReads (y : Sensors) : List BusOp :=
  (closedBays y bayList).map (fun b => ⟨.bay b, .read, true⟩) ++ if y.tank then [⟨.tank, .read, true⟩] else []

theorem insertTank_absent {w : Work} (ht : w.supply.tank.state = .absent) (hbus : ∀ o ∈ w.supply.bus, o.target ≠ .tank) :
    insertTank true w = { w with
      supply := { w.supply with
        tank := { w.supply.tank with state := .reading }
        bus := w.supply.bus ++ [⟨.tank, .read, true⟩]
        busStart := if w.supply.bus.isEmpty then w.now else w.supply.busStart }
      outbox := w.outbox ++ [eventNotice .supply 0 ([0xFF, 0xFF] ++ u8 1)] } :=
  (if_pos ht).trans (congrArg tankEvent (placeOp_read_new (w := setTank (fun t => { t with state := .reading }) w) hbus))

theorem when_insertTank {y : Sensors} {w : Work} (ht : w.supply.tank = ⟨.absent, 0, []⟩)
    (hbus : ∀ o ∈ w.supply.bus, o.target ≠ .tank) :
    ∃ start, when y.tank (insertTank true) w = { w with
      supply := { w.supply with
        tank := ⟨if y.tank then .reading else .absent, 0, []⟩
        bus := w.supply.bus ++ if y.tank then [⟨.tank, .read, true⟩] else []
        busStart := start }
      outbox := w.outbox ++ (tankStartNotices y).map fun n => .event n.1 n.2 } := by
  unfold tankStartNotices
  cases y.tank with
  | false => exact ⟨w.supply.busStart, by simp [when, ← ht]⟩
  | true =>
    have hgo := insertTank_absent (w := w) (by rw [ht]) hbus
    rw [ht] at hgo
    exact ⟨_, hgo⟩

theorem when_rollEnd {y : Sensors} {sl : Slot} {w : Work} :
    when (y.rollPresent.get sl && y.rollEnd.get sl) (rollEndEvent sl) w = { w with
      outbox := w.outbox ++ (rollStartNotices y sl).map fun n => .event n.1 n.2 } := by
  unfold rollStartNotices
  cases y.rollPresent.get sl && y.rollEnd.get sl
  · simp [when]
  · rfl

/-- What stands when a power-on from a good store has placed its start-up reads. -/
def readingState (x : Store) (y : Sensors) (pending : List Instr) (bays : Chans (Bays BayRec)) (start : Nat) : State :=
  { powerState x y pending with
    supply := { (powerState x y pending).supply with
      bays := bays, busStart := start, bus := startReads y, tank := ⟨if y.tank then .reading else .absent, 0, []⟩ } }

/-- The work of a power-on from a good store: the supply bay unit takes its closed switches, everything else stands. -/
theorem powerOn_good {x : Store} {y : Sensors} {pending : List Instr} (hx : storeOk x = true) :
    ∃ (bays : Chans (Bays BayRec)) (start : Nat),
      powerOn x y pending = { Work.of (readingState x y pending bays start) with
        outbox := (startNotices y).map fun n => .event n.1 n.2 }
      ∧ ∀ b : Bay, (bays.get b.chan).get b.letter
          = if (y.bays.get b.chan).get b.letter then { BayRec.vacant with state := .reading } else BayRec.vacant := by
  have hloop (w : Work) : forEach allChans (fun ch w => insertAtPowerOn y ⟨ch, .b⟩ (insertAtPowerOn y ⟨ch, .a⟩ w)) w
      = forEach bayList (insertAtPowerOn y) w := rfl
  have hvac (b : Bay) : bayRec (powerState x y pending).supply b = BayRec.vacant := by
    obtain ⟨ch, l⟩ := b
    cases ch <;> cases l <;> rfl
  obtain ⟨bays, start, hbays, hget⟩ := insertAtPowerOn_all y bayList (by decide) (Work.of (powerState x y pending))
    (fun b _ => hvac b) (fun b _ o ho => absurd ho List.not_mem_nil)
  have hrecs (b : Bay) : (bays.get b.chan).get b.letter
      = if (y.bays.get b.chan).get b.letter then { BayRec.vacant with state := .reading } else BayRec.vacant := by
    have hb : b ∈ closedBays y bayList ↔ (y.bays.get b.chan).get b.letter = true := by simp [closedBays, mem_bayList]
    refine (hget b).trans ?_
    simp only [hb, Work.of, hvac]
  have hrun : powerOn x y pending = when (y.rollPresent.get .s2 && y.rollEnd.get .s2) (rollEndEvent .s2)
      (when (y.rollPresent.get .s1 && y.rollEnd.get .s1) (rollEndEvent .s1) (when y.tank (insertTank true)
        (forEach bayList (insertAtPowerOn y) (Work.of (powerState x y pending))))) := if_pos hx
  obtain ⟨last, htank⟩ := when_insertTank (y := y) (w := { Work.of (powerState x y pending) with
      supply := { (powerState x y pending).supply with
        bays := bays, bus := (closedBays y bayList).map (fun b => ⟨.bay b, .read, true⟩), busStart := start }
      outbox := ((closedBays y bayList).map readingNotice).map fun n => .event n.1 n.2 }) rfl
    (fun o ho => by
      obtain ⟨b, -, rfl⟩ := List.mem_map.mp ho
      exact nofun)
  refine ⟨bays, last, ?_, hrecs⟩
  have hbays' : forEach bayList (insertAtPowerOn y) (Work.of (powerState x y pending)) = { Work.of (powerState x y pending) with
      supply := { (powerState x y pending).supply with
        bays := bays, bus := (closedBays y bayList).map (fun b => ⟨.bay b, .read, true⟩), busStart := start }
      outbox := ((closedBays y bayList).map readingNotice).map fun n => .event n.1 n.2 } := hbays
  rw [hrun, hbays', htank, when_rollEnd, when_rollEnd]
  simp only [startNotices, List.map_append]
  rfl

/-! ### The phase after a power-on (R182) -/

/-- Every start-up read is done at once exactly when no switch is closed. -/
theorem startReads_none {y : Sensors} : (startReads y).any BusOp.startUp = false ↔ closedBays y bayList = [] ∧ y.tank = false := by
  unfold startReads
  cases closedBays y bayList <;> cases y.tank <;> simp

theorem close_starting {w : Work} (hd : w.supply.bus.any BusOp.startUp = true) :
    close w = { w.toState with link := told w.outbox w.link } := by
  have hd' : startUpDone w.toState = false := by rw [startUpDone, hd]; rfl
  have hlook : lookReady w = w := by simp [lookReady, hd']
  rw [close, hlook]
  rfl

theorem close_starts {w : Work} (hp : w.phase = .starting) (hd : w.supply.bus.any BusOp.startUp = false) :
    close w = { w.toState with
      phase := .ready, link := told (w.outbox ++ [.ready (readyItems w.toState)]) w.link } := by
  have hd' : startUpDone w.toState = true := by rw [startUpDone, hd]; rfl
  have hlook : lookReady w = give (.ready (readyItems w.toState)) { w with phase := .ready } := by simp [lookReady, hp, hd']
  rw [close, hlook]
  rfl

/-- READY's summary of a mechanism with nothing in its bays and no tank (R182). -/
theorem readyItems_empty {s : State} (hb : ∀ b : Bay, (s.supply.bays.get b.chan).get b.letter = BayRec.vacant)
    (hsup : s.supply.supplied = Chans.all false) (ht : s.supply.tank.state = .absent) (hw : s.station.waste.tank = none) :
    readyItems s = List.replicate 12 0 ++ List.replicate 6 1 ++ u8 0 ++ absent 8 ++ u8 (s.media.rolls.get .s1).state.num
      ++ u8 (s.media.rolls.get .s2).state.num ++ u8 s.station.car.state.num ++ u32 s.feed.k := by
  have hbays : bayStates s.supply = List.replicate 12 0 := by
    have ha (ch : Chan) : (s.supply.bays.get ch).a = BayRec.vacant := hb ⟨ch, .a⟩
    have hb' (ch : Chan) : (s.supply.bays.get ch).b = BayRec.vacant := hb ⟨ch, .b⟩
    simp only [bayStates, ha, hb']
    decide
  have hsupplied : supplyStates s.supply = List.replicate 6 1 := by
    rw [supplyStates, hsup]
    decide
  simp only [readyItems, hbays, hsupplied, ht, wasteCW, hw]
  rfl

/-- What a power-on from a good store leaves: its phase and its READY notice follow from whether a switch is closed. -/
theorem powerOn_runs {x : Store} {y : Sensors} {s : State} (hx : storeOk x = true) :
    ∃ (bays : Chans (Bays BayRec)) (start : Nat) (phase : StartPhase) (ready : List Frame),
      exec (.powerOn x y) s = .next { readingState x y s.pending bays start with
        phase := phase
        link := { Link.powerOn with queue := (startNotices y).map eventFrame ++ ready } }
      ∧ (∀ b : Bay, (bays.get b.chan).get b.letter
          = if (y.bays.get b.chan).get b.letter then { BayRec.vacant with state := .reading } else BayRec.vacant)
      ∧ (closedBays y bayList = [] ∧ y.tank = false → phase = .ready
        ∧ ready = [⟨.event, 0x60, 0, List.replicate 12 0 ++ List.replicate 6 1 ++ u8 0 ++ absent 8
          ++ u8 ((powerState x y s.pending).media.rolls.get .s1).state.num
          ++ u8 ((powerState x y s.pending).media.rolls.get .s2).state.num
          ++ u8 (powerState x y s.pending).station.car.state.num ++ u32 x.k⟩])
      ∧ (¬(closedBays y bayList = [] ∧ y.tank = false) → phase = .starting ∧ ready = []) := by
  obtain ⟨bays, start, hrun, hget⟩ := powerOn_good (x := x) (y := y) (pending := s.pending) hx
  have hexec : exec (.powerOn x y) s = .next (close (powerOn x y s.pending)) := by
    show finish ((drain reportBound (powerOn x y s.pending)).map close) = _
    rw [drain_nil _ (by rw [hrun]; rfl)]
    rfl
  have hqueue : told ((startNotices y).map fun n => .event n.1 n.2) Link.powerOn
      = { Link.powerOn with queue := (startNotices y).map eventFrame } :=
    told_events (startNotices y) Link.powerOn rfl (by
      show 0 + (startNotices y).length ≤ 16
      have h := length_startNotices y
      omega)
  rw [hrun] at hexec
  by_cases hnone : closedBays y bayList = [] ∧ y.tank = false
  · have hvac (b : Bay) : (bays.get b.chan).get b.letter = BayRec.vacant := by
      have hopen : (y.bays.get b.chan).get b.letter = false := by
        have h := List.filter_eq_nil_iff.mp hnone.1 b (mem_bayList b)
        simpa using h
      rw [hget b, hopen]
      rfl
    have hitems := readyItems_empty (s := readingState x y s.pending bays start) hvac rfl
      (by show (if y.tank then _ else _) = _; rw [hnone.2]; rfl) rfl
    refine ⟨bays, start, .ready, _, ?_, hget, fun _ => ⟨rfl, rfl⟩, fun h => absurd hnone h⟩
    rw [hexec, close_starts rfl (by exact startReads_none.mpr hnone)]
    refine congrArg (fun l => Host.Outcome.next { readingState x y s.pending bays start with phase := .ready, link := l }) ?_
    rw [told_append]
    refine (congrArg (told _) hqueue).trans ?_
    refine (congrArg (fun i => told [.ready i] { Link.powerOn with queue := (startNotices y).map eventFrame }) hitems).trans rfl
  · refine ⟨bays, start, .starting, [], ?_, hget, fun h => absurd h hnone, fun _ => ⟨rfl, rfl⟩⟩
    rw [hexec, close_starting (by exact (Bool.not_eq_false _).mp (mt startReads_none.mp hnone)), List.append_nil]
    exact congrArg (fun l => Host.Outcome.next { readingState x y s.pending bays start with link := l }) hqueue

/-- Settles O4: `powerOn_runs` gives the state, whose every block is the one the sensors and the store name. -/
theorem powerOnTakesTheStore : Obligations.PowerOnTakesTheStore := by
  intro x y s hx closed atOnce
  obtain ⟨bays, start, phase, ready, hexec, hget, hready, hwait⟩ := powerOn_runs (x := x) (y := y) (s := s) hx
  have hchan (ch : Chan) : chanRec (readingState x y s.pending bays start) ch = Channel.powerOn (y.full.get ch) (y.low.get ch) := by
    cases ch <;> rfl
  have hrolls (sl : Slot) : (powerState x y s.pending).media.rolls.get sl = rollAt (y.rollPresent.get sl) (y.rollEnd.get sl) := by
    cases sl <;> rfl
  have hidle : idleTime (readingState x y s.pending bays start) = 0 := by
    unfold idleTime
    split
    · rfl
    · exact Nat.zero_sub _
  have hwet (ch : Chan) : wetClock (readingState x y s.pending bays start) ch = 0
      ∧ ((readingState x y s.pending bays start).station.wet.get ch).spitDue = false := by
    have hclock : wetClock (readingState x y s.pending bays start) ch = 0 := by
      unfold wetClock
      split
      · rfl
      · exact Nat.min_eq_zero_iff.mpr (.inr (Nat.zero_sub _))
    exact ⟨hclock, by cases ch <;> rfl⟩
  have hrows (h : Head) (r : Row) : healthRow (readingState x y s.pending bays start) h r = HealthRow.unchecked := by
    cases h <;> cases r <;> rfl
  have hqueue : (startNotices y).map eventFrame
      = closed.map (fun b => ⟨.event, 0x65, 0, u8 0 ++ bayBytes b ++ u8 1⟩)
        ++ (if y.tank then [⟨.event, 0x65, 0, u8 0 ++ [0xFF, 0xFF] ++ u8 1⟩] else [])
        ++ (if y.rollPresent.get .s1 && y.rollEnd.get .s1 then [⟨.event, 0x64, 0, u8 3 ++ u8 1⟩] else [])
        ++ (if y.rollPresent.get .s2 && y.rollEnd.get .s2 then [⟨.event, 0x64, 0, u8 3 ++ u8 2⟩] else []) := by
    have htank : (tankStartNotices y).map eventFrame = if y.tank then [⟨.event, 0x65, 0, u8 0 ++ [0xFF, 0xFF] ++ u8 1⟩] else [] := by
      unfold tankStartNotices
      split <;> rfl
    have hroll (sl : Slot) : (rollStartNotices y sl).map eventFrame
        = if y.rollPresent.get sl && y.rollEnd.get sl then [⟨.event, 0x64, 0, u8 3 ++ u8 sl.num⟩] else [] := by
      unfold rollStartNotices
      split <;> rfl
    rw [startNotices, List.map_append, List.map_append, List.map_append, List.map_map, htank, hroll .s1, hroll .s2]
    rfl
  refine ⟨_, hexec, rfl, rfl, rfl, rfl, rfl, rfl, rfl, hget, rfl, rfl, hchan, rfl, rfl, rfl, rfl, rfl, rfl, hrolls, rfl, rfl, rfl, rfl,
    rfl, rfl, rfl, rfl, rfl, rfl, rfl, rfl, rfl, rfl, rfl, rfl, rfl, rfl, rfl, hidle, rfl, rfl, rfl, hwet, rfl, rfl, rfl, hrows, rfl, rfl,
    rfl, fun h => (hready h).1, fun h => (hwait h).1, rfl, rfl, rfl, rfl, rfl, rfl, ?_⟩
  refine congrArg₂ (· ++ ·) hqueue ?_
  by_cases h : atOnce
  · exact (hready h).2.trans (if_pos h).symm
  · exact (hwait h).2.trans (if_neg h).symm

end Sys2Proof.Machine
end

section
/-! ## RESET: what it gives up and what it keeps (R44, R135, R153, R170, R187; O11) -/

namespace Sys2Proof.Machine

open Sys2Proof

set_option Elab.async false

/-! ### The blocks, one by one -/

/-- What the mechanism reset makes of the carriage, before any raising (R135). -/
def Carriage.afterReset (now : Nat) (c : Carriage) : Carriage :=
  { c.reset now with sled := if (c.reset now).state = .open then .raising now else .still }

/-- The wet clocks after a mechanism reset: a capped carriage that its moving sled has uncapped starts them anew (R137). -/
def wetAfterReset (s : State) : Chans Wet :=
  if s.station.car.sled ≠ .still ∧ s.station.car.state = .capped then Chans.all ⟨s.now, false⟩ else s.station.wet

/-- The raising that follows when the reset has left the carriage OPEN (R135). -/
theorem raise_afterReset {c : Carriage} {w : Work} (hc : w.station.car = (c.reset w.now).timed w.now) :
    when (w.station.car.state = .open) raiseAlone w
      = { w with station := { w.station with car := c.afterReset w.now } } := by
  have hstate : w.station.car.state = (c.reset w.now).state := by rw [hc]; rfl
  by_cases ho : (c.reset w.now).state = .open
  · have hraise : raiseAlone w = { w with
        station := { w.station with car := { startRaising w.station.car w.now with idleSince := none } } } :=
      modCar_sled (by simp [startRaising])
    rw [hstate, decide_eq_true ho, when_true, hraise, hc]
    rw [Carriage.afterReset, if_pos ho]
    rfl
  · have hstill : c.afterReset w.now = w.station.car := by
      rw [hc, Carriage.timed_awake (Carriage.idles_notOpen ho), Carriage.afterReset, if_neg ho]
      rfl
    rw [hstate, decide_eq_false ho, when_false, hstill]

/-- The mechanism reset of the station; what it reports is at most that the carriage stands parked (R135, R153). -/
theorem resetStation_eq (w : Work) :
    ∃ heard, (∀ p ∈ heard, p = .carriageParked) ∧ heard.length ≤ 1 ∧ resetStation w = { w with
      agenda := w.agenda ++ heard
      station := { w.station with
        car := w.station.car.afterReset w.now, wet := wetAfterReset w.toState, service := none } } := by
  have hrun (v : Work) (hv : carTo (Carriage.reset w.now) (setStation (fun t => { t with service := none }) w) = v)
      (hn : v.now = w.now) : resetStation w = { v with station := { v.station with car := w.station.car.afterReset w.now } } := by
    have hcar : v.station.car = (w.station.car.reset v.now).timed v.now := by rw [← hv, carTo_car, hv, hn]; rfl
    rw [← hn, ← raise_afterReset hcar, ← hv]
    rfl
  by_cases hsame : (w.station.car.reset w.now).state = w.station.car.state
  · refine ⟨[], by simp, by simp, ?_⟩
    have hwet : wetAfterReset w.toState = w.station.wet := if_neg fun ⟨hs, hc⟩ => by
      rw [hc] at hsame
      exact absurd hsame (by simp [Carriage.reset, hs])
    rw [hrun _ (carTo_same hsame) rfl, hwet, List.append_nil]
    rfl
  · have hs : w.station.car.sled ≠ .still := fun hs => hsame (by simp [Carriage.reset, hs])
    have hopen : (w.station.car.reset w.now).state = .open := by simp [Carriage.reset, hs]
    refine ⟨[.carriageParked], by simp, by simp, ?_⟩
    by_cases hc : w.station.car.state = .capped
    · have hwet : wetAfterReset w.toState = Chans.all ⟨w.now, false⟩ := if_pos ⟨hs, hc⟩
      rw [hrun _ (carTo_capping hsame (.inl hc) (by exact congrArg CarState.isParked hopen)) (by rw [zeroWets_eq]; rfl), zeroWets_eq, hwet]
      rfl
    · have hwet : wetAfterReset w.toState = w.station.wet := if_neg fun h => hc h.2
      rw [hrun _ (carTo_home (fun h => hsame (hopen.trans h.symm)) hc hopen) rfl, hwet]
      rfl

/-- Marks cleared in a list of bays: each of them loses its own, the rest of the bays stand. -/
theorem clearMarks (l : List Bay) (w : Work) :
    ∃ bays, forEach l clearMark w = { w with supply := { w.supply with bays := bays } }
      ∧ ∀ b : Bay, (bays.get b.chan).get b.letter
          = if b ∈ l then { bayRec w.supply b with charged := false } else bayRec w.supply b := by
  induction l generalizing w with
  | nil => exact ⟨w.supply.bays, rfl, fun b => by simp [bayRec]⟩
  | cons c rest ih =>
    obtain ⟨bays, hrun, hget⟩ := ih (clearMark c w)
    refine ⟨bays, hrun, fun b => (hget b).trans ?_⟩
    have hclear : bayRec (clearMark c w).supply b = if b = c then { bayRec w.supply c with charged := false } else bayRec w.supply b :=
      bayRec_withBay
    rw [hclear]
    by_cases hb : b = c
    · simp [hb]
    · simp [hb]

/-- The bays lose their charged marks and nothing else (R113). -/
theorem resetSupply_eq (w : Work) :
    ∃ bays, resetSupply w = { w with supply := { w.supply with bays := bays } }
      ∧ ∀ b : Bay, (bays.get b.chan).get b.letter = { bayRec w.supply b with charged := false } := by
  obtain ⟨bays, hrun, hget⟩ := clearMarks bayList w
  exact ⟨bays, hrun, fun b => (hget b).trans (if_pos (mem_bayList b))⟩

theorem forEach_unchanged {α : Type} {f : α → Work → Work} {w : Work} (l : List α) (h : ∀ x, f x w = w) : forEach l f w = w := by
  induction l with
  | nil => rfl
  | cons x rest ih => rw [forEach_cons, h x, ih]

/-- No channel is looked at anew where none wants a refill or a stir (R99, R103). -/
theorem resetPump_eq {w : Work} (he : ∀ ch, Config.refillThreshold ≤ (chanRec w.toState ch).e ∨ w.supply.supplied.get ch = false)
    (hs : ∀ ch, (w.supply.params.get ch).settle = 0 ∨ w.supply.supplied.get ch = false) :
    resetPump w = { w with pump := ⟨w.pump.chans.map fun c => { c with follow := none }, [], none, Chans.all .closed⟩ } := by
  have hrefill (ch : Chan) : lookRefill ch { w with
      pump := ⟨w.pump.chans.map fun c => { c with follow := none }, [], none, Chans.all .closed⟩ } = { w with
      pump := ⟨w.pump.chans.map fun c => { c with follow := none }, [], none, Chans.all .closed⟩ } := by
    have hno : refillWanted { w.toState with
        pump := ⟨w.pump.chans.map fun c => { c with follow := none }, [], none, Chans.all .closed⟩ } ch = false := by
      unfold refillWanted
      obtain h | h := he ch
      · have hnot : ¬(w.pump.chans.get ch).e < Config.refillThreshold := Nat.not_lt.mpr h
        simp [chanRec, hnot]
      · simp [h]
    rw [lookRefill, hno, when_false]
  have hstir (ch : Chan) : lookStir ch { w with
      pump := ⟨w.pump.chans.map fun c => { c with follow := none }, [], none, Chans.all .closed⟩ } = { w with
      pump := ⟨w.pump.chans.map fun c => { c with follow := none }, [], none, Chans.all .closed⟩ } := by
    have hno : stirWanted { w.toState with
        pump := ⟨w.pump.chans.map fun c => { c with follow := none }, [], none, Chans.all .closed⟩ } ch = false := by
      unfold stirWanted
      obtain h | h := hs ch <;> simp [h]
    rw [lookStir, hno, when_false]
  show forEach allChans lookStir (forEach allChans lookRefill _) = _
  rw [modPump, forEach_unchanged _ hrefill, forEach_unchanged _ hstir]

theorem resetRow_health {h : Head} {r : Row} {b : Bool} {w : Work} (g : Head) (q : Row) :
    healthRow (resetRow h r b w).toState g q
      = if g = h ∧ q = r ∧ b = true then voidedRow (healthRow w.toState g q) else healthRow w.toState g q := by
  cases b with
  | false => simp [resetRow]
  | true =>
    show (((w.checker.health.set h ((w.checker.health.get h).set r (voidedRow (healthRow w.toState h r)))).get g).get q) = _
    rw [Heads.get_set]
    by_cases hg : g = h
    · subst hg
      by_cases hq : q = r
      · simp [hq]
      · simp [Rows.get_set, hq, healthRow]
    · simp [hg, healthRow]

/-- The row was in the pass that the scan in flight had begun (R170). -/
def rowInPass (s : State) (h : Head) (r : Row) : Prop :=
  ∃ m, s.station.car.move = some m ∧ m.kind = .checkScan h ∧ (r = .r0 → m.acted = true) ∧ (r = .r1 → m.scan.done0.isSome)

/-- The mechanism reset of the nozzle checker: the rows of the scan in flight are voided, the check is over (R170). -/
theorem resetChecker_eq (w : Work) :
    ∃ health, resetChecker w = { w with checker := { w.checker with health := health, check := none } }
      ∧ (∀ h r, rowInPass w.toState h r → (health.get h).get r = voidedRow (healthRow w.toState h r))
      ∧ ∀ h r, ¬rowInPass w.toState h r → (health.get h).get r = healthRow w.toState h r := by
  by_cases hscan : ∃ m g, w.station.car.move = some m ∧ m.kind = .checkScan g
  · obtain ⟨m, g, hm, hk⟩ := hscan
    have hfirst (h : Head) : rowInPass w.toState h .r0 ↔ g = h ∧ m.acted = true := by
      simp [rowInPass, hm, hk]
    have hsecond (h : Head) : rowInPass w.toState h .r1 ↔ g = h ∧ m.scan.done0.isSome = true := by
      simp [rowInPass, hm, hk]
    have hhealth0 (h : Head) : healthRow (resetRow g .r1 m.scan.done0.isSome (resetRow g .r0 m.acted w)).toState h .r0
        = if g = h ∧ m.acted = true then voidedRow (healthRow w.toState h .r0) else healthRow w.toState h .r0 := by
      simp [resetRow_health, eq_comm (a := h)]
    have hhealth1 (h : Head) : healthRow (resetRow g .r1 m.scan.done0.isSome (resetRow g .r0 m.acted w)).toState h .r1
        = if g = h ∧ m.scan.done0.isSome = true then voidedRow (healthRow w.toState h .r1) else healthRow w.toState h .r1 := by
      simp [resetRow_health, eq_comm (a := h)]
    refine ⟨(resetRow g .r1 m.scan.done0.isSome (resetRow g .r0 m.acted w)).checker.health, ?_, fun h r hp => ?_, fun h r hp => ?_⟩
    · simp only [resetChecker, hm, hk]
      cases m.acted <;> cases m.scan.done0.isSome <;> rfl
    · cases r with
      | r0 => exact (hhealth0 h).trans (if_pos ((hfirst h).mp hp))
      | r1 => exact (hhealth1 h).trans (if_pos ((hsecond h).mp hp))
    · cases r with
      | r0 => exact (hhealth0 h).trans (if_neg (mt (hfirst h).mpr hp))
      | r1 => exact (hhealth1 h).trans (if_neg (mt (hsecond h).mpr hp))
  · have hno (h : Head) (r : Row) : ¬rowInPass w.toState h r := fun ⟨m, hm, hk, _⟩ => hscan ⟨m, h, hm, hk⟩
    refine ⟨w.checker.health, ?_, fun h r hp => absurd hp (hno h r), fun h r _ => rfl⟩
    unfold resetChecker
    split
    · next m hm =>
      split
      · next g hk => exact absurd ⟨m, g, hm, hk⟩ hscan
      all_goals rfl
    · rfl

/-! ### The blocks together -/

/-- What RESET makes of the path (R44). -/
def mediaAfterReset (s : State) : Media :=
  { resetPath (s.sheet.phase ≠ .none) s.media with owner := .idle, switch := none, seq := none, cut := none, exitWatch := none }

theorem mediaAfterReset_keeps {s : State} : (mediaAfterReset s).stack = s.media.stack
    ∧ (mediaAfterReset s).profiles = s.media.profiles ∧ (mediaAfterReset s).ejecting = s.media.ejecting := by
  unfold mediaAfterReset resetPath
  split
  · exact ⟨rfl, rfl, rfl⟩
  · split
    · exact ⟨rfl, rfl, rfl⟩
    · split <;> exact ⟨rfl, rfl, rfl⟩

/-- Every block's mechanism reset, with no ejection pending and nothing wanted of the pump. -/
theorem resetBlocks_eq {w : Work} (hej : w.media.ejecting = none)
    (he : ∀ ch, Config.refillThreshold ≤ (chanRec w.toState ch).e ∨ w.supply.supplied.get ch = false)
    (hs : ∀ ch, (w.supply.params.get ch).settle = 0 ∨ w.supply.supplied.get ch = false) :
    ∃ health bays heard, (∀ p ∈ heard, p = .carriageParked) ∧ heard.length ≤ 1
      ∧ resetBlocks w = { w with
        agenda := w.agenda ++ heard
        checker := { w.checker with health := health, check := none }
        media := mediaAfterReset w.toState
        sheet := Sheet.none
        feed := { w.feed with r := 0, move := none, again := none }
        station := { w.station with
          car := w.station.car.afterReset w.now, wet := wetAfterReset w.toState, service := none }
        supply := { w.supply with bays := bays }
        pump := ⟨w.pump.chans.map fun c => { c with follow := none }, [], none, Chans.all .closed⟩ }
      ∧ (∀ b : Bay, (bays.get b.chan).get b.letter = { bayRec w.supply b with charged := false })
      ∧ (∀ h r, rowInPass w.toState h r → (health.get h).get r = voidedRow (healthRow w.toState h r))
      ∧ ∀ h r, ¬rowInPass w.toState h r → (health.get h).get r = healthRow w.toState h r := by
  obtain ⟨health, hcheck, hin, hout⟩ := resetChecker_eq w
  have hmoved : resetFeed (resetSheet (resetMedia (resetChecker w))) = { w with
      checker := { w.checker with health := health, check := none }
      media := mediaAfterReset w.toState
      sheet := Sheet.none
      feed := { w.feed with r := 0, move := none, again := none } } := by rw [hcheck]; rfl
  obtain ⟨heard, hheard, hlen, hstation⟩ := resetStation_eq { w with
    checker := { w.checker with health := health, check := none }
    media := mediaAfterReset w.toState
    sheet := Sheet.none
    feed := { w.feed with r := 0, move := none, again := none } }
  obtain ⟨bays, hsupply, hbays⟩ := resetSupply_eq { w with
    agenda := w.agenda ++ heard
    checker := { w.checker with health := health, check := none }
    media := mediaAfterReset w.toState
    sheet := Sheet.none
    feed := { w.feed with r := 0, move := none, again := none }
    station := { w.station with car := w.station.car.afterReset w.now, wet := wetAfterReset w.toState, service := none } }
  refine ⟨health, bays, heard, hheard, hlen, ?_, hbays, hin, hout⟩
  have hstill : (mediaAfterReset w.toState).ejecting = none := mediaAfterReset_keeps.2.2.trans hej
  have hsupplied := (congrArg (fun v => resetSupply (resetStation v)) hmoved).trans ((congrArg resetSupply hstation).trans hsupply)
  have hpump := (congrArg resetPump hsupplied).trans (resetPump_eq he hs)
  refine (congrArg ejectAfterReset hpump).trans ?_
  simp only [ejectAfterReset, hstill]

/-- RESET, as the link interface and the blocks run it (R187). -/
theorem ask_reset {s : State} {tag : Nat} (h : s.hears tag = true) {w v : Work}
    (hw : resetBlocks (Work.of (setLink (fun l => resetLink (placeReply ⟨0x23, tag, .reset⟩ ⟨.ok, .ok, [], 0⟩ l)) s)) = w)
    (hd : drain reportBound w = some v) (ho : v.outbox = []) (hp : v.phase = .ready) :
    ask ⟨0x23, tag, .reset⟩ s = .next v.toState := by
  obtain ⟨-, hb, hm, -⟩ := hears_parts h
  rw [ask_decideOne hb hm, decideOne, linkCheck_hears h (by simp) (by simp)]
  simp only [if_true, resetRequest]
  rw [hw, hd]
  show Host.Outcome.next (close v) = _
  rw [close_ready hp, ho]
  rfl

/-- The queue after RESET: the frame being sent and the replies, in their order, and its own reply (R187). -/
theorem resetLink_replied {tag : Nat} {l : Link} :
    resetLink (placeReply ⟨0x23, tag, .reset⟩ ⟨.ok, .ok, [], 0⟩ l) = { l with
      queue := l.queue.take 1 ++ l.queue.tail.filter (fun f => f.cls = .reply) ++ [⟨.reply, 0xA3, tag, u8 0 ++ u8 0⟩]
      table := [], changed := none } := by
  have hreply : placeReply ⟨0x23, tag, .reset⟩ ⟨.ok, .ok, [], 0⟩ l = enqueue ⟨.reply, 0xA3, tag, u8 0 ++ u8 0⟩ l := rfl
  rw [hreply]
  cases hq : l.queue with
  | nil => simp [resetLink, enqueue, hq]
  | cons f rest => simp [resetLink, enqueue, hq]

/-! ### What RESET leaves of the path and the carriage -/

/-- A path in FAULT stays; the roll in a load or an unload rests; an open sheet or a check leaves the path DIRTY (R44). -/
theorem mediaAfterReset_fault {s : State} (h : s.media.content = .fault) :
    (mediaAfterReset s).content = .fault ∧ (mediaAfterReset s).rolls = s.media.rolls := by
  simp only [mediaAfterReset, resetPath, h, if_true, and_self]

theorem mediaAfterReset_moved {s : State} {sl : Slot} (h : s.media.content ≠ .fault) (hm : s.media.seq.bind movedSlot = some sl) :
    (mediaAfterReset s).content = .empty ∧ (mediaAfterReset s).rolls.get sl.other = s.media.rolls.get sl.other
      ∧ (mediaAfterReset s).rolls.get sl
        = if s.media.present.get sl then { s.media.rolls.get sl with state := .standby } else Roll.none := by
  have hpath : resetPath (s.sheet.phase ≠ .none) s.media = { s.media with
      content := .empty
      rolls := s.media.rolls.set sl (restRoll (s.media.present.get sl) { s.media.rolls.get sl with state := .standby }) } := by
    simp only [resetPath, h, if_false, hm]
  simp only [mediaAfterReset, hpath, Slots.get_set_same, restRoll, true_and]
  exact ⟨by cases sl <;> rfl, trivial⟩

theorem mediaAfterReset_still {s : State} (h : s.media.content ≠ .fault) (hm : s.media.seq.bind movedSlot = none) :
    (mediaAfterReset s).rolls = s.media.rolls
      ∧ ((s.sheet.phase ≠ .none ∨ s.media.owner = .check) ∧ (threadedSlot s.media).isSome → (mediaAfterReset s).content = .dirty)
      ∧ (¬((s.sheet.phase ≠ .none ∨ s.media.owner = .check) ∧ (threadedSlot s.media).isSome) →
          (mediaAfterReset s).content = s.media.content) := by
  have hpath : resetPath (s.sheet.phase ≠ .none) s.media
      = if (s.sheet.phase ≠ .none ∨ s.media.owner = .check) ∧ (threadedSlot s.media).isSome
        then { s.media with content := .dirty } else s.media := by
    simp [resetPath, h, hm]
  refine ⟨?_, fun hd => ?_, fun hd => ?_⟩
  · simp only [mediaAfterReset, hpath]
    split <;> rfl
  · simp only [mediaAfterReset, hpath, if_pos hd]
  · simp only [mediaAfterReset, hpath, if_neg hd]

theorem Carriage.afterReset_moved {now : Nat} {c : Carriage} (h : c.sled ≠ .still) : (c.afterReset now).state = .open := if_neg h

/-- A carriage that a scan or a wipe holds away is returned by the reset (R135). -/
theorem Carriage.afterReset_away {now : Nat} {c : Carriage} (h : (c.afterReset now).state = .serviceMove) :
    (c.afterReset now).resetReturn = some now := by
  simp only [Carriage.afterReset, Carriage.reset] at h ⊢
  split at h
  · next hs => simp [hs, h]
  · cases h

theorem Carriage.afterReset_parked {now : Nat} {c : Carriage} (h : (c.afterReset now).state ≠ .serviceMove) :
    (c.afterReset now).resetReturn = none := by
  simp only [Carriage.afterReset, Carriage.reset] at h ⊢
  split at h
  · next hs => simp [h]
  · next hs => simp [hs]

/-- Settles O11: what each block's mechanism reset leaves, field by field. -/
theorem resetGivesUpAndKeeps : Obligations.ResetGivesUpAndKeeps := by
  intro s tag home h hej he hs moved sledMoved passed
  obtain ⟨health, bays, heard, hheard, hlen, hrun, hbays, hin, hout⟩ := resetBlocks_eq
    (w := Work.of (setLink (fun l => resetLink (placeReply ⟨0x23, tag, .reset⟩ ⟨.ok, .ok, [], 0⟩ l)) (withHome home s))) hej he hs
  have hready : s.phase = .ready := (hears_parts h).1
  have hexec := ask_reset (s := withHome home s) h hrun (drain_allUnheard (fun r hr rest => by
      rw [hheard r hr]
      exact trySwitch_absent rfl) rfl (by show ([] ++ heard).length ≤ _; rw [List.nil_append]; exact hlen.trans (by decide)))
    rfl hready
  obtain ⟨hstack, hprofiles, hejecting⟩ := mediaAfterReset_keeps (s := s)
  refine ⟨_, hexec, resetLink_replied, hready, rfl, rfl, rfl, rfl, rfl, rfl, rfl, rfl, rfl, hejecting.trans hej, hstack, hprofiles,
    mediaAfterReset_fault, fun hc sl hm => mediaAfterReset_moved hc hm, fun hc hm => mediaAfterReset_still hc hm, rfl, hbays, rfl, rfl, rfl,
    rfl, rfl, rfl, rfl, rfl, rfl, fun ch => Chans.get_map _ _ _, fun hsl => ?_, fun hsl => ⟨Carriage.afterReset_moved hsl, ?_, ?_⟩,
    fun ho => if_pos ho, fun ho => if_neg ho, Carriage.afterReset_away, Carriage.afterReset_parked,
    rfl, rfl, rfl, rfl, rfl, rfl, rfl, rfl, rfl,
    rfl, rfl, rfl, rfl, hin, hout⟩
  · have hstill : s.station.car.sled = .still := Decidable.not_not.mp hsl
    exact ⟨if_pos hstill, if_neg fun hw => hsl hw.1⟩
  · exact fun hc => if_pos ⟨hsl, hc⟩
  · exact fun hc => if_neg fun hw => hc hw.2

end Sys2Proof.Machine
end

section
/-! ## What the ink supply sets off comes to an end (R96, R97, R100, R103, R106, R113; towards O3) -/

namespace Sys2Proof.Machine

open Sys2Proof

set_option Elab.async false

/-! ### What the pump, the bays and the waste estimate leave alone -/

/-- A service without its running figures. -/
def Service.base (v : Service) : Service := { v with serviced := Chans.all 0, spitEnd := none }

/-- From `w` to `x` only the pump, the supply bays, the waste estimate, the wet clocks and a service's running figures have changed. -/
structure Beside (w x : Work) : Prop where
  feed : x.feed = w.feed
  media : x.media = w.media
  sheet : x.sheet = w.sheet
  checker : x.checker = w.checker
  car : x.station.car = w.station.car
  service : x.station.service.map Service.base = w.station.service.map Service.base
  outbox : ∃ more, x.outbox = w.outbox ++ more

theorem Beside.refl (w : Work) : Beside w w := ⟨rfl, rfl, rfl, rfl, rfl, rfl, [], by simp⟩

theorem Beside.trans {w x y : Work} (h : Beside w x) (k : Beside x y) : Beside w y := by
  obtain ⟨a, ha⟩ := h.outbox
  obtain ⟨b, hb⟩ := k.outbox
  exact ⟨k.feed.trans h.feed, k.media.trans h.media, k.sheet.trans h.sheet, k.checker.trans h.checker, k.car.trans h.car,
    k.service.trans h.service, a ++ b, by rw [hb, ha, List.append_assoc]⟩

/-! ### A bound on the reports -/

/-- The reports that the ink supply gives, and the one that ends a carriage move's event. -/
def Report.isRipple : Report → Bool
  | .inkChanged _ _ | .requestLook _ | .stirLook _ | .fillAnswered _ | .pumpFreed _ | .askAgain => true
  | _ => false

/-- What a report may still set off, in reports: a look at R103 waits behind the others. -/
def Report.weight (r : Report) : Nat := if r.isStirLook then 1 else 4

def weightOf (l : List Report) : Nat := (l.map Report.weight).sum

@[simp] theorem weightOf_nil : weightOf [] = 0 := rfl
@[simp] theorem weightOf_cons {r : Report} {l : List Report} : weightOf (r :: l) = r.weight + weightOf l := rfl
@[simp] theorem weightOf_append {k l : List Report} : weightOf (k ++ l) = weightOf k + weightOf l := by simp [weightOf]

/-- The channels that the arbiter may still grant within the event (log entry 9). -/
def unbarred (l : List Chan) : Nat := allChans.countP fun ch => !l.contains ch

theorem unbarred_cons {ch : Chan} {l : List Chan} (h : l.contains ch = false) : unbarred (ch :: l) + 1 = unbarred l := by
  have hmem : ch ∉ l := by simpa using h
  cases ch <;> simp [unbarred, allChans, List.countP_cons, hmem] <;> omega

theorem unbarred_le (l : List Chan) : unbarred l ≤ 6 := List.countP_le_length

/-- `x` follows from `w` with new reports of the ink supply that weigh at most `c` above what the channels barred since make good. -/
structure Ripples (c : Int) (w x : Work) : Prop where
  beside : Beside w x
  agenda : ∃ new, x.agenda = w.agenda ++ new ∧ (∀ r ∈ new, r.isRipple = true)
    ∧ ((weightOf new + 10 * unbarred x.atOnce + min 1 new.length : Nat) : Int) ≤ (10 * unbarred w.atOnce : Nat) + c

namespace Ripples

variable {w x : Work} {c : Int}

theorem refl (w : Work) : Ripples 0 w w := ⟨.refl w, [], by simp, by simp, by simp⟩

theorem mono {d : Int} (h : Ripples c w x) (hcd : c ≤ d) : Ripples d w x := by
  obtain ⟨hb, new, hnew, hr, hw⟩ := h
  exact ⟨hb, new, hnew, hr, hw.trans (by omega)⟩

theorem whenever {b : Bool} {f : Work → Work} (h : Ripples c w x) (k : Ripples c w (f x)) : Ripples c w (when b f x) := by
  cases b
  · exact h
  · exact k

theorem whenever' {d : Int} {b : Bool} {f : Work → Work} (h : Ripples c w x) (k : Ripples d w (f x)) (hd : c ≤ d) :
    Ripples d w (when b f x) := (h.mono hd).whenever k

/-- The pump, the bays and the wet clocks change without a report. -/
theorem onPump {p : Pump} (h : Ripples c w x) : Ripples c w { x with pump := p } :=
  ⟨⟨h.beside.feed, h.beside.media, h.beside.sheet, h.beside.checker, h.beside.car, h.beside.service, h.beside.outbox⟩, h.agenda⟩

theorem onSupply {u : Supply} (h : Ripples c w x) : Ripples c w { x with supply := u } :=
  ⟨⟨h.beside.feed, h.beside.media, h.beside.sheet, h.beside.checker, h.beside.car, h.beside.service, h.beside.outbox⟩, h.agenda⟩

theorem onStation {t : Station} (h : Ripples c w x) (hc : t.car = x.station.car)
    (hs : t.service.map Service.base = x.station.service.map Service.base) : Ripples c w { x with station := t } :=
  ⟨⟨h.beside.feed, h.beside.media, h.beside.sheet, h.beside.checker, hc.trans h.beside.car, hs.trans h.beside.service,
    h.beside.outbox⟩, h.agenda⟩

theorem give {n : Notice} (h : Ripples c w x) : Ripples c w (give n x) := by
  obtain ⟨more, hm⟩ := h.beside.outbox
  exact ⟨⟨h.beside.feed, h.beside.media, h.beside.sheet, h.beside.checker, h.beside.car, h.beside.service, more ++ [n],
    (congrArg (· ++ [n]) hm).trans (List.append_assoc _ _ _)⟩, h.agenda⟩

/-- A report of weight at most `d` is given. -/
theorem postOf {r : Report} {d : Nat} (h : Ripples c w x) (hr : r.isRipple = true) (hd : r.weight ≤ d) :
    Ripples (c + d + 1) w (post r x) := by
  obtain ⟨hb, new, hnew, hall, hw⟩ := h
  refine ⟨⟨hb.feed, hb.media, hb.sheet, hb.checker, hb.car, hb.service, hb.outbox⟩, new ++ [r],
    (congrArg (· ++ [r]) hnew).trans (List.append_assoc _ _ _), fun q hq => ?_, ?_⟩
  · obtain hq | hq := List.mem_append.mp hq
    · exact hall q hq
    · rw [List.mem_singleton.mp hq]
      exact hr
  · simp only [weightOf_append, weightOf_cons, weightOf_nil, List.length_append, List.length_singleton]
    have hat : (post r x).atOnce = x.atOnce := rfl
    rw [hat]
    omega

/-- A channel is barred from a further grant within the event. -/
theorem bar {ch : Chan} (h : Ripples c w x) (hch : x.atOnce.contains ch = false) :
    Ripples (c - 10) w { x with atOnce := ch :: x.atOnce } := by
  obtain ⟨hb, new, hnew, hall, hw⟩ := h
  refine ⟨⟨hb.feed, hb.media, hb.sheet, hb.checker, hb.car, hb.service, hb.outbox⟩, new, hnew, hall, ?_⟩
  have hun := unbarred_cons hch
  show ((weightOf new + 10 * unbarred (ch :: x.atOnce) + min 1 new.length : Nat) : Int) ≤ _
  omega

/-! ### The pump's acts -/

theorem notices {α : Type} {f : α → Work → Work} (hf : ∀ a y, Ripples c w y → Ripples c w (f a y)) (l : List α)
    (h : Ripples c w x) : Ripples c w (forEach l f x) := by
  induction l generalizing x with
  | nil => exact h
  | cons a rest ih => exact ih (hf a x h)

theorem writeBack {b : Bay} (h : Ripples c w x) : Ripples c w (writeBack b x) := by
  unfold Machine.writeBack
  split
  · exact h.onSupply
  · exact h

theorem fillWriteBacks {ch : Chan} (h : Ripples c w x) : Ripples c w (fillWriteBacks ch x) :=
  ((h.whenever h.writeBack).whenever (h.whenever h.writeBack).writeBack).onSupply.onSupply

theorem endFill {op : PumpOp} {o : Code} (h : Ripples c w x) : Ripples (c + 10) w (endFill op o x) := by
  have hstop : Ripples c w (Machine.modChan op.chan (fun c => { c with
      stirSince := some (Machine.fillWriteBacks op.chan (pumpStops op x)).now })
      (Machine.fillWriteBacks op.chan (pumpStops op x))) := (fillWriteBacks (h.onPump.onPump)).onPump
  have hdone (d : List Byte) := hstop.notices (f := fun t => opDone kindTopUp t o d) (fun _ _ k => k.give) op.tags
  have hserved (d : List Byte) := (hdone d).whenever' (b := op.service) (d := c + (4 : Nat) + 1)
    (f := post (.fillAnswered op.chan)) ((hdone d).postOf (r := .fillAnswered op.chan) (d := 4) rfl le_rfl) (by omega)
  have htold (d : List Byte) := (hserved d).whenever (b := o != .ok)
    (f := event .supply 5 (u8 op.chan.num ++ u8 op.kind.num ++ code o)) (hserved d).give
  have hlast (d : List Byte) := (htold d).postOf (r := .pumpFreed op.chan) (d := 4) rfl le_rfl
  exact (hlast _).mono (d := c + 10) (by omega)

theorem enterFollowOn {ch : Chan} (h : Ripples c w x) : Ripples c w (enterFollowOn ch x) := by
  unfold Machine.enterFollowOn
  split
  · exact h.onPump.onPump
  · exact h

theorem endStir {op : PumpOp} {o : Code} {b : Bool} (h : Ripples c w x) : Ripples (c + 10) w (endStir op o b x) := by
  have hstop : Ripples c w (pumpStops op x) := h.onPump.onPump
  have hreset := hstop.whenever (b := b) (f := Machine.modChan op.chan (fun c => { c with stirSince := some x.now })) hstop.onPump
  have htold := hreset.whenever (b := o != .ok) (f := event .supply 6 (u8 op.chan.num ++ code o)) hreset.give
  exact (htold.enterFollowOn.postOf (r := .pumpFreed op.chan) (d := 4) rfl le_rfl).mono (by omega)

/-- A granted entry starts, or ends at once and bars its channel. -/
theorem grantEntry {r : PumpReq} (h : Ripples c w x) (hr : x.atOnce.contains r.chan = false) : Ripples c w (grantEntry r x) := by
  have hlist : Ripples c w (modPump (fun p => { p with list := p.list.filter (fun y => y.chan ≠ r.chan) }) x) := h.onPump
  have hbar := hlist.bar (ch := r.chan) hr
  unfold Machine.grantEntry
  dsimp only
  split
  · split
    · exact hbar.endFill.mono (by omega)
    · split
      · exact hbar.endFill.mono (by omega)
      · exact hlist.onPump.onPump
  · split
    · exact hbar.endStir.mono (by omega)
    · exact hlist.onPump.onPump

theorem grant (h : Ripples c w x) : Ripples c w (grant x) := by
  unfold Machine.grant
  split
  · exact h
  · split
    · next r hr =>
      have hmem := (List.mem_filter.mp (mem_of_bestOf hr)).2
      exact h.grantEntry (by simpa using hmem)
    · exact h

theorem raiseEntry {ch : Chan} {k : PumpKind} {tags : List Nat} {s : Bool} (h : Ripples c w x) :
    Ripples c w (raiseEntry ch k tags s x) := by
  unfold Machine.raiseEntry
  split
  · exact h.onPump.grant
  · exact h.onPump.grant

theorem raise {ch : Chan} {k : PumpKind} {tags : List Nat} {s : Bool} (h : Ripples c w x) : Ripples c w (raise ch k tags s x) := by
  unfold Machine.raise
  split
  · split
    · split
      · exact h.onPump
      · exact h.onPump
    · exact h.raiseEntry
  · exact h.raiseEntry

theorem lookRefill {ch : Chan} (h : Ripples c w x) : Ripples c w (lookRefill ch x) := h.whenever h.raise
theorem lookStir {ch : Chan} (h : Ripples c w x) : Ripples c w (lookStir ch x) := h.whenever h.raise

theorem requestLook {ch : Chan} (h : Ripples c w x) : Ripples (c + 2) w (requestLook ch x) :=
  (h.lookRefill.postOf (r := .stirLook ch) (d := 1) rfl le_rfl).mono (by omega)

theorem pumpFreed {ch : Chan} (h : Ripples c w x) : Ripples (c + 2) w (pumpFreed ch x) := h.grant.requestLook

/-! ### A change of E -/

theorem setDry {ch : Chan} {v : Bool} (h : Ripples c w x) : Ripples (c + 5) w (setDry ch v x) := by
  unfold Machine.setDry
  split
  · exact h.mono (by omega)
  · exact ((h.onPump.give).postOf (r := .inkChanged ch .dry) (d := 4) rfl le_rfl).mono (by omega)

theorem setHold {ch : Chan} {v : Bool} (h : Ripples c w x) : Ripples (c + 5) w (setHold ch v x) := by
  unfold Machine.setHold
  split
  · exact h.mono (by omega)
  · exact ((h.onPump.give).postOf (r := .inkChanged ch .hold) (d := 4) rfl le_rfl).mono (by omega)

theorem levelChanged {ch : Chan} {b : Bool} (h : Ripples c w x) : Ripples (c + 10) w (levelChanged ch b x) :=
  (h.setDry.setHold.lookRefill).mono (by omega)

theorem debitDrops {t : Tally} {ch : Chan} {n : Nat} (h : Ripples c w x) : Ripples (c + 10) w (debitDrops t ch n x).2 := by
  show Ripples (c + 10) w (debitVolume t ch _ (Machine.modChan ch _ x))
  unfold debitVolume
  split
  · exact h.onPump.mono (by omega)
  · exact h.onPump.onPump.levelChanged

/-! ### The waste estimate and the spit of a service -/

theorem writeWaste {v : Nat} (h : Ripples c w x) : Ripples c w (writeWaste v x) := by
  unfold Machine.writeWaste
  split
  · exact h.onSupply
  · exact h

theorem credit {v : Nat} (h : Ripples c w x) : Ripples c w (credit v x) := by
  have hput : Ripples c w (setStation (fun t => { t with waste := creditWaste v t.waste }) x) := h.onStation rfl rfl
  have hlevel : Ripples c w (wasteRelevel (setStation (fun t => { t with waste := creditWaste v t.waste }) x)) := by
    unfold wasteRelevel
    split
    · refine Ripples.whenever ?_ ?_
      · exact hput.onStation rfl rfl
      · exact Ripples.give (hput.onStation rfl rfl)
    · exact hput
  refine hlevel.whenever ?_
  unfold writeBackWaste
  split
  · exact Ripples.writeWaste (hlevel.onStation rfl rfl)
  · exact hlevel

theorem modService {f : Service → Service} (h : Ripples c w x) (hf : ∀ v, (f v).base = v.base) : Ripples c w (modService f x) := by
  refine h.onStation rfl ?_
  simp only [Option.map_map]
  exact congrArg (fun g => x.station.service.map g) (funext hf)

theorem spitChannel {ch : Chan} (h : Ripples c w x) : Ripples (c + 10) w (spitChannel ch x) := by
  have hserved : Ripples (c + 10) w (addServiced ch (Machine.debitDrops .serviced ch Config.serviceSpit x).1
      (Machine.credit (Machine.debitDrops .serviced ch Config.serviceSpit x).1
        (Machine.debitDrops .serviced ch Config.serviceSpit x).2)) := h.debitDrops.credit.modService fun _ => rfl
  exact hserved.onStation rfl rfl

/-- The spit of a service's head: four changes of ink at most, and what they set off (R149). -/
theorem spitStep {v : Service} (h : Ripples c w x) : Ripples (c + 20) w (spitStep v x) := by
  have hboth : Ripples (c + 10 + 10) w (forEach (headChans v.head) Machine.spitChannel x) := h.spitChannel.spitChannel
  have hfiring := hboth.modService (f := fun v => { v with
    spitEnd := some (x.now + Config.spitTime) }) fun _ => rfl
  exact hfiring.mono (d := c + 20) (by omega)

end Ripples

/-! ### The reports come to an end -/

/-- Nobody but the pump acts on a report of the ink supply: no sheet, no media sequence, a service that spits, a check in its round. -/
structure Deaf (w : Work) : Prop where
  phase : w.sheet.phase = .none
  abort : w.sheet.abort = none
  seq : w.media.seq = none
  service : ∀ v, w.station.service = some v → v.step = .spit ∧ v.moveAgain = false
  check : ∀ c, w.checker.check = some c → c.step = .round

theorem Deaf.beside {w x : Work} (h : Deaf w) (k : Beside w x) : Deaf x := by
  refine ⟨k.sheet ▸ h.phase, k.sheet ▸ h.abort, k.media ▸ h.seq, fun v hv => ?_, fun c hc => h.check c (k.checker ▸ hc)⟩
  have hs := k.service
  rw [hv] at hs
  obtain ⟨u, hu, hbase⟩ := Option.map_eq_some_iff.mp hs.symm
  obtain ⟨hstep, hagain⟩ := h.service u hu
  exact ⟨(congrArg Service.step hbase).symm.trans hstep, (congrArg Service.moveAgain hbase).symm.trans hagain⟩

/-- A report other than a look at R103 gives at most one of those looks beside what the pump's grants make good. -/
theorem deliver_ripples {r : Report} {w : Work} (h : Deaf w) (hr : r.isRipple = true) (hs : r.isStirLook = false) :
    Ripples 2 w (deliver r w) := by
  have hidle : Ripples 2 w w := (Ripples.refl w).mono (by omega)
  cases r with
  | inkChanged ch what =>
    have hnone : deliver (.inkChanged ch what) w = w := by
      change serviceHearsInk ch what (sheetHearsInk ch what w) = w
      rw [sheetHearsInk_noSheet h.phase h.abort]
      unfold serviceHearsInk
      split
      · next v hv => simp [waitsFor, (h.service v hv).1]
      · rfl
    rw [hnone]
    exact hidle
  | requestLook ch => exact (Ripples.refl w).requestLook
  | pumpFreed ch => exact (Ripples.refl w).pumpFreed
  | fillAnswered ch =>
    have hnone : deliver (.fillAnswered ch) w = w := by
      change onFillAnswered ch w = w
      unfold onFillAnswered
      split
      · next v hv => simp [waitsFor, (h.service v hv).1]
      · rfl
    rw [hnone]
    exact hidle
  | askAgain =>
    have hservice : serviceAskAgain w = w := by
      unfold serviceAskAgain
      split
      · next v hv => rw [(h.service v hv).2]; rfl
      · rfl
    have hcheck : checkAskAgain w = w := by
      unfold checkAskAgain
      split
      · next c hc => simp [h.check c hc]
      · rfl
    have hnone : deliver .askAgain w = w := by
      simp only [deliver, mediaAskAgain, h.seq, hservice, hcheck]
    rw [hnone]
    exact hidle
  | stirLook ch => exact absurd hs (by simp [Report.isStirLook])
  | _ => cases hr

/-- A look at R103 stands before another report. -/
def stirAhead : List Report → Bool
  | [] => false
  | r :: rest => if r.isStirLook then rest.any (fun q => !q.isStirLook) else stirAhead rest

theorem stirAhead_looks {l : List Report} (h : ∀ r ∈ l, r.isStirLook = true) : stirAhead l = false := by
  cases l with
  | nil => rfl
  | cons r rest =>
    have hrest : ∀ q ∈ rest, q.isStirLook = true := fun q hq => h q (List.mem_cons_of_mem _ hq)
    simpa [stirAhead, h r List.mem_cons_self] using hrest

theorem stirAhead_sorted {k l : List Report} (hk : ∀ r ∈ k, r.isStirLook = false) (hl : ∀ r ∈ l, r.isStirLook = true) :
    stirAhead (k ++ l) = false := by
  induction k with
  | nil => exact stirAhead_looks hl
  | cons r rest ih =>
    rw [List.cons_append, stirAhead, if_neg (by rw [hk r List.mem_cons_self]; decide)]
    exact ih fun q hq => hk q (List.mem_cons_of_mem _ hq)

theorem weightOf_parted (l : List Report) :
    weightOf (l.filter fun r => !r.isStirLook) + weightOf (l.filter Report.isStirLook) = weightOf l := by
  induction l with
  | nil => rfl
  | cons r rest ih =>
    cases hr : r.isStirLook <;> simp [hr] <;> omega

/-- The reports that may still come. -/
def toCome (w : Work) : Nat := weightOf w.agenda + 10 * unbarred w.atOnce + (stirAhead w.agenda).toNat

/-- A delivery that gives at most two reports' weight more than it is owed. -/
theorem toCome_after {r : Report} {rest : List Report} {w x : Work} (ha : w.agenda = r :: rest) (hs : r.isStirLook = false)
    (h : Ripples 2 { w with agenda := rest } x) : toCome x < toCome w := by
  obtain ⟨-, new, hnew, -, hw⟩ := h
  have hbool (b : Bool) : b.toNat ≤ 1 := by cases b <;> decide
  have hx := hbool (stirAhead x.agenda)
  have hr : r.weight = 4 := by simp [Report.weight, hs]
  unfold toCome
  rw [hnew, ha] at *
  simp only [weightOf_cons, weightOf_append, hr] at *
  omega

/-- A look at R103 with nothing else to come (R103). -/
theorem toCome_look {ch : Chan} {rest : List Report} {w x : Work} (ha : w.agenda = .stirLook ch :: rest)
    (hrest : ∀ r ∈ rest, r.isStirLook = true) (h : Ripples 0 { w with agenda := rest } x) : toCome x < toCome w := by
  obtain ⟨-, new, hnew, -, hw⟩ := h
  have hx : (stirAhead x.agenda).toNat ≤ min 1 new.length := by
    cases new with
    | nil => simp [hnew, stirAhead_looks hrest]
    | cons r l => cases stirAhead x.agenda <;> simp
  have hr : (Report.stirLook ch).weight = 1 := rfl
  unfold toCome
  rw [hnew, ha] at *
  simp only [weightOf_cons, weightOf_append, hr] at *
  omega

/-- A look at R103 that waits behind the others. -/
theorem toCome_put {ch : Chan} {rest : List Report} {w x : Work} (ha : w.agenda = .stirLook ch :: rest)
    (hne : rest.filter (fun r => !r.isStirLook) ≠ []) (hat : x.atOnce = w.atOnce)
    (hx : x.agenda = rest.filter (fun r => !r.isStirLook) ++ .stirLook ch :: rest.filter Report.isStirLook) : toCome x < toCome w := by
  have hsorted : stirAhead x.agenda = false := by
    rw [hx]
    refine stirAhead_sorted (fun r hr => by simpa using (List.mem_filter.mp hr).2) fun r hr => ?_
    obtain rfl | hr := List.mem_cons.mp hr
    · rfl
    · exact (List.mem_filter.mp hr).2
  have hahead : stirAhead w.agenda = true := by
    obtain ⟨r, hr⟩ := List.exists_mem_of_ne_nil _ hne
    obtain ⟨hmem, hr⟩ := List.mem_filter.mp hr
    rw [ha]
    exact List.any_eq_true.mpr ⟨r, hmem, hr⟩
  have hparted := weightOf_parted rest
  unfold toCome
  rw [hsorted, hahead, hat, hx, ha]
  simp only [weightOf_cons, weightOf_append, Bool.toNat_false, Bool.toNat_true]
  omega

/-- What the ink supply has set off comes to an end, and nothing else has changed. -/
theorem drain_ripples (n : Nat) {w : Work} (h : Deaf w) (hr : ∀ r ∈ w.agenda, r.isRipple = true) (hn : toCome w ≤ n) :
    ∃ v, drain n w = some v ∧ Beside w v := by
  induction n generalizing w with
  | zero =>
    have hnone : w.agenda = [] := by
      cases ha : w.agenda with
      | nil => rfl
      | cons r rest =>
        have hpos : 1 ≤ r.weight := by unfold Report.weight; split <;> decide
        simp only [toCome, ha, weightOf_cons] at hn
        omega
    exact ⟨w, drain_nil 0 hnone, .refl w⟩
  | succ n ih =>
    cases ha : w.agenda with
    | nil => exact ⟨w, drain_nil _ ha, .refl w⟩
    | cons r rest =>
      have hstep {x : Work} (hd : deliver r { w with agenda := rest } = x) (hb : Beside w x) (hrx : ∀ q ∈ x.agenda, q.isRipple = true)
          (hlt : toCome x < toCome w) : ∃ v, drain (n + 1) w = some v ∧ Beside w v := by
        obtain ⟨v, hv, hvb⟩ := ih (h.beside hb) hrx (by omega)
        exact ⟨v, drain_step ha hd hv, hb.trans hvb⟩
      have hrest : ∀ q ∈ rest, q.isRipple = true := fun q hq => hr q (by rw [ha]; exact List.mem_cons_of_mem _ hq)
      have hpop : Beside w { w with agenda := rest } := ⟨rfl, rfl, rfl, rfl, rfl, rfl, [], by simp⟩
      have hgrown {c : Int} {x : Work} (k : Ripples c { w with agenda := rest } x) : ∀ q ∈ x.agenda, q.isRipple = true := by
        obtain ⟨-, new, hnew, hall, -⟩ := k
        intro q hq
        rw [hnew] at hq
        exact (List.mem_append.mp hq).elim (hrest q) (hall q)
      cases hs : r.isStirLook with
      | false =>
        have hk := deliver_ripples (h.beside hpop) (hr r (by rw [ha]; exact List.mem_cons_self)) hs
        exact hstep rfl (hpop.trans hk.beside) (hgrown hk) (toCome_after ha hs hk)
      | true =>
        obtain ⟨ch, rfl⟩ : ∃ ch, r = .stirLook ch := by cases r <;> first | exact ⟨_, rfl⟩ | cases hs
        cases hothers : rest.filter (fun q => !q.isStirLook) with
        | nil =>
          have hlooks : ∀ q ∈ rest, q.isStirLook = true := fun q hq => by simpa using List.filter_eq_nil_iff.mp hothers q hq
          have hk : Ripples 0 { w with agenda := rest } (lookStir ch { w with agenda := rest }) := (Ripples.refl _).lookStir
          have hlook : deliver (.stirLook ch) { w with agenda := rest } = lookStir ch { w with agenda := rest } := by
            simp only [deliver, stirLook, hothers]
          exact hstep hlook (hpop.trans hk.beside) (hgrown hk) (toCome_look ha hlooks hk)
        | cons q others =>
          have hput : deliver (.stirLook ch) { w with agenda := rest } = { w with
              agenda := rest.filter (fun q => !q.isStirLook) ++ .stirLook ch :: rest.filter Report.isStirLook } := by
            simp only [deliver, stirLook, hothers]
          refine hstep hput ⟨rfl, rfl, rfl, rfl, rfl, rfl, [], by simp⟩ (fun p hp => ?_)
            (toCome_put ha (by rw [hothers]; simp) rfl rfl)
          obtain hp | hp := List.mem_append.mp hp
          · exact hrest p (List.mem_filter.mp hp).1
          · obtain rfl | hp := List.mem_cons.mp hp
            · rfl
            · exact hrest p (List.mem_filter.mp hp).1

end Sys2Proof.Machine
end

section
/-! ## The rows of a check scan (R159 to R162; towards O3) -/

namespace Sys2Proof.Machine

open Sys2Proof

set_option Elab.async false

/-! ### The frame of a row (R159) -/

section
variable {tw ts : Nat} {x : List Nat}

/-- The samples from `a` up to `b` are below Tw. -/
def Clean (tw : Nat) (x : List Nat) (a b : Nat) : Prop := ∀ n, a ≤ n → n < b → (x[n]?).getD 0 < tw

/-- The row's frame is usable: lead-in, gap and closing bar (R159). -/
def Usable (tw ts : Nat) (x : List Nat) : Prop := Clean tw x 0 8 ∧ Clean tw x 1032 1036 ∧ ts ≤ (x[1036]?).getD 0

/-- No sample of a stretch of the row reaches Tw exactly when the stretch is clean. -/
theorem dark_stretch {a n : Nat} (h : a + n ≤ x.length) : ((x.drop a).take n).any (tw ≤ ·) = false ↔ Clean tw x a (a + n) := by
  simp only [List.any_eq_false, decide_eq_true_eq, Nat.not_le, Clean]
  constructor
  · intro hall i hai hin
    have hget : x[i]? = some x[i] := List.getElem?_eq_getElem (by omega)
    rw [hget]
    refine hall _ (List.mem_iff_getElem?.mpr ⟨i - a, ?_⟩)
    rw [List.getElem?_take, if_pos (by omega), List.getElem?_drop, Nat.add_sub_cancel' hai, hget]
    rfl
  · intro hclean v hv
    obtain ⟨i, hi⟩ := List.mem_iff_getElem?.mp hv
    rw [List.getElem?_take] at hi
    split at hi
    · next hin =>
      have := hclean (a + i) (by omega) (by omega)
      rw [List.getElem?_drop] at hi
      rwa [hi] at this
    · cases hi

/-- What keeps a row from being judged (R159, Table 8-3). -/
theorem frameVoid_eq (tw ts : Nat) (x : List Nat) : frameVoid tw ts x
    = if ((x.drop 0).take 8).any (tw ≤ ·) = true then some .background
      else if ((x.drop 1032).take 4).any (tw ≤ ·) = true ∨ (x[1036]?).getD 0 < ts then some .framing else none := by
  have hbar : (x.drop 1036).head? = x[1036]? := by rw [List.head?_drop]
  simp only [frameVoid, Config.leadInSamples, Config.nozzles, Config.gapSamples, Nat.reduceAdd, hbar, List.drop_zero, Bool.or_eq_true,
    decide_eq_true_eq]

theorem frameVoid_usable (hx : x.length = 1037) (h : Usable tw ts x) : frameVoid tw ts x = none := by
  obtain ⟨hlead, hgap, hbar⟩ := h
  have hl := (dark_stretch (a := 0) (n := 8) (by omega)).mpr hlead
  have hg := (dark_stretch (a := 1032) (n := 4) (by omega)).mpr hgap
  rw [frameVoid_eq, hl, hg, if_neg Bool.false_ne_true, if_neg (by simpa using hbar)]

theorem frameVoid_unusable (hx : x.length = 1037) (h : ¬Usable tw ts x) :
    (Clean tw x 0 8 → frameVoid tw ts x = some .framing) ∧ (¬Clean tw x 0 8 → frameVoid tw ts x = some .background) := by
  have hl := dark_stretch (tw := tw) (x := x) (a := 0) (n := 8) (by omega)
  have hg := dark_stretch (tw := tw) (x := x) (a := 1032) (n := 4) (by omega)
  refine ⟨fun hlead => ?_, fun hlead => ?_⟩
  · rw [frameVoid_eq, hl.mpr hlead, if_neg Bool.false_ne_true, if_pos]
    by_contra hnot
    obtain ⟨hgap, hbar⟩ := not_or.mp hnot
    exact h ⟨hlead, hg.mp ((Bool.not_eq_true _).mp hgap), Nat.not_lt.mp hbar⟩
  · rw [frameVoid_eq, if_pos ((Bool.not_eq_false _).mp (mt hl.mp hlead))]

end

/-! ### The states of the nozzles (R160, R161) -/

theorem classifyFrom_get {ws : List MaskWindow} {h : Head} {r : Row} {tw ts k : Nat} {l : List Nat} (n : Nat) :
    (classifyFrom ws h r tw ts k l)[n]? = (l[n]?).map (nozzleState ws h r tw ts (k + n)) := by
  induction l generalizing k n with
  | nil => simp [classifyFrom]
  | cons s rest ih =>
    cases n with
    | zero => simp [classifyFrom]
    | succ n => simp [classifyFrom, ih, Nat.add_comm, Nat.add_left_comm]

theorem classifyFrom_length {ws : List MaskWindow} {h : Head} {r : Row} {tw ts k : Nat} {l : List Nat} :
    (classifyFrom ws h r tw ts k l).length = l.length := by
  induction l generalizing k with
  | nil => rfl
  | cons s rest ih => simp [classifyFrom, ih]

theorem classify_length {ws : List MaskWindow} {h : Head} {r : Row} {tw ts : Nat} {x : List Nat} (hx : x.length = 1037) :
    (classify ws h r tw ts x).length = 1024 := by
  rw [classify, classifyFrom_length]
  simp [hx, Config.leadInSamples, Config.nozzles]

theorem classify_get {ws : List MaskWindow} {h : Head} {r : Row} {tw ts n : Nat} {x : List Nat} (hx : x.length = 1037) (hn : n < 1024) :
    (classify ws h r tw ts x)[n]? = some (nozzleState ws h r tw ts n ((x[8 + n]?).getD 0)) := by
  have hget : x[8 + n]? = some x[8 + n] := List.getElem?_eq_getElem (by omega)
  rw [classify, classifyFrom_get, List.getElem?_take]
  simp only [Config.leadInSamples, Config.nozzles, List.getElem?_drop, hn, if_true, hget, Nat.zero_add, Option.map_some, Option.getD_some]

theorem countsOf_eq (l : List NozzleState) :
    countsOf l = ⟨l.count .unchecked, l.count .good, l.count .weak, l.count .out, l.count .masked⟩ := by
  have hcount (s : NozzleState) : countState l s = l.count s := by
    rw [countState, List.count_eq_length_filter]
    rfl
  simp only [countsOf, hcount]

/-! ### Both rows of a scan (R158, R162) -/

/-- What a scan makes of one row of its head. -/
def judgedRow (s : State) (c : Check) (h : Head) (r : Row) (x : List Nat) : HealthRow :=
  match frameVoid c.tw c.ts x with
  | some _ => voidedRow (healthRow s h r)
  | none => evaluatedRow (classify s.checker.windows h r c.tw c.ts x) (healthRow s h r)

/-- The row's places in the check record's two lists. -/
def judgedNote (s : State) (c : Check) (h : Head) (r : Row) (x : List Nat) (n : RowNote) : RowNote :=
  match frameVoid c.tw c.ts x with
  | some reason => { n with voided := some reason }
  | none => { n with valid := some (judgedRow s c h r x).counts }

theorem judged_congr {s t : State} {c : Check} {h : Head} {r : Row} {x : List Nat} (hw : s.checker.windows = t.checker.windows)
    (hr : healthRow s h r = healthRow t h r) :
    judgedRow s c h r x = judgedRow t c h r x ∧ ∀ n, judgedNote s c h r x n = judgedNote t c h r x n := by
  have hrow : judgedRow s c h r x = judgedRow t c h r x := by simp only [judgedRow, hw, hr]
  exact ⟨hrow, fun n => by simp only [judgedNote, hrow]⟩

theorem evaluateRow_eq {c d : Check} {h : Head} {r : Row} {x : List Nat} {w : Work} (hd : w.checker.check = some d) :
    evaluateRow c h r x w = { w with checker := { w.checker with
      health := w.checker.health.set h ((w.checker.health.get h).set r (judgedRow w.toState c h r x))
      check := some { d with rows := d.rows.set h ((d.rows.get h).set r (judgedNote w.toState c h r x ((d.rows.get h).get r))) } } } := by
  unfold evaluateRow judgedNote judgedRow
  split
  · next reason hv =>
    simp only [hv, voidRow, setNote, setHealth, modCheck, modChecker, hd, Option.map_some]
  · next hv =>
    simp only [hv, setNote, setHealth, modCheck, modChecker, hd, Option.map_some]

/-- The samples of a row's lane. -/
def laneOf (x0 x1 : List Nat) (r : Row) : List Nat :=
  match r with
  | .r0 => x0
  | .r1 => x1

/-- A scan whose two passes were done judges both rows of its head and nothing else (R158). -/
theorem settleScan_eq {c : Check} {h : Head} {m : CarMove} {x0 x1 : List Nat} {w : Work} (hc : w.checker.check = some c)
    (h0 : m.scan.done0 = some x0) (h1 : m.scan.done1 = some x1) :
    ∃ health rows, settleScan c h m w = { w with
        checker := { w.checker with health := health, check := some { c with rows := rows } } }
      ∧ (∀ h' r, h' ≠ h → (health.get h').get r = healthRow w.toState h' r ∧ (rows.get h').get r = (c.rows.get h').get r)
      ∧ ∀ r, (health.get h).get r = judgedRow w.toState c h r (laneOf x0 x1 r)
        ∧ (rows.get h).get r = judgedNote w.toState c h r (laneOf x0 x1 r) ((c.rows.get h).get r) := by
  have hfirst := evaluateRow_eq (c := c) (h := h) (r := .r0) (x := x0) hc
  have hrun : settleScan c h m w = evaluateRow c h .r1 x1 (evaluateRow c h .r0 x0 w) := by
    simp only [settleScan, settleRow, h0, h1]
  rw [hrun, hfirst, evaluateRow_eq rfl]
  refine ⟨_, _, rfl, fun h' r hne => ?_, fun r => ?_⟩
  · simp only [Heads.get_set, hne, if_false]
    exact ⟨rfl, trivial⟩
  · obtain ⟨hrow, hnote⟩ := judged_congr (c := c) (x := x1)
      (s := { w.toState with checker := { w.checker with
        health := w.checker.health.set h ((w.checker.health.get h).set .r0 (judgedRow w.toState c h .r0 x0))
        check := some { c with
          rows := c.rows.set h ((c.rows.get h).set .r0 (judgedNote w.toState c h .r0 x0 ((c.rows.get h).get .r0))) } } })
      (t := w.toState) (h := h) (r := .r1) rfl (by simp [healthRow, Rows.get_set])
    cases r with
    | r0 => simp [Rows.get_set, laneOf]
    | r1 => simp [Rows.get_set, laneOf, hrow, hnote]

end Sys2Proof.Machine
end

section
/-! ## The verdict of a check scan (R164 to R168; O3) -/

namespace Sys2Proof.Machine

open Sys2Proof

set_option Elab.async false

/-! ### Asking for a move of the check -/

/-- A move of at least the pattern's length has counts, whatever the correction (R4, R6). -/
theorem forwardCounts_pos {a k r : Nat} {c : Int} (ha : 30000 ≤ a) (hk : 250000 ≤ k) (hc : -20000 ≤ c) :
    forwardCounts a k c r ≠ 0 := by
  have hprod : (30000 : Int) * 250000 * 980000 ≤ (a : Int) * k * (1000000 + c) :=
    Int.mul_le_mul (Int.mul_le_mul (by omega) (by omega) (by decide) (by omega)) (by omega) (by decide)
      (Int.mul_nonneg (by omega) (by omega))
  have hraw : 1000000000000 ≤ rawOf a k c := by
    show 1000000000000 ≤ ((a : Int) * k * (1000000 + c)).toNat
    omega
  exact Nat.pos_iff_ne_zero.mp (Nat.div_pos (hraw.trans (Nat.le_add_right _ r)) (by decide))

/-- A move of the check from an idle drive starts (R1, R3, R6). -/
theorem checkMove_starts {w : Work} {p : Purpose} {a : Nat} (hm : w.feed.move = none) (ho : w.media.owner = .check)
    (hk : Config.kMin ≤ w.feed.k) (hp : allowed .check true p = true) (ha : 30000 ≤ a) (hmax : a ≤ 3000000) :
    ∃ f, checkMove p a w = { w with feed := f } := by
  have hlen : lengthOk p a = true := by
    have h1 : 1 ≤ a := by omega
    simp [lengthOk, h1, hmax, Config.maxMove]
  have hc : -20000 ≤ totalS w.toState := (clampInt_mem (by decide)).1
  refine ⟨_, (askMove_taken (moveAnswer_taken hm ho.symm (by rw [ho]; decide) hp hlen)).trans
    (startMove_forward rfl (by show a ≠ 0; omega) (forwardCounts_pos ha hk hc))⟩

/-! ### The next step of the check (R165, R168) -/

section
variable {w : Work} {c : Check}

/-- The check goes to its strip when it has fed media and nothing keeps it from it (R168 step 1). -/
theorem endCheck_strips (hc : w.checker.check = some c) (hf : 0 < c.fed) (hr : c.rollEnded = false) (hs : c.fault.any stopsStrip = false)
    (hm : w.feed.move = none) (ho : w.media.owner = .check) (hk : Config.kMin ≤ w.feed.k) :
    ∃ f, endCheck w = { w with
      feed := f, checker := { w.checker with check := some { c with step := .strip, stripMade := true, round := none } } } := by
  have hrun : endCheck w = checkMove .strip Config.printToCutter
      (modCheck (fun c => { c with step := .strip, stripMade := true, round := none }) w) := by
    simp [endCheck, hc, hf, hr, hs]
  rw [hrun, modCheck_some hc]
  exact checkMove_starts hm ho hk rfl (by decide) (by decide)

/-- The members of a mask above a head, lowest first. -/
theorem headsAbove_sorted (mask : Heads Bool) (h : Head) :
    (mask.members.filter fun g => h.num < g.num).Pairwise fun g k => g.num < k.num :=
  have hall : allHeads.Pairwise fun g k => g.num < k.num := by decide
  (hall.filter _).filter _

theorem mem_headsAbove {mask : Heads Bool} {g h : Head} :
    g ∈ mask.members.filter (fun g => h.num < g.num) ↔ mask.get g = true ∧ h.num < g.num := by
  have hall : g ∈ allHeads := by cases g <;> decide
  simp [Heads.members, hall, and_comm]

/-- The head is done: the pattern of the next head, or the strip (R165). -/
theorem headDone_goes (hc : w.checker.check = some c) (hf : 0 < c.fed) (hr : c.rollEnded = false) (hs : c.fault = none)
    (hm : w.feed.move = none) (ho : w.media.owner = .check) (hk : Config.kMin ≤ w.feed.k) :
    ∃ f c', headDone w = { w with feed := f, checker := { w.checker with check := some c' } }
      ∧ c'.rows = c.rows ∧ c'.rounds = c.rounds ∧ c'.round = none ∧ c'.fault = none ∧ c'.step ≠ .scan
      ∧ ((∀ h', c.mask.get h' = true → h'.num ≤ c.head.num) → c'.step = .strip)
      ∧ (∀ h', c.mask.get h' = true → c.head.num < h'.num →
          (∀ h'', c.mask.get h'' = true → c.head.num < h''.num → h'.num ≤ h''.num) → c'.step = .pattern ∧ c'.head = h') := by
  cases habove : c.mask.members.filter (fun h => c.head.num < h.num) with
  | nil =>
    have hrun : headDone w = endCheck (modCheck (fun c => { c with round := none }) w) := by
      simp [headDone, hc, habove, unlessRollEnded, modCheck_some, hr]
    obtain ⟨f, hstrip⟩ := endCheck_strips (w := modCheck (fun c => { c with round := none }) w) (c := { c with round := none })
      (by rw [modCheck_some hc]) hf hr (by simp [hs]) hm ho hk
    refine ⟨f, { c with step := .strip, stripMade := true, round := none }, ?_, rfl, rfl, rfl, hs, by simp, fun _ => rfl,
      fun h' hmem hlt _ => ?_⟩
    · rw [hrun, hstrip, modCheck_some hc]
    · have hin := mem_headsAbove.mpr ⟨hmem, hlt⟩
      rw [habove] at hin
      exact absurd hin List.not_mem_nil
  | cons g rest =>
    obtain ⟨hg, hgt⟩ := mem_headsAbove.mp (habove ▸ List.mem_cons_self : g ∈ c.mask.members.filter fun h => c.head.num < h.num)
    have hrun : headDone w = checkMove .checkPattern Config.checkPattern { w with
        checker := { w.checker with check := some { c with head := g, round := none, step := .pattern } } } := by
      simp [headDone, hc, habove, unlessRollEnded, modCheck_some, hr, checkPattern]
    obtain ⟨f, hmove⟩ := checkMove_starts (p := .checkPattern) (a := Config.checkPattern) (w := { w with
      checker := { w.checker with check := some { c with head := g, round := none, step := .pattern } } }) hm ho hk rfl (by decide)
      (by decide)
    refine ⟨f, { c with head := g, round := none, step := .pattern }, hrun.trans hmove, rfl, rfl, rfl, hs, by simp,
      fun hall => absurd (hall g hg) (by omega), fun h' hmem hlt hmin => ⟨rfl, ?_⟩⟩
    have hsorted := headsAbove_sorted c.mask c.head
    rw [habove] at hsorted
    have hin := mem_headsAbove.mpr ⟨hmem, hlt⟩
    rw [habove] at hin
    obtain rfl | hin := List.mem_cons.mp hin
    · rfl
    · have hless := List.rel_of_pairwise_cons hsorted hin
      have hle := hmin g hg hgt
      omega

/-! ### The escalation state (R165) -/

/-- The SERVICE_EVENT of a changed escalation state. -/
def escalationNotice (h : Head) (old new : Escalation) : List Notice :=
  if new = old then [] else [eventNotice .service 4 (u8 h.num ++ u8 old.num ++ u8 new.num)]

theorem setEscalation_eq (h : Head) (e : Escalation) (w : Work) : setEscalation h e w = { w with
    checker := { w.checker with escalation := w.checker.escalation.set h e }
    outbox := w.outbox ++ escalationNotice h (w.checker.escalation.get h) e } := by
  have hset : w.checker.escalation.set h (w.checker.escalation.get h) = w.checker.escalation := by cases h <;> rfl
  unfold setEscalation escalationNotice
  by_cases he : e = w.checker.escalation.get h
  · rw [if_pos he, if_pos he, he, hset, List.append_nil]
  · rw [if_neg he, if_neg he]
    rfl

/-! ### A recovery round (R143, R166) -/

/-- The mask of one head. -/
def onlyHead (h : Head) : Heads Bool := (Heads.all false).set h true

theorem onlyHead_members (h : Head) : (onlyHead h).members = [h] := by cases h <;> rfl

/-- What refuses a recovery service over a parked carriage under the check's claim (R140, R143). -/
theorem serviceRefusal_recovery {mask : Heads Bool} {level : Nat} {s : State} (hp : s.station.car.state = .open)
    (hc : s.station.car.claims = ⟨false, true, false⟩) (hs : s.sheet.phase = .none) :
    (s.station.waste.tank = none → serviceRefusal true mask level s = some .noWasteTank)
      ∧ ∀ k, s.station.waste.tank = some k → serviceRefusal true mask level s
        = if k.capacity - k.w < plannedVolume s mask level then some .wasteFull else none := by
  refine ⟨fun ht => ?_, fun k ht => ?_⟩
  · simp [serviceRefusal, hp, CarState.isParked, hc, ht]
  · simp [serviceRefusal, hp, CarState.isParked, hc, ht, hs]

/-- The service record of a recovery round as it is made (R142, R143). -/
def roundService (n : Nat) (h : Head) (s : State) : Service :=
  ⟨.check, n, onlyHead h, forMask (onlyHead h) (fun ch => purgeVolume n (s.supply.params.get ch)), h, firstStep n, [], none, Chans.all 0,
    false, false, none⟩

theorem takeService_round {n : Nat} {h : Head} {w : Work} : takeService .check (onlyHead h) n w
    = runStep (roundService n h w.toState) { w with station := { w.station with
        car := w.station.car.inService, service := some (roundService n h w.toState) } } := by
  have hclaim : setServiceClaim true (setStation (fun t => { t with service := some (roundService n h w.toState) }) w)
      = { w with station := { w.station with car := w.station.car.inService, service := some (roundService n h w.toState) } } := by
    rw [setServiceClaim, modCar_awake (by simp [Carriage.idles, Claims.any])]
    rfl
  unfold takeService
  simp only [onlyHead_members]
  exact (congrArg _ hclaim).trans (startStep_some (v := roundService n h w.toState) rfl)

/-- The check in the round of a number. -/
def Check.inRound (n : Nat) (c : Check) : Check := { c with round := some n, step := .round }

/-- A round that is refused: the state without a round, the reason noted, and the strip (R166, R168). -/
theorem askRound_refused {n : Nat} {reason : Code} (hc : w.checker.check = some c)
    (hrefused : serviceRefusal true (onlyHead c.head) n w.toState = some reason) (hreason : stopsStrip reason = false)
    (hf : 0 < c.fed) (hr : c.rollEnded = false) (hs : c.fault = none) (hm : w.feed.move = none) (ho : w.media.owner = .check)
    (hk : Config.kMin ≤ w.feed.k) :
    ∃ f, askRound n w = { w with
      feed := f
      checker := { w.checker with
        escalation := w.checker.escalation.set c.head (noRound (w.checker.escalation.get c.head))
        check := some { c with fault := some reason, step := .strip, stripMade := true, round := none } }
      outbox := w.outbox
        ++ escalationNotice c.head (w.checker.escalation.get c.head) (noRound (w.checker.escalation.get c.head)) } := by
  have hrefused' : serviceRefusal true (onlyHead c.head) n
      { w.toState with checker := { w.checker with check := some (c.inRound n) } } = some reason := hrefused
  have hrun : askRound n w = endCheck { w with
      checker := { w.checker with
        escalation := w.checker.escalation.set c.head (noRound (w.checker.escalation.get c.head))
        check := some { c.inRound n with fault := some reason } }
      outbox := w.outbox
        ++ escalationNotice c.head (w.checker.escalation.get c.head) (noRound (w.checker.escalation.get c.head)) } := by
    have hnote := modCheck_some (f := fun c => { c with fault := some (c.fault.getD reason) }) (c := c.inRound n) (w := { w with
      checker := { w.checker with
        escalation := w.checker.escalation.set c.head (noRound (w.checker.escalation.get c.head)), check := some (c.inRound n) }
      outbox := w.outbox
        ++ escalationNotice c.head (w.checker.escalation.get c.head) (noRound (w.checker.escalation.get c.head)) }) rfl
    have hfault : (c.inRound n).fault.getD reason = reason := by rw [Check.inRound, hs]; rfl
    rw [hfault] at hnote
    unfold askRound
    simp only [hc, modCheck_some hc]
    split
    · next r hr =>
      obtain rfl := Option.some.inj (hrefused'.symm.trans hr)
      rw [setEscalation_eq]
      exact congrArg endCheck hnote
    · next hr => cases hrefused'.symm.trans hr
  obtain ⟨f, hstrip⟩ := endCheck_strips (c := { c.inRound n with fault := some reason }) (w := { w with
      checker := { w.checker with
        escalation := w.checker.escalation.set c.head (noRound (w.checker.escalation.get c.head))
        check := some { c.inRound n with fault := some reason } }
      outbox := w.outbox
        ++ escalationNotice c.head (w.checker.escalation.get c.head) (noRound (w.checker.escalation.get c.head)) })
    rfl hf hr (by simp [hreason]) hm ho hk
  exact ⟨f, hrun.trans hstrip⟩

/-- A round that is taken (R166). -/
theorem askRound_taken {n : Nat} (hc : w.checker.check = some c)
    (htaken : serviceRefusal true (onlyHead c.head) n w.toState = none) :
    askRound n w = runStep (roundService n c.head w.toState) { w with
      checker := { w.checker with
        escalation := w.checker.escalation.set c.head (roundState n)
        check := some { c.inRound n with rounds := c.rounds.set c.head (c.rounds.get c.head + 1) } }
      station := { w.station with car := w.station.car.inService, service := some (roundService n c.head w.toState) }
      outbox := w.outbox ++ escalationNotice c.head (w.checker.escalation.get c.head) (roundState n) } := by
  have htaken' : serviceRefusal true (onlyHead c.head) n
      { w.toState with checker := { w.checker with check := some (c.inRound n) } } = none := htaken
  have hround := modCheck_some (f := fun x => { x with rounds := x.rounds.set c.head (x.rounds.get c.head + 1) }) (c := c.inRound n)
    (w := { w with
      checker := { w.checker with escalation := w.checker.escalation.set c.head (roundState n), check := some (c.inRound n) }
      outbox := w.outbox ++ escalationNotice c.head (w.checker.escalation.get c.head) (roundState n) }) rfl
  unfold askRound
  simp only [hc, modCheck_some hc]
  split
  · next r hr => cases htaken'.symm.trans hr
  · rw [setEscalation_eq]
    exact (congrArg (takeService .check (onlyHead c.head) n) hround).trans takeService_round

/-! ### What follows from a taken round (R143 to R149) -/

/-- The end of a carriage move means nothing to a service and a check that wait for none (R148, R158). -/
theorem askAgain_idle (hs : w.media.seq = none) (hv : ∀ v, w.station.service = some v → v.moveAgain = false)
    (hc : ∀ c, w.checker.check = some c → c.step ≠ .scan) : deliver .askAgain w = w := by
  have hservice : serviceAskAgain w = w := by
    unfold serviceAskAgain
    split
    · next v h => rw [hv v h]; rfl
    · rfl
  have hcheck : checkAskAgain w = w := by
    unfold checkAskAgain
    split
    · next c h => simp [hc c h]
    · rfl
  simp only [deliver, mediaAskAgain, hs, hservice, hcheck]

/-- The carriage as a round has left it. -/
structure RoundCar (x y : Carriage) : Prop where
  state : y.state = x.state
  move : y.move = x.move
  home : y.home = x.home
  claims : y.claims = { x.claims with service := true }

/-- The service of a round of level `n` for a head. -/
structure IsRound (n : Nat) (h : Head) (v : Service) : Prop where
  asker : v.by' = .check
  level : v.level = n
  mask : v.mask = onlyHead h
  head : v.head = h

/-- The work in which a round's service has just been taken. -/
def roundWork (n : Nat) (h : Head) (x : Checker) (o : List Notice) (w : Work) : Work :=
  { w with
    checker := x
    station := { w.station with car := w.station.car.inService, service := some (roundService n h w.toState) }
    outbox := o
    agenda := [] }

/-- A round of level 2 or 3 raises the sled and waits for it (R145). -/
theorem drain_round_purge {n : Nat} {h : Head} {x : Checker} {o : List Notice} (hn : n = 2 ∨ n = 3) (ho : w.station.car.state = .open)
    (hl : w.station.car.sled = .still) (hseq : w.media.seq = none) (hx : ∀ c, x.check = some c → c.step ≠ .scan) :
    ∃ v u, drain 1 (post .askAgain (runStep (roundService n h w.toState) (roundWork n h x o w))) = some v
      ∧ v.checker = x ∧ RoundCar w.station.car v.station.car ∧ v.station.service = some u ∧ IsRound n h u ∧ v.outbox = o := by
  have hcap : runStep (roundService n h w.toState) (roundWork n h x o w) = sledStep .capped (roundWork n h x o w) := by
    obtain rfl | rfl := hn <;> rfl
  rw [hcap, sledStep_raises (v := roundService n h w.toState) (w := roundWork n h x o w) rfl hl ho]
  refine ⟨_, _, drain_step rfl (askAgain_idle hseq (fun v hv => ?_) hx) (drain_nil 0 rfl), rfl, ⟨rfl, rfl, rfl, rfl⟩, rfl,
    ⟨rfl, rfl, rfl, rfl⟩, rfl⟩
  obtain rfl := Option.some.inj hv
  rfl

/-- The work in which a level 1 round comes to its spit. -/
def spitWork (h : Head) (x : Checker) (o : List Notice) (w : Work) : Work :=
  { w with
    checker := x
    station := { w.station with car := w.station.car.inService, service := some ((roundService 1 h w.toState).standing h .spit) }
    outbox := o
    agenda := [.askAgain] }

/-- A round of level 1 over an open carriage comes to its spit at once (R144, R145). -/
theorem deliver_uncapped {h : Head} {x : Checker} {o : List Notice} :
    deliver (.stepEnded .ok) { roundWork 1 h x o w with agenda := [.askAgain] }
      = spitStep ((roundService 1 h w.toState).standing h .spit) (spitWork h x o w) := by
  have hnext : onStepEnded .ok { roundWork 1 h x o w with agenda := [.askAgain] }
      = startStep h .spit { roundWork 1 h x o w with agenda := [.askAgain] } :=
    onStepEnded_next (v := roundService 1 h w.toState) (step := .spit) (w := { roundWork 1 h x o w with agenda := [.askAgain] }) rfl rfl
  refine hnext.trans ((startStep_some (h := h) (step := .spit) (v := roundService 1 h w.toState)
    (w := { roundWork 1 h x o w with agenda := [.askAgain] }) rfl).trans ?_)
  rfl

/-- A round of level 1 goes on to its spit, whose ink changes come to an end (R144, R149). -/
theorem drain_round_spit {h : Head} {x : Checker} {o : List Notice} (ho : w.station.car.state = .open)
    (hl : w.station.car.sled = .still) (hseq : w.media.seq = none) (hp : w.sheet.phase = .none) (ha : w.sheet.abort = none)
    (hx : ∀ c, x.check = some c → c.step = .round) :
    ∃ v u more, drain 101 (post .askAgain (runStep (roundService 1 h w.toState) (roundWork 1 h x o w))) = some v
      ∧ v.checker = x ∧ RoundCar w.station.car v.station.car ∧ v.station.service = some u ∧ IsRound 1 h u
      ∧ v.outbox = o ++ more := by
  have hthere : runStep (roundService 1 h w.toState) (roundWork 1 h x o w) = endStep .ok (roundWork 1 h x o w) :=
    sledStep_there (st := .open) hl ho
  have hdeaf : Deaf (spitWork h x o w) :=
    ⟨hp, ha, hseq, fun v hv => by obtain rfl := Option.some.inj hv; exact ⟨rfl, rfl⟩, hx⟩
  obtain ⟨hbeside, new, hnew, hall, hweight⟩ :=
    (Ripples.refl (spitWork h x o w)).spitStep (v := (roundService 1 h w.toState).standing h .spit)
  have hcome : toCome (spitStep ((roundService 1 h w.toState).standing h .spit) (spitWork h x o w)) ≤ 100 := by
    have hun := unbarred_le (spitWork h x o w).atOnce
    have hask : Report.askAgain.weight = 4 := rfl
    have hstart : (spitWork h x o w).agenda = [.askAgain] := rfl
    have hbool (b : Bool) : b.toNat ≤ 1 := by cases b <;> decide
    have hahead := hbool (stirAhead (spitStep ((roundService 1 h w.toState).standing h .spit) (spitWork h x o w)).agenda)
    rw [hnew, hstart] at hahead
    rw [toCome, hnew, hstart]
    simp only [weightOf_append, weightOf_cons, weightOf_nil, hask]
    omega
  obtain ⟨v, hdrain, hend⟩ := drain_ripples 100 (hdeaf.beside hbeside) (fun r hr => by
      rw [hnew] at hr
      obtain hr | hr := List.mem_append.mp hr
      · rw [List.mem_singleton.mp hr]
        rfl
      · exact hall r hr) hcome
  have htotal := hbeside.trans hend
  obtain ⟨more, hmore⟩ := htotal.outbox
  obtain ⟨u, hu, hbase⟩ := Option.map_eq_some_iff.mp htotal.service
  rw [hthere]
  refine ⟨v, u, more, drain_step rfl deliver_uncapped hdrain, htotal.checker, ?_, hu, ?_, hmore⟩
  · rw [htotal.car]
    exact ⟨rfl, rfl, rfl, rfl⟩
  · exact ⟨(congrArg Service.by' hbase :), (congrArg Service.level hbase :), (congrArg Service.mask hbase :),
      (congrArg Service.head hbase :)⟩

end

end Sys2Proof.Machine
end

section
/-! ## The end of a check scan, from the home sensor to the next step (R127, R158, R164 to R166; O3) -/

namespace Sys2Proof.Machine

open Sys2Proof

set_option Elab.async false

/-! ### The carriage comes home (R127) -/

/-- The carriage at home after a move of a claimed carriage. -/
def Carriage.homed (c : Carriage) : Carriage := { Carriage.returned c with idleSince := none }

/-- HOME_REPORT ends the return of a scan: what it reports of the carriage is heard by nobody under the check. -/
theorem homeReport_scan {s : State} {m : CarMove} {u : Nat} (hr : s.station.car.resetReturn = none)
    (hm : s.station.car.move = some m) (hp : m.phase = .returning u) (hf : m.fault = none)
    (hc : s.station.car.claims = ⟨false, true, false⟩) (hh : s.station.car.hold = .none) :
    ∃ wet heard, homeReport (Work.of s) = { Work.of s with
        station := { s.station with car := s.station.car.homed, wet := wet }
        agenda := heard ++ [.carMoveEnded m .ok true] }
      ∧ (∀ p ∈ heard, p = .carriageParked) ∧ heard.length ≤ 1 := by
  have hany {x : Carriage} (hx : x.claims = s.station.car.claims) : x.idles = false := by
    simp [Carriage.idles, hx, hc, Claims.any]
  have hhome : modCar (fun c => { c with home := true }) (Work.of s) = { Work.of s with
      station := { s.station with car := { s.station.car with home := true, idleSince := none } } } :=
    modCar_awake (w := Work.of s) (hany rfl)
  have hto : modCar (fun c => { c with state := .open, move := none }) { Work.of s with
      station := { s.station with car := { s.station.car with home := true, idleSince := none } } } = { Work.of s with
      station := { s.station with car := s.station.car.homed } } := modCar_awake (hany rfl)
  have hend {v : Work} (hv : carTo (fun c => { c with state := .open, move := none }) { Work.of s with
        station := { s.station with car := { s.station.car with home := true, idleSince := none } } } = v)
      (hw : v.station.car.hold ≠ .waiting) : homeReport (Work.of s) = post (.carMoveEnded m .ok true) v := by
    rw [homeReport_returning (w := Work.of s) hr hm hp, hf, hhome, endCarMove, hv, testHold_idle hw]
    rfl
  have hnot : s.station.car.homed.hold ≠ .waiting := by
    show s.station.car.hold ≠ .waiting
    rw [hh]
    decide
  by_cases hopen : s.station.car.state = .open
  · refine ⟨s.station.wet, [], ?_, by simp, by simp⟩
    rw [hend ((carTo_same hopen.symm).trans hto) hnot]
    rfl
  · by_cases hcap : s.station.car.state = .capped
    · refine ⟨Chans.all ⟨s.now, false⟩, [.carriageParked], ?_, by simp, by simp⟩
      have hcapped := carTo_capping (f := fun c => { c with state := .open, move := none }) (w := { Work.of s with
        station := { s.station with car := { s.station.car with home := true, idleSince := none } } })
        (fun he => hopen he.symm) (.inl hcap) rfl
      rw [hto, zeroWets_eq] at hcapped
      rw [hend hcapped hnot]
      rfl
    · refine ⟨s.station.wet, [.carriageParked], ?_, by simp, by simp⟩
      have hparked := carTo_home (f := fun c => { c with state := .open, move := none }) (w := { Work.of s with
        station := { s.station with car := { s.station.car with home := true, idleSince := none } } }) hopen hcap rfl
      rw [hto] at hparked
      rw [hend hparked hnot]
      rfl

/-! ### The verdict (R164) -/

section
variable {c : Check} {m : CarMove} {x : Rows HealthRow}

/-- A row of the scan fails (R164). -/
def RowFails (c : Check) (y : HealthRow) : Prop := y.status = .valid ∧ (c.outTol < y.counts.out ∨ c.weakTol < y.counts.weak)

theorem mem_validCounts {n : Counts} (h0 : m.scan.done0.isSome = true) (h1 : m.scan.done1.isSome = true) :
    n ∈ validCounts x m ↔ ∃ r, (x.get r).status = .valid ∧ (x.get r).counts = n := by
  have hrow {y : HealthRow} : n ∈ (if y.status = .valid then [y.counts] else []) ↔ y.status = .valid ∧ y.counts = n := by
    by_cases hy : y.status = .valid
    · simp [hy, eq_comm (a := n)]
    · simp [hy]
  simp only [validCounts, h0, h1, Bool.true_and, decide_eq_true_eq, List.mem_append, hrow]
  constructor
  · rintro (h | h)
    · exact ⟨.r0, h⟩
    · exact ⟨.r1, h⟩
  · rintro ⟨r, h⟩
    cases r
    · exact .inl h
    · exact .inr h

theorem verdictOf_fail (h0 : m.scan.done0.isSome = true) (h1 : m.scan.done1.isSome = true) {r : Row} (h : RowFails c (x.get r)) :
    verdictOf c (validCounts x m) = .fail := by
  refine if_pos (List.any_eq_true.mpr ⟨(x.get r).counts, (mem_validCounts h0 h1).mpr ⟨r, h.1, rfl⟩, ?_⟩)
  simpa [rowFails] using h.2

theorem verdictOf_noFail (h0 : m.scan.done0.isSome = true) (h1 : m.scan.done1.isSome = true) (h : ∀ r, ¬RowFails c (x.get r)) :
    ((∃ r, (x.get r).status = .valid) → verdictOf c (validCounts x m) = .pass)
      ∧ ((∀ r, (x.get r).status ≠ .valid) → verdictOf c (validCounts x m) = .none) := by
  have hnone : (validCounts x m).any (rowFails c) = false := by
    refine List.any_eq_false.mpr fun n hn hfail => ?_
    obtain ⟨r, hvalid, rfl⟩ := (mem_validCounts h0 h1).mp hn
    exact h r ⟨hvalid, by simpa [rowFails] using hfail⟩
  refine ⟨fun ⟨r, hr⟩ => ?_, fun hv => ?_⟩
  · have hmem := (mem_validCounts h0 h1).mpr ⟨r, hr, rfl⟩
    rw [verdictOf, hnone, if_neg Bool.false_ne_true, if_neg]
    simpa using List.ne_nil_of_mem hmem
  · rw [verdictOf, hnone, if_neg Bool.false_ne_true, if_pos]
    refine List.isEmpty_iff.mpr (List.eq_nil_iff_forall_not_mem.mpr fun n hn => ?_)
    obtain ⟨r, hr, -⟩ := (mem_validCounts h0 h1).mp hn
    exact hv r hr

end

/-! ### The scan is over (R158, R162) -/

/-- A check scan with both passes done, its carriage on the way home, the drive and the services idle. -/
structure ScanOver (s : State) (c : Check) (m : CarMove) (h : Head) (x0 x1 : List Nat) : Prop where
  noReset : s.station.car.resetReturn = none
  move : s.station.car.move = some m
  requester : m.requester = .check
  phase : ∃ u, m.phase = .returning u
  fault : m.fault = none
  done0 : m.scan.done0 = some x0
  done1 : m.scan.done1 = some x1
  hold : s.station.car.hold = .none
  sled : s.station.car.sled = .still
  claims : s.station.car.claims = ⟨false, true, false⟩
  service : s.station.service = none
  check : s.checker.check = some c
  step : c.step = .scan
  head : c.head = h
  noFault : c.fault = none
  roll : c.rollEnded = false
  fed : 0 < c.fed
  owner : s.media.owner = .check
  seq : s.media.seq = none
  drive : s.feed.move = none
  kMin : Config.kMin ≤ s.feed.k
  noSheet : s.sheet.phase = .none
  noAbort : s.sheet.abort = none

/-- The work in which the head is judged: the carriage at home, both rows settled. -/
def scanWork (s : State) (c : Check) (wet : Chans Wet) (health : Heads (Rows HealthRow)) (rows : Heads (Rows RowNote)) : Work :=
  { Work.of s with
    station := { s.station with car := s.station.car.homed, wet := wet }
    checker := { s.checker with health := health, check := some { c with rows := rows } } }

section
variable {s : State} {c : Check} {m : CarMove} {h : Head} {x0 x1 : List Nat}

/-- A scan that ended OK has its rows settled and its head judged (R158). -/
theorem carMoveRequester_scan {w : Work} (hr : m.requester = .check) (hc : w.checker.check = some c) (hs : c.step = .scan) :
    carMoveRequester m .ok w = judgeHead m (settleScan c c.head m w) := by
  have hfault : (Code.ok : Code) ≠ .carriageNotParked := by decide
  simp only [carMoveRequester, hr, checkCarMoveEnded, hc, hs]
  rfl

/-- The verdict names a state, or asks for a round (R164, R165). -/
theorem judgeHead_becomes {w : Work} {e : Escalation} (hc : w.checker.check = some c) (hf : c.fault = none)
    (hr : ruling (w.checker.escalation.get c.head) (verdictOf c (validCounts (w.checker.health.get c.head) m)) c.autoRecover
      (roundPossible c w.toState) = .becomes e) : judgeHead m w = headDone (setEscalation c.head e w) := by
  simp only [judgeHead, hc, hr]
  rw [hf]
  rfl

theorem judgeHead_round {w : Work} {n : Nat} (hc : w.checker.check = some c)
    (hr : ruling (w.checker.escalation.get c.head) (verdictOf c (validCounts (w.checker.health.get c.head) m)) c.autoRecover
      (roundPossible c w.toState) = .round n) : judgeHead m w = askRound n w := by
  simp only [judgeHead, hc, hr]

/-- The work in which the carriage has come home. -/
def homedWork (s : State) (wet : Chans Wet) (reports : List Report) : Work :=
  { Work.of s with station := { s.station with car := s.station.car.homed, wet := wet }, agenda := reports }

/-- HOME_REPORT brings the carriage home and has both rows settled; the verdict decides what follows. -/
theorem homeReport_settles (k : ScanOver s c m h x0 x1) :
    ∃ wet health rows,
      (∀ n v, n ≤ 900 → drain n (post .askAgain (judgeHead m (scanWork s c wet health rows))) = some v →
        drain reportBound (homeReport (Work.of s)) = some v)
      ∧ (∀ h' r, h' ≠ h → (health.get h').get r = healthRow s h' r ∧ (rows.get h').get r = (c.rows.get h').get r)
      ∧ ∀ r, (health.get h).get r = judgedRow s c h r (laneOf x0 x1 r)
        ∧ (rows.get h).get r = judgedNote s c h r (laneOf x0 x1 r) ((c.rows.get h).get r) := by
  obtain ⟨u, hu⟩ := k.phase
  obtain ⟨wet, heard, hhome, hheard, hlen⟩ := homeReport_scan k.noReset k.move hu k.fault k.claims k.hold
  obtain ⟨health, rows, hsettle, hother, hrow⟩ := settleScan_eq (h := h) (w := homedWork s wet []) k.check k.done0 k.done1
  refine ⟨wet, health, rows, fun n v hn hv => ?_, hother, hrow⟩
  have hended := carMoveRequester_scan (w := homedWork s wet []) k.requester k.check k.step
  rw [k.head, hsettle] at hended
  have hjudge : deliver (.carMoveEnded m .ok true) (homedWork s wet []) = post .askAgain (judgeHead m (scanWork s c wet health rows)) :=
    congrArg (post .askAgain) hended
  have hparked (rest : List Report) : deliver .carriageParked (homedWork s wet rest) = homedWork s wet rest := by
    have howner : (homedWork s wet rest).media.owner ≠ .idle := fun he => by cases k.owner.symm.trans he
    simp [deliver, trySwitch, howner]
  have hbound : n + 2 ≤ reportBound := by
    show n + 2 ≤ 1000
    omega
  rw [hhome]
  cases heard with
  | nil => exact drain_of_le (drain_step rfl hjudge hv) ((Nat.le_succ _).trans hbound)
  | cons p rest =>
    obtain rfl : rest = [] := List.length_eq_zero_iff.mp (Nat.le_zero.mp (Nat.succ_le_succ_iff.mp hlen))
    rw [hheard p List.mem_cons_self]
    exact drain_of_le (drain_step rfl (hparked _) (drain_step rfl hjudge hv)) hbound

/-- What the end of a scan leaves, whatever the verdict. -/
structure ScanResult (s : State) (c : Check) (h : Head) (health : Heads (Rows HealthRow)) (rows : Heads (Rows RowNote))
    (new : Escalation) (c' : Check) (v : Work) : Prop where
  checker : v.checker = { s.checker with
    health := health, escalation := s.checker.escalation.set h new, check := some c' }
  rows : c'.rows = rows
  rounds : ∀ h', h' ≠ h → c'.rounds.get h' = c.rounds.get h'
  state : v.station.car.state = .open
  move : v.station.car.move = none
  home : v.station.car.home = true
  outbox : ∃ more, v.outbox = escalationNotice h (s.checker.escalation.get h) new ++ more
    ∧ ((∀ u, v.station.service = some u → u.level ≠ 1) → more = [])

/-- The verdict names a state: the head is done (R165). -/
theorem judge_becomes {wet : Chans Wet} {health : Heads (Rows HealthRow)} {rows : Heads (Rows RowNote)} {e : Escalation}
    (k : ScanOver s c m h x0 x1)
    (hr : ruling (s.checker.escalation.get h) (verdictOf { c with rows := rows } (validCounts (health.get h) m)) c.autoRecover
      (roundPossible { c with rows := rows } (scanWork s c wet health rows).toState) = .becomes e) :
    ∃ v c', drain 900 (post .askAgain (judgeHead m (scanWork s c wet health rows))) = some v
      ∧ ScanResult s c h health rows e c' v ∧ v.station.service = none ∧ c'.rounds = c.rounds ∧ c'.round = none ∧ c'.fault = none
      ∧ ((∀ h', c.mask.get h' = true → h'.num ≤ h.num) → c'.step = .strip)
      ∧ (∀ h', c.mask.get h' = true → h.num < h'.num →
          (∀ h'', c.mask.get h'' = true → h.num < h''.num → h'.num ≤ h''.num) → c'.step = .pattern ∧ c'.head = h') := by
  obtain rfl := k.head
  have hrun := judgeHead_becomes (w := scanWork s c wet health rows) (c := { c with rows := rows }) rfl k.noFault hr
  rw [setEscalation_eq] at hrun
  obtain ⟨f, c', hgo, hrows, hrounds, hround, hfault, hstep, hlast, hnext⟩ := headDone_goes (c := { c with rows := rows }) (w := {
    scanWork s c wet health rows with
      checker := { (scanWork s c wet health rows).checker with escalation := s.checker.escalation.set c.head e }
      outbox := [] ++ escalationNotice c.head (s.checker.escalation.get c.head) e }) rfl k.fed k.roll k.noFault k.drive k.owner k.kMin
  rw [hrun.trans hgo]
  refine ⟨_, c', drain_of_le (drain_step (n := 0) rfl (askAgain_idle k.seq (fun v hv => ?_) (fun d hd => ?_)) (drain_nil 0 rfl))
    (by decide), ⟨rfl, hrows, fun h' _ => by rw [hrounds], rfl, rfl, rfl, [], (List.append_nil _).symm, fun _ => rfl⟩, k.service,
    hrounds, hround, hfault, hlast, hnext⟩
  · cases k.service.symm.trans hv
  · obtain rfl := Option.some.inj hd
    exact hstep

/-- The verdict asks for a round that is refused (R166). -/
theorem judge_refused {wet : Chans Wet} {health : Heads (Rows HealthRow)} {rows : Heads (Rows RowNote)} {n : Nat} {reason : Code}
    (k : ScanOver s c m h x0 x1)
    (hr : ruling (s.checker.escalation.get h) (verdictOf { c with rows := rows } (validCounts (health.get h) m)) c.autoRecover
      (roundPossible { c with rows := rows } (scanWork s c wet health rows).toState) = .round n)
    (href : serviceRefusal true (onlyHead h) n (scanWork s c wet health rows).toState = some reason)
    (hreason : stopsStrip reason = false) :
    ∃ v c', drain 900 (post .askAgain (judgeHead m (scanWork s c wet health rows))) = some v
      ∧ ScanResult s c h health rows (noRound (s.checker.escalation.get h)) c' v ∧ v.station.service = none ∧ c'.rounds = c.rounds
      ∧ c'.fault = some reason ∧ c'.step = .strip := by
  obtain rfl := k.head
  obtain ⟨f, hgo⟩ := askRound_refused (w := scanWork s c wet health rows) (c := { c with rows := rows }) rfl href hreason k.fed k.roll
    k.noFault k.drive k.owner k.kMin
  rw [(judgeHead_round (w := scanWork s c wet health rows) (c := { c with rows := rows }) rfl hr).trans hgo]
  refine ⟨_, _, drain_of_le (drain_step (n := 0) rfl (askAgain_idle k.seq (fun v hv => ?_) (fun d hd => ?_)) (drain_nil 0 rfl))
    (by decide), ⟨rfl, rfl, fun _ _ => rfl, rfl, rfl, rfl, [], (List.append_nil _).symm, fun _ => rfl⟩, k.service, rfl, rfl, rfl⟩
  · cases k.service.symm.trans hv
  · obtain rfl := Option.some.inj hd
    exact nofun

/-- The verdict asks for a round that is taken (R166). -/
theorem judge_taken {wet : Chans Wet} {health : Heads (Rows HealthRow)} {rows : Heads (Rows RowNote)} {n : Nat}
    (k : ScanOver s c m h x0 x1) (hn : n = 1 ∨ n = 2 ∨ n = 3)
    (hr : ruling (s.checker.escalation.get h) (verdictOf { c with rows := rows } (validCounts (health.get h) m)) c.autoRecover
      (roundPossible { c with rows := rows } (scanWork s c wet health rows).toState) = .round n)
    (htaken : serviceRefusal true (onlyHead h) n (scanWork s c wet health rows).toState = none) :
    ∃ v c' u, drain 900 (post .askAgain (judgeHead m (scanWork s c wet health rows))) = some v
      ∧ ScanResult s c h health rows (roundState n) c' v ∧ v.station.car.claims = ⟨false, true, true⟩
      ∧ v.station.service = some u ∧ IsRound n h u
      ∧ c'.step = .round ∧ c'.round = some n ∧ c'.fault = none ∧ c'.rounds.get h = c.rounds.get h + 1 := by
  obtain rfl := k.head
  have hgo := (judgeHead_round (w := scanWork s c wet health rows) (c := { c with rows := rows }) rfl hr).trans
    (askRound_taken (w := scanWork s c wet health rows) rfl htaken)
  have hcar {x : Carriage} (hx : RoundCar s.station.car.homed x) :
      x.state = .open ∧ x.move = none ∧ x.home = true ∧ x.claims = ⟨false, true, true⟩ := by
    refine ⟨hx.state, hx.move, hx.home, ?_⟩
    rw [hx.claims]
    show { s.station.car.claims with service := true } = _
    rw [k.claims]
  have hrounds (h' : Head) (hne : h' ≠ c.head) : (c.rounds.set c.head (c.rounds.get c.head + 1)).get h' = c.rounds.get h' := by
    rw [Heads.get_set, if_neg hne]
  rw [hgo]
  by_cases h1 : n = 1
  · subst h1
    obtain ⟨v, u, more, hdrain, hx, hc, hs, hu, ho⟩ := drain_round_spit (w := scanWork s c wet health rows) (h := c.head)
      (x := { s.checker with
        health := health
        escalation := s.checker.escalation.set c.head (roundState 1)
        check := some { ({ c with rows := rows } : Check).inRound 1 with rounds := c.rounds.set c.head (c.rounds.get c.head + 1) } })
      (o := [] ++ escalationNotice c.head (s.checker.escalation.get c.head) (roundState 1)) rfl k.sled k.seq k.noSheet k.noAbort
      (fun d hd => by obtain rfl := Option.some.inj hd; rfl)
    obtain ⟨hstate, hmove, hhome, hclaims⟩ := hcar hc
    exact ⟨v, _, u, drain_of_le hdrain (by decide), ⟨hx, rfl, hrounds, hstate, hmove, hhome, more, ho,
      fun hno => absurd hu.level (hno u hs)⟩, hclaims, hs, hu, rfl, rfl, k.noFault, Heads.get_set_same _ _ _⟩
  · obtain ⟨v, u, hdrain, hx, hc, hs, hu, ho⟩ := drain_round_purge (n := n) (w := scanWork s c wet health rows) (h := c.head)
      (x := { s.checker with
        health := health
        escalation := s.checker.escalation.set c.head (roundState n)
        check := some { ({ c with rows := rows } : Check).inRound n with rounds := c.rounds.set c.head (c.rounds.get c.head + 1) } })
      (o := [] ++ escalationNotice c.head (s.checker.escalation.get c.head) (roundState n)) (hn.resolve_left h1) rfl k.sled k.seq
      (fun d hd => by obtain rfl := Option.some.inj hd; exact nofun)
    obtain ⟨hstate, hmove, hhome, hclaims⟩ := hcar hc
    exact ⟨v, _, u, drain_of_le hdrain (by decide), ⟨hx, rfl, hrounds, hstate, hmove, hhome, [], ho.trans (List.append_nil _).symm,
      fun _ => rfl⟩, hclaims, hs, hu, rfl, rfl, k.noFault, Heads.get_set_same _ _ _⟩

end

end Sys2Proof.Machine
end

section
/-! ## The check scan is judged (R159 to R166, Table 8-6; O3) -/

namespace Sys2Proof.Machine

open Sys2Proof

set_option Elab.async false

/-! ### Table 8-6 -/

/-- The round that the escalation state asks for, when one is asked. -/
def RoundAfter (old : Escalation) (n : Nat) : Prop :=
  (n = 1 ∧ (old = .ok ∨ old = .attention)) ∨ (n = 2 ∧ old = .round1) ∨ (n = 3 ∧ old = .round2)

theorem RoundAfter.unique {old : Escalation} {n k : Nat} (hn : RoundAfter old n) (hk : RoundAfter old k) : n = k := by
  unfold RoundAfter at hn hk
  cases old <;> simp_all

theorem ruling_asks {old : Escalation} {n : Nat} (h : RoundAfter old n) : ruling old .fail true true = .round n := by
  unfold RoundAfter at h
  cases old <;> simp_all [ruling]

theorem ruling_round {old : Escalation} {v : Verdict} {auto possible : Bool} {n : Nat} (h : ruling old v auto possible = .round n) :
    v = .fail ∧ auto = true ∧ possible = true ∧ RoundAfter old n := by
  unfold RoundAfter
  cases v <;> cases old <;> cases auto <;> cases possible <;> simp_all [ruling]

theorem ruling_alone {old new : Escalation} {possible : Bool} (h : ruling old .fail false possible = .becomes new) :
    new = if old = .degraded then .degraded else .attention := by
  cases old <;> simp_all [ruling]

theorem ruling_spent {old new : Escalation} {possible : Bool} (h : ruling old .fail true possible = .becomes new)
    (ho : old = .round3 ∨ old = .degraded) : new = .degraded := by
  obtain rfl | rfl := ho <;> cases possible <;> simp_all [ruling, noRound]

theorem noRound_eq {old : Escalation} (h : old ≠ .round3) : noRound old = if old = .ok then .attention else old := by
  cases old <;> simp_all [noRound]

theorem ruling_short {old new : Escalation} (h : ruling old .fail true false = .becomes new) (ho : old ≠ .round3) :
    new = if old = .ok then .attention else old := by
  rw [← noRound_eq ho]
  cases old <;> simp_all [ruling, noRound]

/-! ### The head's ruling -/

/-- The media known to be left allows a round (R164). -/
def LongEnough (left : Option Nat) : Prop := ∀ l, left = some l → 160000 ≤ l

/-- What the verdict on a head has led to: its new escalation state, the check as it goes on, and the service of a round. -/
structure Ruled (s : State) (c : Check) (h : Head) (failed judged : Prop) (left : Option Nat) (new : Escalation) (c' : Check)
    (v : Work) : Prop where
  silent : failed ∨ judged ∨ new = s.checker.escalation.get h
  passes : ¬failed → judged → new = .ok
  alone : failed → c.autoRecover = false → new = if s.checker.escalation.get h = .degraded then .degraded else .attention
  spent : failed → c.autoRecover = true → s.checker.escalation.get h = .round3 ∨ s.checker.escalation.get h = .degraded →
    new = .degraded
  short : failed → c.autoRecover = true → ∀ l, left = some l → l < 160000 → s.checker.escalation.get h ≠ .round3 →
    new = if s.checker.escalation.get h = .ok then .attention else s.checker.escalation.get h
  asked : ∀ n, failed ∧ c.autoRecover = true ∧ LongEnough left ∧ RoundAfter (s.checker.escalation.get h) n →
    (s.station.waste.tank = none → new = (if s.checker.escalation.get h = .ok then .attention else s.checker.escalation.get h)
        ∧ c'.fault = some .noWasteTank ∧ c'.step = .strip ∧ c'.rounds = c.rounds ∧ v.station.service = none)
      ∧ ∀ k, s.station.waste.tank = some k → plannedVolume s (onlyHead h) n ≤ k.capacity - k.w →
        new = roundState n ∧ c'.step = .round ∧ c'.round = some n ∧ c'.fault = none ∧ c'.rounds.get h = c.rounds.get h + 1
          ∧ v.station.car.claims = ⟨false, true, true⟩ ∧ ∃ u, v.station.service = some u ∧ IsRound n h u
  goesOn : (∀ n, ¬(failed ∧ c.autoRecover = true ∧ LongEnough left ∧ RoundAfter (s.checker.escalation.get h) n)) →
    c'.round = none ∧ c'.fault = none ∧ c'.rounds = c.rounds ∧ v.station.service = none
      ∧ ((∀ h', c.mask.get h' = true → h'.num ≤ h.num) → c'.step = .strip)
      ∧ (∀ h', c.mask.get h' = true → h.num < h'.num →
          (∀ h'', c.mask.get h'' = true → h.num < h''.num → h'.num ≤ h''.num) → c'.step = .pattern ∧ c'.head = h')

section
variable {s : State} {c : Check} {m : CarMove} {h : Head} {x0 x1 : List Nat} {failed judged : Prop} {left : Option Nat}
  {wet : Chans Wet} {health : Heads (Rows HealthRow)} {rows : Heads (Rows RowNote)}

/-- A round is possible exactly when the media known to be left allows it. -/
theorem roundPossible_iff {slot : Slot} (k : ScanOver s c m h x0 x1) (ht : threadedSlot s.media = some slot) :
    roundPossible { c with rows := rows } (scanWork s c wet health rows).toState = true
      ↔ LongEnough (s.media.rolls.get slot).remaining := by
  have hmedia : (scanWork s c wet health rows).media = s.media := rfl
  have hpossible : roundPossible { c with rows := rows } (scanWork s c wet health rows).toState
      = (s.media.rolls.get slot).remaining.all (Config.roundLength ≤ ·) := by
    simp [roundPossible, hmedia, ht, k.noFault, k.roll]
  rw [hpossible, LongEnough]
  cases (s.media.rolls.get slot).remaining with
  | none => simp
  | some l =>
    simp only [Option.all_some, Option.some.injEq, forall_eq', decide_eq_true_eq]
    exact Iff.rfl

/-- The verdict on the head is ruled on as Table 8-6 says. -/
theorem judgeHead_rules {slot : Slot} (k : ScanOver s c m h x0 x1) (ht : threadedSlot s.media = some slot)
    (hfail : failed → verdictOf { c with rows := rows } (validCounts (health.get h) m) = .fail)
    (hpass : ¬failed → judged → verdictOf { c with rows := rows } (validCounts (health.get h) m) = .pass)
    (hnone : ¬failed → ¬judged → verdictOf { c with rows := rows } (validCounts (health.get h) m) = .none) :
    ∃ v c' new, drain 900 (post .askAgain (judgeHead m (scanWork s c wet health rows))) = some v
      ∧ ScanResult s c h health rows new c' v ∧ Ruled s c h failed judged (s.media.rolls.get slot).remaining new c' v := by
  have hposs := roundPossible_iff (wet := wet) (health := health) (rows := rows) k ht
  obtain ⟨verdict, hverdict⟩ : ∃ x, verdictOf { c with rows := rows } (validCounts (health.get h) m) = x := ⟨_, rfl⟩
  obtain ⟨possible, hpossible⟩ : ∃ x, roundPossible { c with rows := rows } (scanWork s c wet health rows).toState = x := ⟨_, rfl⟩
  rw [hverdict] at hfail hpass hnone
  rw [hpossible] at hposs
  cases hr : ruling (s.checker.escalation.get h) verdict c.autoRecover possible with
  | becomes new =>
    obtain ⟨v, c', hdrain, hresult, hserv, hrounds, hround, hfault, hlast, hnext⟩ :=
      judge_becomes (wet := wet) (e := new) k (by rw [hverdict, hpossible]; exact hr)
    refine ⟨v, c', new, hdrain, hresult, ?_, fun hf hj => ?_, fun hf ha => ?_, fun hf ha ho => ?_, fun hf ha l hl hlt ho => ?_,
      fun n ⟨hf, ha, hl, hn⟩ => ?_, fun _ => ⟨hround, hfault, hrounds, hserv, hlast, hnext⟩⟩
    · by_contra hall
      obtain ⟨hf, hj, hne⟩ : ¬failed ∧ ¬judged ∧ new ≠ s.checker.escalation.get h := by
        simpa [not_or] using hall
      rw [hnone hf hj] at hr
      exact hne (Ruling.becomes.inj hr).symm
    · rw [hpass hf hj] at hr
      exact (Ruling.becomes.inj hr).symm
    · rw [hfail hf, ha] at hr
      exact ruling_alone hr
    · rw [hfail hf, ha] at hr
      exact ruling_spent hr ho
    · have hno : possible = false := by
        have hnot := mt hposs.mp fun hlong => absurd (hlong l hl) (Nat.not_le.mpr hlt)
        simpa using hnot
      rw [hfail hf, ha, hno] at hr
      exact ruling_short hr ho
    · rw [hfail hf, ha, hposs.mpr hl, ruling_asks hn] at hr
      cases hr
  | round n =>
    obtain ⟨hv, ha, hp, hn⟩ := ruling_round hr
    have hf : failed := by
      by_contra hf
      by_cases hj : judged
      · cases hv.symm.trans (hpass hf hj)
      · cases hv.symm.trans (hnone hf hj)
    have hlong := hposs.mp hp
    have hn' : n = 1 ∨ n = 2 ∨ n = 3 := by
      obtain h | h | h := hn <;> simp [h.1]
    have hr' : ruling (s.checker.escalation.get h) (verdictOf { c with rows := rows } (validCounts (health.get h) m)) c.autoRecover
        (roundPossible { c with rows := rows } (scanWork s c wet health rows).toState) = .round n := by rw [hverdict, hpossible]; exact hr
    have hnot3 : s.checker.escalation.get h ≠ .round3 := by
      intro ho
      rw [ho] at hn
      simp [RoundAfter] at hn
    have hnotD : s.checker.escalation.get h ≠ .degraded := by
      intro ho
      rw [ho] at hn
      simp [RoundAfter] at hn
    obtain ⟨hnoTank, htank⟩ := serviceRefusal_recovery (mask := onlyHead h) (level := n) (s := (scanWork s c wet health rows).toState)
      rfl k.claims k.noSheet
    cases href : serviceRefusal true (onlyHead h) n (scanWork s c wet health rows).toState with
    | some reason =>
      have hreason : stopsStrip reason = false ∧ (s.station.waste.tank = none → reason = .noWasteTank) := by
        cases ht : s.station.waste.tank with
        | none =>
          obtain rfl := Option.some.inj (href.symm.trans (hnoTank ht))
          exact ⟨rfl, fun _ => rfl⟩
        | some x =>
          have hfull := href.symm.trans (htank x ht)
          split at hfull
          · obtain rfl := Option.some.inj hfull
            exact ⟨rfl, nofun⟩
          · cases hfull
      obtain ⟨v, c', hdrain, hresult, hserv, hrounds, hfault, hstep⟩ := judge_refused k hr' href hreason.1
      refine ⟨v, c', _, hdrain, hresult, .inl hf, fun hnf => absurd hf hnf, fun _ hna => absurd (ha.symm.trans hna) (by decide),
        fun _ _ ho => absurd ho (not_or.mpr ⟨hnot3, hnotD⟩), fun _ _ l hl hlt => absurd (hlong l hl) (Nat.not_le.mpr hlt),
        fun i ⟨_, _, _, hi⟩ => ?_, fun hall => absurd ⟨hf, ha, hlong, hn⟩ (hall n)⟩
      obtain rfl := hi.unique hn
      refine ⟨fun ht => ⟨noRound_eq hnot3, by rw [hfault, hreason.2 ht], hstep, hrounds, hserv⟩, fun x hx hroom => ?_⟩
      cases href.symm.trans ((htank x hx).trans (if_neg (Nat.not_lt.mpr hroom)))
    | none =>
      obtain ⟨v, c', u, hdrain, hresult, hclaims, hserv, hround, hstep, hnum, hfault, hrounds⟩ := judge_taken k hn' hr' href
      refine ⟨v, c', _, hdrain, hresult, .inl hf, fun hnf => absurd hf hnf, fun _ hna => absurd (ha.symm.trans hna) (by decide),
        fun _ _ ho => absurd ho (not_or.mpr ⟨hnot3, hnotD⟩), fun _ _ l hl hlt => absurd (hlong l hl) (Nat.not_le.mpr hlt),
        fun i ⟨_, _, _, hi⟩ => ?_, fun hall => absurd ⟨hf, ha, hlong, hn⟩ (hall n)⟩
      obtain rfl := hi.unique hn
      refine ⟨fun ht => ?_, fun _ _ _ => ⟨rfl, hstep, hnum, hfault, hrounds, hclaims, u, hserv, hround⟩⟩
      cases href.symm.trans (hnoTank ht)

end

/-! ### What the statement says of a row -/

section
variable {s : State} {c : Check} {h : Head} {r : Row} {x : List Nat}

theorem judgedRow_usable (hx : x.length = 1037) (hu : Usable c.tw c.ts x) (n : RowNote) :
    (judgedRow s c h r x).status = .valid ∧ (judgedRow s c h r x).nozzles.length = 1024
      ∧ (judgedRow s c h r x).checks = min 65535 ((healthRow s h r).checks + 1)
      ∧ (∀ n, n < 1024 → (judgedRow s c h r x).nozzles[n]?
          = some (nozzleState s.checker.windows h r c.tw c.ts n ((x[8 + n]?).getD 0)))
      ∧ (judgedRow s c h r x).counts = ⟨(judgedRow s c h r x).nozzles.count .unchecked, (judgedRow s c h r x).nozzles.count .good,
        (judgedRow s c h r x).nozzles.count .weak, (judgedRow s c h r x).nozzles.count .out,
        (judgedRow s c h r x).nozzles.count .masked⟩
      ∧ judgedNote s c h r x n = { n with valid := some (judgedRow s c h r x).counts } := by
  have hframe := frameVoid_usable hx hu
  have hrow : judgedRow s c h r x = evaluatedRow (classify s.checker.windows h r c.tw c.ts x) (healthRow s h r) := by
    simp only [judgedRow, hframe]
  have hnote : judgedNote s c h r x n = { n with valid := some (judgedRow s c h r x).counts } := by
    simp only [judgedNote, hframe]
  rw [hnote, hrow]
  exact ⟨rfl, classify_length hx, rfl, fun n hn => classify_get hx hn, countsOf_eq _, rfl⟩

theorem judgedRow_unusable (hx : x.length = 1037) (hu : ¬Usable c.tw c.ts x) (n : RowNote) :
    judgedRow s c h r x
        = { healthRow s h r with status := if (healthRow s h r).status = .unchecked then .unchecked else .stale }
      ∧ (Clean c.tw x 0 8 → judgedNote s c h r x n = { n with voided := some .framing })
      ∧ (¬Clean c.tw x 0 8 → judgedNote s c h r x n = { n with voided := some .background }) := by
  obtain ⟨hframing, hbackground⟩ := frameVoid_unusable hx hu
  refine ⟨?_, fun hc => ?_, fun hc => ?_⟩
  · by_cases hc : Clean c.tw x 0 8
    · simp only [judgedRow, hframing hc, voidedRow]
    · simp only [judgedRow, hbackground hc, voidedRow]
  · simp only [judgedNote, hframing hc]
  · simp only [judgedNote, hbackground hc]

/-- A row of the scan is VALID afterwards exactly when its frame was usable (R162). -/
theorem judgedRow_valid (hx : x.length = 1037) : (judgedRow s c h r x).status = .valid ↔ Usable c.tw c.ts x := by
  refine ⟨fun hv => ?_, fun hu => (judgedRow_usable hx hu ⟨none, none⟩).1⟩
  by_contra hu
  rw [(judgedRow_unusable hx hu ⟨none, none⟩).1] at hv
  simp only at hv
  split at hv <;> cases hv

end

/-- Settles O3: the rows as `settleScan_eq` judges them, the head as `judgeHead_rules` rules on it. -/
theorem checkScanIsJudged : Obligations.CheckScanIsJudged := by
  intro s c m h x0 x1 u slot hs hreset hmove hreq hkind hphase hfault h0 h1 hl0 hl1 hhold hsled hclaims hserv hcheck hstep hhead hagain
    hcf hroll hfed howner hseq hcontent hslot hdrive hk hsheet habort sample clean usable old
  have k : ScanOver s c m h x0 x1 := ⟨hreset, hmove, hreq, ⟨u, hphase⟩, hfault, h0, h1, hhold, hsled, hclaims, hserv, hcheck, hstep,
    hhead, hcf, hroll, hfed, howner, hseq, hdrive, hk, hsheet, habort⟩
  have hlen (r : Row) : (laneOf x0 x1 r).length = 1037 := by cases r <;> assumption
  obtain ⟨wet, health, rows, hsettles, hother, hrow⟩ := homeReport_settles k
  have hvalid (r : Row) : ((health.get h).get r).status = .valid ↔ usable r := by
    rw [(hrow r).1]
    exact judgedRow_valid (hlen r)
  have hsome0 : m.scan.done0.isSome = true := by rw [h0]; rfl
  have hsome1 : m.scan.done1.isSome = true := by rw [h1]; rfl
  have hrules := judgeHead_rules (wet := wet) (health := health) (rows := rows)
    (failed := RowFails c ((health.get h).get .r0) ∨ RowFails c ((health.get h).get .r1)) (judged := usable .r0 ∨ usable .r1) k hslot
    (fun hf => hf.elim (verdictOf_fail (r := .r0) hsome0 hsome1) (verdictOf_fail (r := .r1) hsome0 hsome1))
    (fun hf hj => (verdictOf_noFail hsome0 hsome1 fun r hr => hf (by cases r <;> tauto)).1
      (hj.elim (fun hu => ⟨.r0, (hvalid .r0).mpr hu⟩) fun hu => ⟨.r1, (hvalid .r1).mpr hu⟩))
    (fun hf hj => (verdictOf_noFail hsome0 hsome1 fun r hr => hf (by cases r <;> tauto)).2 fun r hr => hj (by
      have hu := (hvalid r).mp hr
      cases r <;> tauto))
  obtain ⟨v, c', new, hdrain, hresult, hruled⟩ := hrules
  have hexec := occur_drained hs Keeps.homeReport (hsettles 900 v le_rfl hdrain)
  have hhealth (h' : Head) (r : Row) : (v.checker.health.get h').get r = (health.get h').get r := by rw [hresult.checker]
  have hescalation (h' : Head) : v.checker.escalation.get h' = (s.checker.escalation.set h new).get h' := by rw [hresult.checker]
  have hjudged (r : Row) : healthRow { v.toState with link := told v.outbox s.link } h r = judgedRow s c h r (laneOf x0 x1 r) :=
    (hhealth h r).trans (hrow r).1
  have hnote (r : Row) : (c'.rows.get h).get r = judgedNote s c h r (laneOf x0 x1 r) ((c.rows.get h).get r) := by
    rw [hresult.rows]
    exact (hrow r).2
  refine ⟨_, c', hexec, ?_, hresult.state, hresult.move, hresult.home, ?_, ?_, ?_, fun h' r hne => ⟨?_, ?_⟩,
    fun h' hne => ⟨?_, ?_⟩, fun r hu => ?_, fun r hu => ?_, ?_⟩
  · exact congrArg Checker.check hresult.checker
  · exact (congrArg Checker.windows hresult.checker :)
  · exact (congrArg Checker.calibOn hresult.checker :)
  · exact (congrArg Checker.calibOff hresult.checker :)
  · exact (hhealth h' r).trans (hother h' r hne).1
  · rw [hresult.rows]
    exact (hother h' r hne).2
  · exact (hescalation h').trans (by rw [Heads.get_set, if_neg hne])
  · exact hresult.rounds h' hne
  · rw [hjudged r, hnote r]
    exact judgedRow_usable (hlen r) hu _
  · rw [hjudged r, hnote r]
    exact judgedRow_unusable (hlen r) hu _
  · intro state fails failed left asked noRound alone
    have hstate : state = new := (hescalation h).trans (Heads.get_set_same _ _ _)
    have hfails (r : Row) : fails r ↔ RowFails c ((health.get h).get r) := by
      have hcounts : (healthRow { v.toState with link := told v.outbox s.link } h r).counts = ((health.get h).get r).counts :=
        congrArg HealthRow.counts (hhealth h r)
      show usable r ∧ (c.outTol < (healthRow { v.toState with link := told v.outbox s.link } h r).counts.out
        ∨ c.weakTol < (healthRow { v.toState with link := told v.outbox s.link } h r).counts.weak) ↔ _
      rw [hcounts, ← hvalid r]
      exact Iff.rfl
    have hfailed : failed ↔ RowFails c ((health.get h).get .r0) ∨ RowFails c ((health.get h).get .r1) :=
      or_congr (hfails .r0) (hfails .r1)
    obtain ⟨more, hmore, hquiet⟩ := hresult.outbox
    rw [hstate]
    refine ⟨⟨more, congrArg (fun o => told o s.link) hmore, hquiet⟩, ?_, fun hf hj => hruled.passes (mt hfailed.mpr hf) hj,
      fun hf ha => hruled.alone (hfailed.mp hf) ha, fun hf ha ho => hruled.spent (hfailed.mp hf) ha ho,
      fun hf ha l hl hlt ho => hruled.short (hfailed.mp hf) ha l hl hlt ho, fun n ⟨hf, ha, hl, hn⟩ => ?_, fun hall =>
      hruled.goesOn fun n ⟨hf, ha, hl, hn⟩ => hall n ⟨hfailed.mpr hf, ha, hl, hn⟩⟩
    · exact hruled.silent.elim (fun hf => .inl (hfailed.mpr hf)) fun hj => .inr (or_assoc.mp hj)
    · obtain ⟨hnone, htaken⟩ := hruled.asked n ⟨hfailed.mp hf, ha, hl, hn⟩
      refine ⟨hnone, fun x hx hroom => ?_⟩
      obtain ⟨hnew, hstep', hround, hfault', hrounds, hclaims', y, hy, his⟩ := htaken x hx hroom
      exact ⟨hnew, hstep', hround, hfault', hrounds, hclaims', y, hy, his.asker, his.level, his.mask, his.head⟩

end Sys2Proof.Machine
end
